-- ==== Sys2Proof/Word.lean ====
section
/-! DEFINITION. The word types of the UA3 and nothing else: a byte of a frame, a two-byte field, a 32-bit word
(R173, R174), and the indexes of ports, claim entries and notice sources. -/

namespace Sys2Proof

/-- One byte of a master port frame (R173). -/
abbrev Byte := BitVec 8

/-- A two-byte field of a frame (R173). -/
abbrev Half := BitVec 16

/-- One word of the service link, and every 32-bit count of the part (R174, R75, R83, R102). -/
abbrev Word := BitVec 32

/-- A master port: MP0, MP1, MP2 (Conventions, "Ports"). -/
abbrev Port := Fin 3

/-- A claim entry, 0 to 15 (R1). -/
abbrev ClaimIdx := Fin 16

end Sys2Proof
end

