-- ==== Sys2Proof/Syntax.lean ====
section
/-! DEFINITION. The commands of the UA3: one constructor of Instr for each row of spec/opcode_table.json, with the
operands the world brings with it. A master's request travels in the sixteen bytes of TRANSACTION_TAKEN and waits in
flight at its port; the row named after a request code (DRAFT, ARM, ...) is the moment its block takes it (R149), so its
one operand is the port. A row of the service link brings the bits that SDI gives since the link's last row, the first sampled first, and
what kind of frame they end is the link's to decode (R160, log 20). -/

namespace Sys2Proof

/-- The result of one read of the humidity sensor (R73). -/
inductive HumidityReading
  /-- not acknowledged, late, or with a wrong check value -/
  | failed
  /-- a result in whole percent RH -/
  | result (rh : Nat)
deriving DecidableEq, Repr

/-- The result of one load-cell conversion (R74). -/
inductive LoadReading
  /-- the bridge reads open or shorted -/
  | failed
  /-- a result in grams -/
  | grams (g : Int)
deriving DecidableEq, Repr

/-- The class straps of one port: true is high (R146). -/
structure Straps where
  cls1 : Bool
  cls0 : Bool
deriving DecidableEq, Repr

/-- Everything the part samples at reset release (R48, R69, R77, R146). -/
structure FirstSamples where
  straps          : Vector Straps 3
  lidClosed       : Bool
  binIn           : Bool
  feedbackEngaged : Bool
  cutoutClosed    : Bool
  /-- the plate reading of the first thermistor report, °C -/
  plate           : Int
  /-- the air reading of the first thermistor report, °C -/
  air             : Int
  humidity        : HumidityReading
  load            : LoadReading
deriving DecidableEq, Repr

/-- What a master clocks into a port in one transaction: the whole bytes, and the number of bits after them that are too
few for a byte (R147). -/
structure ClockedBytes where
  bytes : List Byte
  extra : Nat
deriving DecidableEq, Repr

/-- A transaction that ends without being taken: its port and the clocks that it has had, eight to a byte (R150, R151). -/
structure UntakenTransaction where
  port   : Port
  clocks : Nat
deriving DecidableEq, Repr

/-- The commands, one constructor for each row of spec/opcode_table.json, in the table's order. -/
inductive Instr
  /-- RESET_RELEASE: the line RESET_N rises with these samples at the inputs (R69). -/
  | resetRelease (first : FirstSamples)
  /-- TRANSACTION_START: MPn_SEL goes low (R147). -/
  | transactionStart (p : Port)
  /-- TRANSACTION_TAKEN: MPn_SEL goes high after at least sixteen whole bytes (R147, R148). -/
  | transactionTaken (p : Port) (x : ClockedBytes)
  /-- BUSY_TRANSACTION: a transaction that started with a request in flight ends (R150). -/
  | busyTransaction (x : UntakenTransaction)
  /-- SHORT_TRANSACTION: MPn_SEL goes high after fewer than sixteen whole bytes (R151). -/
  | shortTransaction (x : UntakenTransaction)
  /-- NOP: the port unit takes the port's NOP (R155). -/
  | nop (p : Port)
  /-- STATUS (R155). -/
  | status (p : Port)
  /-- NOTICE_READ (R159). -/
  | noticeRead (p : Port)
  /-- NOTICE_CLEAR (R159). -/
  | noticeClear (p : Port)
  /-- NOTICE_LEVEL (R159). -/
  | noticeLevel (p : Port)
  /-- ACCESS_READ (R153). -/
  | accessRead (p : Port)
  /-- ACCESS_WRITE (R153). -/
  | accessWrite (p : Port)
  /-- PORT_RESET (R156). -/
  | portReset (p : Port)
  /-- ROTOR_READ (R99). -/
  | rotorRead (p : Port)
  /-- DRAFT (R6, R7). -/
  | draft (p : Port)
  /-- ARM (R8, R9). -/
  | arm (p : Port)
  /-- DISARM (R11). -/
  | disarm (p : Port)
  /-- ALTER (R12). -/
  | alter (p : Port)
  /-- CLAIM_READ (R13). -/
  | claimRead (p : Port)
  /-- BATCH_READ (R115). -/
  | batchRead (p : Port)
  /-- BATCH_RESERVE (R133). -/
  | batchReserve (p : Port)
  /-- BATCH_COMMIT (R134, R135). -/
  | batchCommit (p : Port)
  /-- RETIRED_PEEK (R141). -/
  | retiredPeek (p : Port)
  /-- RETIRED_TAKE (R142). -/
  | retiredTake (p : Port)
  /-- HALT_CLEAR (R67). -/
  | haltClear (p : Port)
  /-- TUNING_READ (R170). -/
  | tuningRead (p : Port)
  /-- TUNING_WRITE (R171). -/
  | tuningWrite (p : Port)
  /-- BUDGET_WRITE: the arbiter takes the oldest budget write that waits for it (R172). -/
  | budgetWrite
  /-- ARBITRATION_PASS: the arbiter runs a pass; together says whether it answers every reported event or one (R30). -/
  | arbitrationPass (together : Bool)
  /-- GRANT: the claim table takes the pass's next request, a grant (R17). -/
  | grant
  /-- YIELD: the claim table takes the pass's next request, a yield (R14). -/
  | yield
  /-- CHAMBER_CLOCK_INCREMENT: a second of the chamber clock ends (R75). -/
  | chamberClockIncrement
  /-- RUN_TIME_EXPIRY of one entry (R22). -/
  | runTimeExpiry (i : ClaimIdx)
  /-- DEADLINE_EXPIRY of one entry (R23). -/
  | deadlineExpiry (i : ClaimIdx)
  /-- LID_SWITCH_CHANGE: the filtered lid switch takes this level (R48, R49). -/
  | lidSwitchChange (closed : Bool)
  /-- BIN_SWITCH_CHANGE: the filtered bin switch takes this level (R48, R49). -/
  | binSwitchChange (closed : Bool)
  /-- LATCH_FEEDBACK_CHANGE: the filtered latch feedback takes this level (R48, R61). -/
  | latchFeedbackChange (engaged : Bool)
  /-- CUTOUT_CHANGE: the filtered cutout line takes this level (R48, R58). -/
  | cutoutChange (closed : Bool)
  /-- DISAGREEMENT_TIMER_EXPIRY (R61). -/
  | disagreementTimerExpiry
  /-- THERMISTOR_REPORT with the two readings, °C (R70). -/
  | thermistorReport (plate air : Int)
  /-- LOAD_CELL_CONVERSION with its reading (R74). -/
  | loadCellConversion (reading : LoadReading)
  /-- DOSE_SAMPLE with the humidity conversion read for it (R76, R117). -/
  | doseSample (humidity : HumidityReading)
  /-- GRIND_CREDIT: the batch unit takes one revolution (R121). -/
  | grindCredit
  /-- ROTOR_PULSE: a rising edge of the ROTOR line that holds (R83). -/
  | rotorPulse
  /-- ROTOR_AT_REST: the rest timer reaches 1 second (R87). -/
  | rotorAtRest
  /-- START_GRACE_RUNS_OUT (R90). -/
  | startGraceRunsOut
  /-- STALL_DEADLINE_PASSED (R91). -/
  | stallDeadlinePassed
  /-- JOG_PHASE_END of FIRST_STOP, REVERSE or SECOND_STOP (R93). -/
  | jogPhaseEnd
  /-- PROBE_WINDOW_END (R94). -/
  | probeWindowEnd
  /-- ON_TIME_END (R92). -/
  | onTimeEnd
  /-- OFF_TIME_END (R92). -/
  | offTimeEnd
  /-- CLEAN_RUN_TIMER_EXPIRY (R96). -/
  | cleanRunTimerExpiry
  /-- MASS_BEFORE_SAMPLE: the batch unit takes a secured lost (R105). -/
  | massBeforeSample
  /-- MASS_AFTER_SETTLE_START: the batch unit takes a secured gained (R107). -/
  | massAfterSettleStart
  /-- MASS_AFTER_SETTLE_END (R107). -/
  | massAfterSettleEnd
  /-- BIN_INSERTION: the batch unit takes a bin insertion (R106). -/
  | binInsertion
  /-- TARE_SETTLE_END (R106). -/
  | tareSettleEnd
  /-- RETIREMENT: the batch unit takes a bin removal (R138). -/
  | retirement
  /-- IDLE_FRAME: the bits end a command frame with command 0 (R161). -/
  | idleFrame (bits : List Bool)
  /-- UNKNOWN_COMMAND_FRAME: the bits end a command frame whose command is not 0 to 5 (R161). -/
  | unknownCommandFrame (bits : List Bool)
  /-- PEEK: the bits of this frame that are still to be sampled end the frame under way: command 1, table, entry, word and
  the last 8 bits, which are not checked (R160, R163). -/
  | peek (table : BitVec 4) (entry word low : Byte)
  /-- POKE: in the same way the address frame of a POKE, command 2 (R160, R164). -/
  | poke (table : BitVec 4) (entry word low : Byte)
  /-- POKE_DATA_FRAME: the bits end the second frame of a POKE (R164, R165). -/
  | pokeDataFrame (bits : List Bool)
  /-- VERIFY_FRAME: the bits end the third frame of a POKE (R164). -/
  | verifyFrame (bits : List Bool)
  /-- WATCH: the bits end a command frame with command 3 (R166). -/
  | watch (bits : List Bool)
  /-- TOUCHED: the bits end a command frame with command 4 (R166). -/
  | touched (bits : List Bool)
  /-- CALL: the bits end a command frame with command 5 (R161). -/
  | call (bits : List Bool)
  /-- RESYNC: the ones that are left to a run of 64 arrive on SDI (R167). -/
  | resync
deriving DecidableEq, Repr

end Sys2Proof
end

