-- ==== Sys2Proof/Decode.lean ====
section
/-! DEFINITION. The command a word spells by the bits of spec/opcode_table.json. The table gives bits for none of its
rows (every row's "fields" is empty), so no word spells a command: the answer is none. How a master's request bytes and a
service frame's bits are read is the machine's (Machine/Operands.lean). -/

namespace Sys2Proof

/-- The command that a word of nbits bits spells by the table's own bits: none, for every word. -/
def decodeTableWord (nbits w : Nat) : Option Instr :=
  match nbits, w with
  | _, _ => none

end Sys2Proof
end

