-- ==== Sys2Proof/Config.lean ====
section
/-! DEFINITION. What the spec fixes once for every UA3: the lengths of the timers, the limits of the tables and the
thirteen rows of the tuning table. The spec leaves no value open after a command, so there is no free value here. -/

namespace Sys2Proof.Config

/-- Microseconds in one millisecond. -/
def msec : Nat := 1000
/-- Microseconds in one second. -/
def second : Nat := 1000000

/-- How long the ROTOR line stays high after the rising edge of a pulse before the pulse is taken (R83). -/
def pulseFilter : Nat := 200
/-- Length of a start grace, 1500 milliseconds (R90). -/
def graceLength : Nat := 1500 * msec
/-- The nominal period set at the end of a start grace, in microseconds (R84, R90). -/
def nominalPeriod : Nat := 250000
/-- Time with the output OFF and no pulse after which the rotor is at rest (R87). -/
def restLength : Nat := second
/-- Length of FIRST_STOP and of SECOND_STOP (R93). -/
def stopLength : Nat := 500 * msec
/-- Length of the jog's REVERSE phase (R93). -/
def reverseLength : Nat := second
/-- Length of the probe window (R94). -/
def probeLength : Nat := 2 * second
/-- Accepted pulses that make a probe succeed (R94). -/
def probePulses : Nat := 8
/-- Failed probes that declare a jam (R94, R95). -/
def maxAttempts : Nat := 3
/-- The clean-run timer's length (R96). -/
def cleanRunLength : Nat := 30 * second
/-- Measured periods in a row that set or clear the laboured flag (R88). -/
def labouredRun : Nat := 10
/-- Consecutive EARLY pulses that report ROTOR_SENSOR (R85). -/
def earlyRun : Nat := 4
/-- Pulse records in the capture ring (R83). -/
def ringSize : Nat := 8

/-- The latch disagreement timer's length (R61). -/
def disagreementLength : Nat := second
/-- The tare settle's length (R106). -/
def tareLength : Nat := second
/-- The mass-after settle's length (R107). -/
def settleLength : Nat := 2 * second

/-- Batch records in the batch table (R101). -/
def batchSize : Nat := 8
/-- Summaries in the retired queue (R140). -/
def retiredSize : Nat := 6
/-- Where dose and grind saturate (R102). -/
def counterTop : Nat := 65535
/-- The greatest mass, in grams (R102, R111). -/
def massTop : Nat := 20000
/-- Where the dry run count holds (R119). -/
def dryRunTop : Nat := 600

/-- The clock increments from one dose sample to the next (R76). -/
def sampleDivision : Nat := 6

/-- The least and the greatest valid thermistor conversion, °C (R70). -/
def validLow : Int := -20
def validHigh : Int := 250
/-- The two ends of the thermistor converter's span, °C (R70). -/
def spanLow : Int := -40
def spanHigh : Int := 300
/-- The span of the load-cell converter, grams (R74). -/
def loadLow : Int := -2000
def loadHigh : Int := 24000

/-- How far below its limit the plate and the air must fall before OVERHEAT ceases to be active, °C (R57). -/
def plateHysteresis : Int := 15
def airHysteresis : Int := 10
/-- The heater's band below the setpoint, °C (R79). -/
def heaterBand : Int := 3

/-- One row of the tuning table (R169). -/
structure TuningRow where
  lowest  : Nat
  highest : Nat
  default : Nat
deriving DecidableEq, Repr

/-- The thirteen rows of the tuning table (R169). -/
def tuningRows : Vector TuningRow 13 :=
  #v[⟨300, 1800, 900⟩,   -- 0 budget, W
     ⟨0, 16, 8⟩,         -- 1 yield level
     ⟨50, 100, 70⟩,      -- 2 dose floor, °C
     ⟨0, 65535, 6000⟩,   -- 3 required dose
     ⟨0, 65535, 1500⟩,   -- 4 required grind
     ⟨5, 60, 20⟩,        -- 5 dry target, % RH
     ⟨1, 600, 50⟩,       -- 6 dry settle, samples
     ⟨10, 500, 30⟩,      -- 7 load threshold, g
     ⟨120, 220, 190⟩,    -- 8 plate limit, °C
     ⟨80, 150, 120⟩,     -- 9 air limit, °C
     ⟨30, 100, 70⟩,      -- 10 open limit, °C
     ⟨0, 100, 60⟩,       -- 11 lid-vent duty, %
     ⟨100, 2000, 500⟩]   -- 12 laboured period, ms

end Sys2Proof.Config
end

