-- ==== Sys2Proof/Machine/State.lean ====
section
/-! DEFINITION. The state of the UA3, block by block as spec/00 lists the blocks, as plain data: every register, table,
timer and line the spec names, what one block has handed to another and the other has not yet taken, and the queue of
commands. Reset values are those of the head tables of the chapters (log 5 and log 6 for the rest). -/

namespace Sys2Proof.Machine

/-! ## The claim table (spec/01) -/

/-- The kind of a claim (R2). -/
inductive Kind
  | drive
  | curb
deriving DecidableEq, Repr

/-- The actuator of a DRIVE claim or the curb target of a CURB claim (R2). -/
inductive Target
  | heater
  | grinder
  | fan
  | latch
  | none
deriving DecidableEq, Repr

/-- The life-cycle state of an entry (R4, R5). -/
inductive ClaimState
  | free
  | draft
  | pending
  | granted
  | held
  | ended
deriving DecidableEq, Repr

/-- Why a claim last ended (R4). -/
inductive ClaimOutcome
  | none
  | done
  | withdrawn
  | lapsed
  | preempted
  | interrupted
  | jammed
deriving DecidableEq, Repr

/-- The parameter fields of a claim, kept once staged and once active (R2). The setting is kept in the two fields of
layout C, as written (R3, R173). -/
structure Params where
  kind       : Kind
  target     : Target
  settingA   : Byte
  settingB   : Half
  /-- watts -/
  demand     : Nat
  /-- watts -/
  reduction  : Nat
  level      : Fin 16
  bulk       : Bool
  oneShot    : Bool
  singleTry  : Bool
  /-- seconds -/
  duration   : Nat
  /-- seconds; 0 is none -/
  deadline   : Nat
  followOn   : Option ClaimIdx
deriving DecidableEq, Repr

/-- One entry of the claim table (R2, R4). -/
structure Claim where
  state       : ClaimState
  owner       : Option Port
  staged      : Params
  active      : Params
  /-- remaining run time, seconds -/
  remRun      : Nat
  /-- remaining deadline, seconds -/
  remDeadline : Nat
  outcome     : ClaimOutcome
  grantStamp  : Option Word
  yielded     : Bool
  arming      : Word
deriving DecidableEq, Repr

/-- Every parameter field at the zero value of its encoding (R1, R173). -/
def Params.zero : Params :=
  { kind := .drive, target := .heater, settingA := 0, settingB := 0, demand := 0, reduction := 0, level := 0
    bulk := false, oneShot := false, singleTry := false, duration := 0, deadline := 0, followOn := none }

/-- A FREE entry: the free values of R1, with the arming number, which is not among them (R4). -/
def Claim.free (arming : Word) : Claim :=
  { state := .free, owner := none, staged := .zero, active := .zero, remRun := 0, remDeadline := 0
    outcome := .none, grantStamp := none, yielded := false, arming := arming }

/-- The claim table: sixteen entries (R1). -/
abbrev Table := Vector Claim 16

/-! ## The arbiter (spec/02): what it has issued or been told and nobody has taken yet -/

/-- A request of the arbiter to the claim table (R31). -/
inductive Request
  /-- A holder must give up its actuator (R14); displaced says that the turn's grant is on that same actuator (R44). -/
  | yield (i : ClaimIdx) (displaced : Bool)
  /-- A PENDING claim, in the arming that the pass read, is to be granted (R17, R31). -/
  | grant (i : ClaimIdx) (arming : Word)
deriving DecidableEq, Repr

/-- A displacement whose yield has been taken and whose grant has not: the actuator that passes from one holder to the
next in one turn, and the duty its old holder had if it is the fan (R44, log 9). -/
structure Handover where
  target : Target
  duty   : Nat
deriving DecidableEq, Repr

structure Arbiter where
  /-- the requests of the pass under way that the claim table has not yet taken, oldest first (R30, R31) -/
  requests       : List Request
  /-- events of R29 reported while no pass was under way and not yet answered (log 8) -/
  reports        : Nat
  /-- some event of R29 was reported during the pass under way, or the last one (R30, log 8) -/
  reportedDuring : Bool
  handover       : Option Handover
  /-- budget writes of the ports that have passed their range check and wait for the arbiter, oldest first (R172) -/
  budgetWrites   : List (Port × Nat)
deriving DecidableEq, Repr

/-! ## The interlock and trip unit (spec/03) -/

/-- The latch command (R53). -/
inductive LatchCommand
  | engage
  | release
deriving DecidableEq, Repr

/-- The seven trip causes (R55). -/
inductive Cause
  | overheat
  | cutout
  | thermalSensor
  | lidForced
  | latchFault
  | jam
  | rotorSensor
deriving DecidableEq, Repr

/-- A set of trip causes: cause n in bit n − 1, as the formats carry it (R55, R173). -/
abbrev CauseSet := BitVec 7

structure Interlock where
  lidClosed       : Bool
  binIn           : Bool
  feedbackEngaged : Bool
  cutoutClosed    : Bool
  secured         : Bool
  latchCommand    : LatchCommand
  /-- idle, or the time at which the disagreement began (R61) -/
  disagreement    : Option Nat
  /-- the active flag of each cause (R55) -/
  active          : CauseSet
  causes          : CauseSet
  firstCause      : Option Cause
  haltLatch       : Bool
deriving DecidableEq, Repr

/-! ## Sensors, clock and drives (spec/04) -/

/-- A stored thermistor conversion with its fault mark (R70). -/
structure Conversion where
  value   : Int
  faulted : Bool
deriving DecidableEq, Repr

structure Sensors where
  plate          : Conversion
  air            : Conversion
  plateBelowOpen : Bool
  humidity       : Nat
  humidityFault  : Bool
  mass           : Nat
  loadFault      : Bool
  clock          : Word
  divider        : Nat
  /-- dose samples that have fallen due and have not been taken (R76) -/
  samplesDue     : Nat
deriving DecidableEq, Repr

structure Drives where
  heaterOn : Bool
  fanDuty  : Nat
deriving DecidableEq, Repr

/-! ## The rotor monitor (spec/05) -/

/-- The grinder drive's output, and a claim's direction (R83, R89). -/
inductive Direction
  | off
  | forward
  | reverse
deriving DecidableEq, Repr

/-- The drive mode (R89). -/
inductive DriveMode
  | idle
  | driving
  | offPhase
  | jogging
deriving DecidableEq, Repr

/-- The phase of a jog (R93). -/
inductive JogPhase
  | none
  | firstStop
  | reverse
  | secondStop
  | probe
deriving DecidableEq, Repr

/-- The pattern timer: idle, or running since a time in the on or the off phase (R92). -/
inductive PatternTimer
  | idle
  | on (since : Nat)
  | off (since : Nat)
deriving DecidableEq, Repr

/-- One record of the capture ring (R83). -/
structure PulseRecord where
  stamp     : Word
  direction : Direction
  early     : Bool
deriving DecidableEq, Repr

/-- The setting of a GRINDER claim (R3). -/
structure GrinderSetting where
  direction : Direction
  pulsed    : Bool
  /-- seconds -/
  onTime    : Nat
  /-- seconds -/
  offTime   : Nat
deriving DecidableEq, Repr

structure Rotor where
  ring          : List PulseRecord
  /-- microseconds since reset release of the rising edge of the last ACCEPTED pulse; its low 32 bits are the counter
  value that R84 names, and the stall deadline of R91 is reckoned from it -/
  lastAccepted  : Option Nat
  /-- microseconds -/
  period        : Option Nat
  earlyCount    : Nat
  quarterCount  : Nat
  revolutions   : Word
  atRest        : Bool
  /-- stopped, or the time from which it runs (R87) -/
  restTimer     : Option Nat
  mode          : DriveMode
  output        : Direction
  /-- idle, or its start time (R90) -/
  grace         : Option Nat
  jogPhase      : JogPhase
  /-- the time at which the jog phase began (R93) -/
  phaseStart    : Nat
  probeCount    : Nat
  attempts      : Nat
  /-- the entry and the arming to which the attempt count belongs (R96) -/
  attemptClaim  : Option (ClaimIdx × Word)
  /-- idle, or its start time (R96) -/
  cleanRun      : Option Nat
  pattern       : PatternTimer
  offPhaseDue   : Bool
  laboured      : Bool
  aboveCount    : Nat
  belowCount    : Nat
  /-- the setting of the claim that drives the grinder, as applied at its entry into GRANTED (R17) -/
  setting       : GrinderSetting
  /-- revolutions handed to the batch unit that it has not yet taken (R86) -/
  handed        : Nat
deriving DecidableEq, Repr

/-! ## The batch unit (spec/06, spec/07, spec/08) -/

/-- The state of a batch record (R103). -/
inductive BatchState
  | fresh
  | treating
  | cured
deriving DecidableEq, Repr

/-- One batch record (R102). -/
structure BatchRecord where
  seq           : Word
  state         : BatchState
  mass          : Option Nat
  dose          : Nat
  grind         : Nat
  openedAt      : Word
  curedAt       : Option Word
  merged        : Bool
  tag           : Half
  doseOverride  : Option Half
  grindOverride : Option Half
deriving DecidableEq, Repr

/-- A mass sample: grams and the fault mark (R74, R105). -/
structure MassSample where
  grams : Nat
  fault : Bool
deriving DecidableEq, Repr

/-- The mass-after settle (R107). -/
inductive Settle
  | idle
  | running (since : Nat)
  | cut
deriving DecidableEq, Repr

/-- The state of the bin's contents (R120). -/
inductive Mix
  | empty
  | wet
  | dry
deriving DecidableEq, Repr

/-- A port's reservation (R132). -/
inductive Reservation
  | none
  | intact (seq : Word)
  | broken (seq : Word)
deriving DecidableEq, Repr

/-- The summary of a retired batch (R139). -/
structure Summary where
  seq       : Word
  finished  : Bool
  mass      : Option Nat
  dose      : Nat
  grind     : Nat
  openedAt  : Word
  curedAt   : Option Word
  retiredAt : Word
  tag       : Half
  overrun   : Bool
deriving DecidableEq, Repr

/-- What the interlock and trip unit hands to the batch unit of the secured condition (R49). -/
inductive SecuredEvent
  | lost
  | gained
deriving DecidableEq, Repr

/-- What the interlock and trip unit hands to the batch unit of the bin switch (R49). -/
inductive BinEvent
  | removed
  | inserted
deriving DecidableEq, Repr

structure BatchUnit where
  records       : List BatchRecord
  nextSeq       : Word
  massBefore    : Option MassSample
  /-- idle, or the time of the bin insertion (R106) -/
  tareSettle    : Option Nat
  settle        : Settle
  mix           : Mix
  dryRun        : Nat
  finished      : Bool
  reservations  : Vector Reservation 3
  retired       : List Summary
  /-- handed over and not yet taken, oldest first (R49, log 16) -/
  securedEvents : List SecuredEvent
  /-- handed over and not yet taken, oldest first (R49, log 16) -/
  binEvents     : List BinEvent
deriving DecidableEq, Repr

/-! ## The master ports (spec/09) -/

/-- The class of a port (R146). -/
inductive PortClass
  | control
  | panel
  | link
  | none
deriving DecidableEq, Repr

/-- An access record (R152). -/
structure Access where
  heater    : Bool
  grinder   : Bool
  fan       : Bool
  latch     : Bool
  curb      : Bool
  annotate  : Bool
  tuning    : Bool
  haltClear : Bool
  access    : Bool
  floor     : Nat
deriving DecidableEq, Repr

/-- The status of a reply (R154). -/
inductive Status
  | ok
  | busy
  | unknown
  | disabled
  | denied
  | notOwner
  | state
  | range
  | chain
  | level
  | full
  | conflict
  | empty
  | notFound
  | noReservation
  | lost
  | activeCause
deriving DecidableEq, Repr

/-- A reply: status, echo and fourteen data bytes (R173). -/
structure Reply where
  status : Status
  echo   : Byte
  data   : List Byte
deriving DecidableEq, Repr

/-- A transaction in progress: whether it started with the flight IDLE, and the reply that MPn_DOUT shifts out (R147). -/
structure Transaction where
  startedIdle : Bool
  shiftedOut  : Reply
deriving DecidableEq, Repr

/-- The sixteen notice sources (R157). -/
inductive Source
  | trip
  | haltCleared
  | granted
  | ended
  | interrupted
  | chainBroken
  | jog
  | laboured
  | batchOpened
  | batchMerged
  | batchCured
  | mixDry
  | finished
  | retired
  | reservationLost
  | serviceCall
deriving DecidableEq, Repr

structure PortState where
  cls         : PortClass
  access      : Access
  /-- IDLE, or the sixteen bytes of the request in flight, the first of which is its command code (R148) -/
  flight      : Option (List Byte)
  reply       : Reply
  /-- the reply has been delivered and the next one has not been formed (R148) -/
  consumed    : Bool
  transaction : Option Transaction
  /-- the bits that MPn_DOUT shifted out in the transaction that ended last, one for each clock (R147, R150, R151) -/
  dout        : List Bool
  /-- the pending set: source n in bit n (R157, R173) -/
  notices     : Half
  levels      : Vector (Fin 16) 16
  attn        : Bool
deriving DecidableEq, Repr

/-! ## The service link (spec/10) -/

/-- The service snapshot (R163). -/
structure Snapshot where
  table : Nat
  entry : Nat
  words : List Word
deriving DecidableEq, Repr

/-- The POKE phase (R164). -/
inductive PokePhase
  | none
  | data (table entry word : Nat) (seq : Option Word)
  | verify (accepted : Bool)
deriving DecidableEq, Repr

/-- The last-touched record (R166). -/
inductive Touched
  | claim (i : ClaimIdx)
  | batch (position : Nat) (seq : Word)
deriving DecidableEq, Repr

structure Link where
  /-- the bits of the frame under way, in the order in which they were sampled; their number is the bit count (R160) -/
  sampled  : List Bool
  onesRun  : Nat
  /-- the pending answer, shifted out on SDO during the next frame (R160) -/
  answer   : Word
  snapshot : Option Snapshot
  phase    : PokePhase
  touched  : Option Touched
  /-- the SCK periods for which SACK is low after the last frame (R161); 0 before the first (R168) -/
  sack     : Nat
deriving DecidableEq, Repr

/-! ## The part -/

/-- The state of the UA3. -/
structure State where
  claims    : Vector Claim 16
  arbiter   : Arbiter
  interlock : Interlock
  sensors   : Sensors
  drives    : Drives
  rotor     : Rotor
  batch     : BatchUnit
  ports     : Vector PortState 3
  /-- the thirteen tuning values, in the order of R169 -/
  tuning    : Vector Nat 13
  link      : Link
  /-- microseconds since reset release; its low 32 bits are the rotor monitor's microsecond counter (R83, log 1) -/
  time      : Nat
  /-- the commands that wait, first in first out -/
  pending   : List Instr
deriving DecidableEq, Repr

/-- The reasons for which the part stops: none. The spec names no event that stops it (log 23). -/
inductive Fault
deriving DecidableEq, Repr

/-- The reasons for which a command has no answer. -/
inductive Refusal
  /-- Raised by exec for a command that has no meaning yet, under the table's mnemonic. Safe: the model stops. -/
  | notModelled (mnemonic : String)
deriving DecidableEq, Repr

/-! ## Reset -/

/-- The access record of each class (R152). -/
def Access.ofClass : PortClass → Access
  | .control => ⟨true, true, true, true, true, true, true, true, true, 0⟩
  | .panel   => ⟨false, false, true, true, true, true, false, true, false, 2⟩
  | .link    => ⟨false, false, true, false, true, true, false, false, false, 6⟩
  | .none    => ⟨false, false, false, false, false, false, false, false, false, 14⟩

/-- Fourteen data bytes that are zero. -/
def zeroData : List Byte := [0, 0, 0, 0, 0, 0, 0, 0, 0, 0, 0, 0, 0, 0]

/-- The empty reply: status OK, echo NOP, data zero (R145). -/
def Reply.emptyReply : Reply := { status := .ok, echo := 0, data := zeroData }

/-- A port right after reset release (R145, R152, R158). -/
def PortState.reset (cls : PortClass) : PortState :=
  { cls := cls, access := .ofClass cls, flight := none, reply := .emptyReply, consumed := false, transaction := none
    dout := [], notices := 0, levels := #v[0, 15, 15, 15, 15, 15, 15, 15, 15, 15, 15, 15, 15, 15, 15, 15], attn := false }

/-- The arbiter right after reset release: nothing issued, nothing reported. -/
def Arbiter.reset : Arbiter :=
  { requests := [], reports := 0, reportedDuring := false, handover := none, budgetWrites := [] }

/-- The interlock and trip unit before its first samples are judged (spec/03, head table; the samples of log 5). -/
def Interlock.reset : Interlock :=
  { lidClosed := false, binIn := false, feedbackEngaged := false, cutoutClosed := true, secured := false
    latchCommand := .engage, disagreement := none, active := 0, causes := 0, firstCause := none, haltLatch := false }

/-- The sensor block right after reset release (spec/04, head table; the samples of log 5). -/
def Sensors.reset : Sensors :=
  { plate := ⟨0, false⟩, air := ⟨0, false⟩, plateBelowOpen := true, humidity := 0, humidityFault := false
    mass := 0, loadFault := false, clock := 0, divider := 0, samplesDue := 0 }

/-- The rotor monitor right after reset release (R100). -/
def Rotor.reset : Rotor :=
  { ring := [], lastAccepted := none, period := none, earlyCount := 0, quarterCount := 0, revolutions := 0
    atRest := false, restTimer := some 0, mode := .idle, output := .off, grace := none, jogPhase := .none
    phaseStart := 0, probeCount := 0, attempts := 0, attemptClaim := none, cleanRun := none, pattern := .idle
    offPhaseDue := false, laboured := false, aboveCount := 0, belowCount := 0
    setting := ⟨.forward, false, 0, 0⟩, handed := 0 }

/-- The batch unit right after reset release, the chamber not secured (R116, R130, R144). -/
def BatchUnit.reset : BatchUnit :=
  { records := [], nextSeq := 1, massBefore := none, tareSettle := none, settle := .idle, mix := .empty
    dryRun := 0, finished := false, reservations := #v[.none, .none, .none], retired := []
    securedEvents := [], binEvents := [] }

/-- The service link right after reset release (R168). -/
def Link.reset : Link :=
  { sampled := [], onesRun := 0, answer := 0, snapshot := none, phase := .none, touched := none, sack := 0 }

/-- The sixteen entries right after reset release: FREE, arming number 0 (R1, R4). -/
def Table.reset : Vector Claim 16 :=
  #v[.free 0, .free 0, .free 0, .free 0, .free 0, .free 0, .free 0, .free 0,
     .free 0, .free 0, .free 0, .free 0, .free 0, .free 0, .free 0, .free 0]

/-- The tuning values right after reset release: the defaults (R169). -/
def tuningDefaults : Vector Nat 13 := #v[900, 8, 70, 6000, 1500, 20, 50, 30, 190, 120, 70, 60, 500]

/-- The part right after reset release. The inputs that reset release samples are the ones log 5 names: MP0 CONTROL,
MP1 PANEL, MP2 LINK, lid open, bin out, feedback RELEASED, cutout closed, every conversion 0 and not faulted. -/
def State.reset : State :=
  { claims := Table.reset, arbiter := .reset, interlock := .reset, sensors := .reset
    drives := ⟨false, 0⟩, rotor := .reset, batch := .reset
    ports := #v[.reset .control, .reset .panel, .reset .link]
    tuning := tuningDefaults, link := .reset, time := 0, pending := [] }

end Sys2Proof.Machine
end

