-- ==== Sys2Proof/Machine/Flags.lean ====
section
/-! DEFINITION. The flag computations: the trip cause set and its active flags (R55), the ports' pending sets, top notice
and attention lines (R157, R158), and how a block posts a notice. -/

namespace Sys2Proof.Machine

/-! ## Trip causes -/

/-- The bit of a cause: its number less one (R55, R173). -/
def Cause.bit : Cause → Nat
  | .overheat => 0
  | .cutout => 1
  | .thermalSensor => 2
  | .lidForced => 3
  | .latchFault => 4
  | .jam => 5
  | .rotorSensor => 6

/-- The set that holds one cause alone. -/
def Cause.mask (c : Cause) : CauseSet := 1#7 <<< c.bit

/-- The cause is in the set. -/
def CauseSet.has (set : CauseSet) (c : Cause) : Bool := set.getLsbD c.bit

/-- The set with the cause added. -/
def CauseSet.insert (set : CauseSet) (c : Cause) : CauseSet := set ||| c.mask

/-- The set with the cause taken out. -/
def CauseSet.erase (set : CauseSet) (c : Cause) : CauseSet := set &&& ~~~ c.mask

/-- JAM and ROTOR_SENSOR are never active (R56). -/
def Cause.momentary : Cause → Bool
  | .jam | .rotorSensor => true
  | .overheat | .cutout | .thermalSensor | .lidForced | .latchFault => false

/-! ## Notices -/

/-- The number of a notice source (R157). -/
def Source.number : Source → Fin 16
  | .trip => 0
  | .haltCleared => 1
  | .granted => 2
  | .ended => 3
  | .interrupted => 4
  | .chainBroken => 5
  | .jog => 6
  | .laboured => 7
  | .batchOpened => 8
  | .batchMerged => 9
  | .batchCured => 10
  | .mixDry => 11
  | .finished => 12
  | .retired => 13
  | .reservationLost => 14
  | .serviceCall => 15

/-- The pending set that holds one source alone. -/
def Source.mask (n : Source) : Half := 1#16 <<< n.number.val

/-- The numbers 0 to 15, in order. -/
def all16 : List (Fin 16) := [0, 1, 2, 3, 4, 5, 6, 7, 8, 9, 10, 11, 12, 13, 14, 15]

/-- The levels that do not mask a source, most urgent first (R158). -/
def unmaskedLevels : List (Fin 16) := [0, 1, 2, 3, 4, 5, 6, 7, 8, 9, 10, 11, 12, 13, 14]

/-- The ports, in order. -/
def allPorts : List Port := [0, 1, 2]

/-- The source is pending at the port. -/
def PortState.isPending (q : PortState) (n : Fin 16) : Bool := q.notices.getLsbD n.val

/-- The port's top notice: the pending source with the lowest level below 15, and among equal levels the lowest source
number (R158). -/
def PortState.topNotice (q : PortState) : Option (Fin 16) :=
  unmaskedLevels.findSome? fun l => all16.find? fun n => q.isPending n && q.levels.get n == l

/-- The port is enabled (R146). -/
def PortState.enabled (q : PortState) : Bool := decide (q.cls ≠ .none)

/-- The state of the attention line that R158 gives. -/
def PortState.attnWanted (q : PortState) : Bool := q.enabled && q.topNotice.isSome

/-- The port with its attention line brought up to date (R158). -/
def PortState.refresh (q : PortState) : PortState := { q with attn := q.attnWanted }

/-- The port of that number. -/
def State.port (s : State) (p : Port) : PortState := s.ports.get p

/-- Change one port's state; its attention line follows in the same event (R158). -/
def State.updPort (s : State) (p : Port) (f : PortState → PortState) : State :=
  { s with ports := s.ports.set p (f (s.port p)).refresh }

/-- The port with the source's flag set in its pending set (R157). -/
def PortState.postNotice (n : Source) (q : PortState) : PortState := { q with notices := q.notices ||| n.mask }

/-- Post a notice to one port (R157). -/
def State.post (s : State) (n : Source) (p : Port) : State := s.updPort p (PortState.postNotice n)

/-- Post a notice to every port, whatever its class (R157). -/
def State.postAll (s : State) (n : Source) : State := ((s.post n 0).post n 1).post n 2

/-- Post a notice to the owner of a claim, if there is one (R157). -/
def State.postOwner (s : State) (n : Source) (owner : Option Port) : State :=
  match owner with
  | some p => s.post n p
  | none => s

end Sys2Proof.Machine
end

