-- ==== Sys2Proof/Machine/Ops.lean ====
section
/-! DEFINITION. The shared operations on the claim table, the rotor monitor, the latch, the heater, the fan and the halt:
what several commands do in one event. Each event that can move a claim or an output is closed by conclude, which lets
the outputs follow (R53, R78, R81, R89) and sets the last-touched latch (R166). A block has no exception entry: raising
a trip cause (R63) is the effect on State that stands in its place. -/

namespace Sys2Proof.Machine

/-! ## Time -/

/-- The rotor monitor's microsecond counter (R83): the low 32 bits of the time. -/
def State.usCounter (s : State) : Word := BitVec.ofNat 32 s.time

/-- A timer that began at a time has run its length (log 3). -/
def State.hasRun (s : State) (since length : Nat) : Bool := decide (since + length ≤ s.time)

/-! ## Tuning values (R169) -/

def State.budget (s : State) : Nat := s.tuning.get 0
def State.yieldLevel (s : State) : Nat := s.tuning.get 1
def State.doseFloor (s : State) : Nat := s.tuning.get 2
def State.requiredDose (s : State) : Nat := s.tuning.get 3
def State.requiredGrind (s : State) : Nat := s.tuning.get 4
def State.dryTarget (s : State) : Nat := s.tuning.get 5
def State.drySettle (s : State) : Nat := s.tuning.get 6
def State.loadThreshold (s : State) : Nat := s.tuning.get 7
def State.plateLimit (s : State) : Nat := s.tuning.get 8
def State.airLimit (s : State) : Nat := s.tuning.get 9
def State.openLimit (s : State) : Nat := s.tuning.get 10
def State.lidVentDuty (s : State) : Nat := s.tuning.get 11
def State.labouredPeriod (s : State) : Nat := s.tuning.get 12

/-! ## The claim table -/

/-- The entry of that index. -/
def State.claim (s : State) (i : ClaimIdx) : Claim := s.claims.get i

/-- The state with one entry replaced. -/
def State.setClaim (s : State) (i : ClaimIdx) (c : Claim) : State := { s with claims := s.claims.set i c }

/-- PENDING, GRANTED or HELD (R11, R19). -/
def Claim.inForce (c : Claim) : Bool :=
  match c.state with
  | .pending | .granted | .held => true
  | .free | .draft | .ended => false

/-- GRANTED or HELD. -/
def Claim.holding (c : Claim) : Bool :=
  match c.state with
  | .granted | .held => true
  | .free | .draft | .pending | .ended => false

/-- A DRIVE claim that is GRANTED or HELD: the holder of its actuator (R5, R26). -/
def Claim.isHolder (c : Claim) : Bool := decide (c.active.kind = .drive) && c.holding

/-- The holder of that actuator (R26). -/
def Claim.holds (c : Claim) (a : Target) : Bool := c.isHolder && decide (c.active.target = a)

/-- A GRANTED DRIVE claim on that actuator. -/
def Claim.grantedOn (c : Claim) (a : Target) : Bool := c.holds a && decide (c.state = .granted)

/-- A CURB claim in force (R5, R27). -/
def Claim.curbInForce (c : Claim) : Bool := decide (c.active.kind = .curb) && decide (c.state = .granted)

/-- The holder of an actuator, as the table stands (R26, log 21). -/
def Table.holder (t : Table) (a : Target) : Option ClaimIdx := all16.find? fun i => (t.get i).holds a

/-- The GRANTED claim on an actuator, as the table stands (log 21). -/
def Table.granted (t : Table) (a : Target) : Option ClaimIdx := all16.find? fun i => (t.get i).grantedOn a

/-- The granted sum: the active demands of all holders, GRANTED or HELD (R27, R28). -/
def Table.grantedSum (t : Table) : Nat :=
  (all16.map fun i => if (t.get i).isHolder then (t.get i).active.demand else 0).sum

/-- The reductions in force: the active reductions of all GRANTED curbs (R27). -/
def Table.reductions (t : Table) : Nat :=
  (all16.map fun i => if (t.get i).curbInForce then (t.get i).active.reduction else 0).sum

/-- The effective budget (R27). -/
def State.effectiveBudget (s : State) : Nat := s.budget - Table.reductions s.claims

/-- Report an event of R29 to the arbiter. Events reported during a pass are answered together (R30, log 8). -/
def State.reportPass (s : State) : State :=
  if s.arbiter.requests = [] then { s with arbiter := { s.arbiter with reports := s.arbiter.reports + 1 } }
  else { s with arbiter := { s.arbiter with reportedDuring := true } }

/-- The values an entry takes when it is armed: R9. -/
def Claim.armed (c : Claim) : Claim :=
  { c with
    active := c.staged, remRun := c.staged.duration, remDeadline := c.staged.deadline, outcome := .none
    grantStamp := none, yielded := false, arming := c.arming + 1, state := .pending }

/-! ## Checks of a claim at ARM and at the chain step (R8, R20) -/

/-- The direction that setting B carries for a GRINDER claim (R173). -/
def Params.direction (q : Params) : Direction := if q.settingB.getLsbD 15 then .reverse else .forward

/-- The pattern that setting B carries for a GRINDER claim is PULSED (R173). -/
def Params.pulsed (q : Params) : Bool := q.settingB.getLsbD 14

/-- The off time that setting B carries for a GRINDER claim (R173). -/
def Params.offTime (q : Params) : Nat := (q.settingB.extractLsb' 0 10).toNat

/-- The setting of a GRINDER claim (R3). -/
def Params.grinderSetting (q : Params) : GrinderSetting :=
  { direction := q.direction, pulsed := q.pulsed, onTime := q.settingA.toNat, offTime := q.offTime }

/-- The demand range of an actuator, watts (R2). -/
def Target.demandRange : Target → Nat × Nat
  | .heater => (100, 1200)
  | .grinder => (50, 600)
  | .fan => (5, 60)
  | .latch => (5, 30)
  | .none => (1, 0)

/-- The setting is valid for the claim's actuator, the bits marked zero for it at zero (R3, R8, R173). -/
def Params.settingValid (q : Params) : Bool :=
  match q.target with
  | .heater => decide (40 ≤ q.settingA.toNat ∧ q.settingA.toNat ≤ 160) && decide (q.settingB = 0)
  | .grinder =>
    decide (q.settingB.extractLsb' 10 4 = 0) &&
      (!q.pulsed || (decide (1 ≤ q.settingA.toNat ∧ q.settingA.toNat ≤ 60) && decide (1 ≤ q.offTime ∧ q.offTime ≤ 600)))
  | .fan => decide (10 ≤ q.settingA.toNat ∧ q.settingA.toNat ≤ 100) && decide (q.settingB = 0)
  | .latch => decide (q.duration ≤ 600)
  | .none => false

/-- Check 4 of R8: the fields form a valid claim of their kind. -/
def Params.consistent (q : Params) : Bool :=
  match q.kind with
  | .curb => true
  | .drive =>
    decide (q.target.demandRange.1 ≤ q.demand ∧ q.demand ≤ q.target.demandRange.2) && q.settingValid

/-- The drive is among those the record permits (R152). -/
def Access.drives (acc : Access) : Target → Bool
  | .heater => acc.heater
  | .grinder => acc.grinder
  | .fan => acc.fan
  | .latch => acc.latch
  | .none => false

/-- Check 5 of R8: the record permits the claim. -/
def Access.permits (acc : Access) (q : Params) : Bool :=
  match q.kind with
  | .curb => acc.curb
  | .drive => acc.drives q.target

/-- Check 7 of R8: a follow-on, if present, is greater than the entry's own index. -/
def Params.chainOk (q : Params) (i : ClaimIdx) : Bool :=
  match q.followOn with
  | none => true
  | some t => decide (i < t)

/-- Checks 4 to 7 of R8 in their order: the status of the first that fails, none if all pass. -/
def armRefusal (acc : Access) (i : ClaimIdx) (q : Params) : Option Status :=
  if !q.consistent then some .range
  else if !acc.permits q then some .denied
  else if q.level.val < acc.floor then some .level
  else if !q.chainOk i then some .chain
  else none

/-! ## The rotor monitor's drive (R87, R89, R90, R92, R93) -/

/-- Change the drive output; the rest timer and the at-rest flag follow (R87). -/
def Rotor.setOutput (r : Rotor) (now : Nat) (o : Direction) : Rotor :=
  if o = r.output then r
  else if o = .off then { r with output := o, restTimer := some now }
  else if r.output = .off then { r with output := o, restTimer := none, atRest := false }
  else { r with output := o }

/-- A start grace begins: the period becomes absent and the early count 0 (R84, R90). -/
def Rotor.startGrace (r : Rotor) (now : Nat) : Rotor :=
  { r with period := none, earlyCount := 0, grace := some now }

/-- The drive returns to IDLE and any jog is abandoned (R89). -/
def Rotor.stop (r : Rotor) (now : Nat) : Rotor :=
  if r.mode = .idle then r
  else
    { r.setOutput now .off with
      mode := .idle, jogPhase := .none, probeCount := 0, grace := none, pattern := .idle, cleanRun := none
      offPhaseDue := false }

/-- The drive is applied in the claim's direction, in DRIVING: the start of a stretch of DRIVING (R89, R90, R92, R96). -/
def Rotor.drive (r : Rotor) (now : Nat) : Rotor :=
  { (r.setOutput now r.setting.direction).startGrace now with
    mode := .driving, jogPhase := .none, cleanRun := some now
    pattern := if r.setting.pulsed then .on now else .idle }

/-- A GRINDER claim enters GRANTED (R88, R89, R90, R92, R96). -/
def Rotor.enterGranted (r : Rotor) (now : Nat) (g : GrinderSetting) (i : ClaimIdx) (arming : Word) : Rotor :=
  ({ r with
    setting := g, probeCount := 0, offPhaseDue := false, laboured := false, aboveCount := 0, belowCount := 0
    attempts := if r.attemptClaim = some (i, arming) then r.attempts else 0
    attemptClaim := some (i, arming) } : Rotor).drive now

/-- The off phase of a PULSED claim begins (R92). -/
def Rotor.beginOffPhase (r : Rotor) (now : Nat) : Rotor :=
  { r.setOutput now .off with
    mode := .offPhase, jogPhase := .none, grace := none, cleanRun := none, pattern := .off now, offPhaseDue := false }

/-- A jog starts, in FIRST_STOP (R93). -/
def Rotor.startJog (r : Rotor) (now : Nat) : Rotor :=
  { r.setOutput now .off with
    mode := .jogging, jogPhase := .firstStop, phaseStart := now, probeCount := 0, grace := none, cleanRun := none }

/-- The direction opposite to a direction (R89). -/
def Direction.opposite : Direction → Direction
  | .off => .off
  | .forward => .reverse
  | .reverse => .forward

/-! ## The heater and the fan (R78 to R82) -/

/-- The table of R79: the heater output after a report, from what it was, the setpoint and the plate conversion. -/
def regulate (on : Bool) (setpoint : Int) (plate : Conversion) : Bool :=
  if plate.faulted then false
  else if plate.value < setpoint - Config.heaterBand then true
  else if setpoint ≤ plate.value then false
  else on

/-- The heater drive judges its output against the GRANTED HEATER claim, if the conditions of R78 hold (R79, R80). -/
def State.judgeHeater (s : State) : State :=
  let on :=
    match Table.granted s.claims .heater with
    | some i =>
      !s.interlock.haltLatch && s.interlock.secured &&
        regulate s.drives.heaterOn ((s.claim i).active.settingA.toNat : Int) s.sensors.plate
    | none => false
  { s with drives := { s.drives with heaterOn := on } }

/-- A displacement is under way on that actuator (R44, log 9). -/
def State.handsOver (s : State) (a : Target) : Bool :=
  match s.arbiter.handover with
  | some h => decide (h.target = a)
  | none => false

/-- Some claim drives that actuator: one is GRANTED on it, or it is passing to one (R44, log 9). -/
def State.driven (s : State) (a : Target) : Bool := (Table.granted s.claims a).isSome || s.handsOver a

/-- The heater and the grinder may be driven: halt latch clear, chamber secured (R63, R78, R50). -/
def State.chamberOk (s : State) : Bool := s.interlock.secured && !s.interlock.haltLatch

/-- The duty of the FAN holder; 0 with no holder; the old holder's while the fan passes to the next (R81, log 9). -/
def State.fanHolderDuty (s : State) : Nat :=
  match Table.granted s.claims .fan with
  | some i => (s.claim i).active.settingA.toNat
  | none =>
    match s.arbiter.handover with
    | some h => if h.target = .fan then h.duty else 0
    | none => 0

/-- The fan duty of R81. A LATCH claim is GRANTED exactly while the latch command is RELEASE (R53). -/
def State.fanDutyWanted (s : State) : Nat :=
  if s.interlock.haltLatch && !s.sensors.plateBelowOpen then 100
  else if s.interlock.latchCommand = .release then max s.fanHolderDuty s.lidVentDuty
  else s.fanHolderDuty

/-! ## Entering GRANTED, resumption, and the latch (R16, R17, R53, R61) -/

/-- A claim enters GRANTED (R17). The latch command and the fan duty follow when the event is concluded. -/
def State.enterGranted (s : State) (i : ClaimIdx) : State :=
  let c := s.claim i
  let s := s.setClaim i { c with state := .granted, grantStamp := some s.sensors.clock, yielded := false }
  let s := s.postOwner .granted c.owner
  match c.active.kind, c.active.target with
  | .drive, .heater => s.judgeHeater
  | .drive, .grinder =>
    { s with rotor := s.rotor.enterGranted s.time c.active.grinderSetting i c.arming }
  | .drive, .fan | .drive, .latch | .drive, .none | .curb, _ => s

/-- One entry takes a resume request (R16). -/
def State.resumeOne (s : State) (i : ClaimIdx) : State :=
  if (s.claim i).state = .held then s.enterGranted i else s

/-- A resume request naming the HELD claims (R16), in rising index order (R166). -/
def State.resumeAll (s : State) : State := all16.foldl State.resumeOne s

/-- The feedback disagrees with the command (R61). -/
def Interlock.disagrees (u : Interlock) : Bool :=
  match u.latchCommand with
  | .engage => !u.feedbackEngaged
  | .release => u.feedbackEngaged

/-- The unit judges the disagreement afresh: the timer starts, runs on or goes idle, and LATCH_FAULT ceases to be active
when the feedback agrees (R61). -/
def Interlock.judgeDisagreement (u : Interlock) (now : Nat) : Interlock :=
  { u with
    disagreement := if u.lidClosed && u.disagrees then some (u.disagreement.getD now) else none
    active := if u.disagrees then u.active else CauseSet.erase u.active .latchFault }

/-- Set the latch command; a change judges the disagreement afresh (R53, R61). -/
def State.setLatchCommand (s : State) (k : LatchCommand) : State :=
  if s.interlock.latchCommand = k then s
  else { s with interlock := ({ s.interlock with latchCommand := k } : Interlock).judgeDisagreement s.time }

/-- The latch command follows the table: RELEASE exactly while a LATCH claim is GRANTED, or the latch is passing from one
holder to the next. A return to ENGAGE with the chamber secured and the halt latch clear resumes the HELD claims (R53). -/
def State.followLatch (s : State) : State :=
  if s.driven .latch then s.setLatchCommand .release
  else if s.interlock.latchCommand = .engage then s
  else
    let s := s.setLatchCommand .engage
    if s.chamberOk then s.resumeAll else s

/-- The grinder drive follows the table, the halt latch and the secured condition (R89). -/
def State.followRotor (s : State) : State :=
  if s.driven .grinder && s.chamberOk then s else { s with rotor := s.rotor.stop s.time }

/-- The heater output follows the table, the halt latch and the secured condition (R78). -/
def State.followHeater (s : State) : State :=
  if s.driven .heater && s.chamberOk then s else { s with drives := { s.drives with heaterOn := false } }

/-- The fan duty is derived afresh (R82). -/
def State.followFan (s : State) : State := { s with drives := { s.drives with fanDuty := s.fanDutyWanted } }

/-- The outputs follow what an event has changed, in that event. -/
def State.settleOutputs (s : State) : State := s.followLatch.followRotor.followHeater.followFan

/-- The entries of the claim table whose state differs between two moments, in rising index order. -/
def changedEntries (old new : Table) : List ClaimIdx :=
  all16.filter fun i => decide ((old.get i).state ≠ (new.get i).state)

/-- The last-touched latch after an event at the claim table: the highest entry whose state changed (R166, log 11). -/
def touchedAfter (old new : Table) (before : Option Touched) : Option Touched :=
  match (changedEntries old new).getLast? with
  | some i => some (.claim i)
  | none => before

/-- Set the last-touched latch after an event at the claim table (R166). -/
def State.touchClaims (s : State) (old : Table) : State :=
  { s with link := { s.link with touched := touchedAfter old s.claims s.link.touched } }

/-- Close an event that began at the state old: the outputs follow, and the last-touched latch is set. -/
def State.conclude (s old : State) : State := s.settleOutputs.touchClaims old.claims

/-! ## Ends (R19, R20) -/

/-- The access record of a claim's owner; of no port if it has no owner. -/
def State.ownerAccess (s : State) (owner : Option Port) : Access :=
  match owner with
  | some p => (s.port p).access
  | none => .ofClass .none

/-- The chain step may arm the target (R20). -/
def State.chainArms (s : State) (owner : Option Port) (t : ClaimIdx) : Bool :=
  let c := s.claim t
  decide (c.owner = owner) && decide (c.state = .draft ∨ c.state = .ended) &&
    (armRefusal (s.ownerAccess owner) t c.staged).isNone

/-- The chain step of an end with outcome DONE (R20). -/
def State.chainStep (s : State) (owner : Option Port) (followOn : Option ClaimIdx) : State :=
  match followOn with
  | none => s
  | some t =>
    if s.chainArms owner t then s.setClaim t (s.claim t).armed else s.postOwner .chainBroken owner

/-- The end procedure of R19, steps 1 to 5. The outputs follow when the event is concluded. -/
def State.endClaim (s : State) (i : ClaimIdx) (why : ClaimOutcome) : State :=
  let c := s.claim i
  let s := s.setClaim i { c with state := .ended, outcome := why }
  let s := if why = .done then s.chainStep c.owner c.active.followOn else s
  let s := if c.active.oneShot then s.setClaim i (.free c.arming) else s
  s.postOwner .ended c.owner

/-- The end procedure of R19 whole, with the report of step 6 to the arbiter. -/
def State.endAndReport (s : State) (i : ClaimIdx) (why : ClaimOutcome) : State := (s.endClaim i why).reportPass

/-! ## Holds, trips and the secured condition (R15, R18, R50, R51, R56, R63) -/

/-- The hold request names this claim: a GRANTED HEATER or GRINDER holder (R15). -/
def Claim.isHoldable (c : Claim) : Bool := c.grantedOn .heater || c.grantedOn .grinder

/-- One entry takes a hold request (R15). -/
def State.holdOne (s : State) (i : ClaimIdx) : State :=
  let c := s.claim i
  if c.isHoldable then
    if c.active.singleTry then s.endAndReport i .interrupted
    else
      let s := s.setClaim i { c with state := .held }
      let s := s.postOwner .interrupted c.owner
      if c.active.target = .grinder then s.reportPass else s
  else s

/-- A hold request naming the HEATER and GRINDER holders (R15), in rising index order (R166). -/
def State.holdAll (s : State) : State := all16.foldl State.holdOne s

/-- A jam end request naming the GRINDER holder (R18). -/
def State.jamEnd (s : State) : State :=
  match Table.holder s.claims .grinder with
  | some i => s.endAndReport i .jammed
  | none => s

/-- A trip event at the unit and at the claim table (R63, R65). -/
def State.tripEvent (s : State) (c : Cause) : State :=
  let u := s.interlock
  let s := { s with
    interlock := { u with
      causes := u.causes.insert c
      firstCause := if u.haltLatch then u.firstCause else some c
      haltLatch := true } }
  let s := if c = .jam then s.jamEnd else s
  s.holdAll.postAll .trip

/-- The active flag of a cause (R55). -/
def State.isActive (s : State) (c : Cause) : Bool := CauseSet.has s.interlock.active c

/-- Set the active flag of a cause. -/
def State.activate (s : State) (c : Cause) : State :=
  { s with interlock := { s.interlock with active := CauseSet.insert s.interlock.active c } }

/-- A cause ceases to be active. -/
def State.deactivate (s : State) (c : Cause) : State :=
  { s with interlock := { s.interlock with active := CauseSet.erase s.interlock.active c } }

/-- A cause is raised (R56): with its active flag for as long as its condition persists, JAM and ROTOR_SENSOR without. -/
def State.raise (s : State) (c : Cause) : State :=
  if c.momentary then s.tripEvent c
  else if s.isActive c then s
  else (s.activate c).tripEvent c

/-- Hand a secured lost or gained to the batch unit (R49). -/
def State.handSecured (s : State) (e : SecuredEvent) : State :=
  { s with batch := { s.batch with securedEvents := s.batch.securedEvents ++ [e] } }

/-- Hand a bin removal or insertion to the batch unit (R49). -/
def State.handBin (s : State) (e : BinEvent) : State :=
  { s with batch := { s.batch with binEvents := s.batch.binEvents ++ [e] } }

/-- The secured condition that the switch copies give (R49). -/
def Interlock.securedWanted (u : Interlock) : Bool := u.lidClosed && u.feedbackEngaged && u.binIn

/-- Secured lost (R50). -/
def State.securedLost (s : State) : State :=
  ({ s with interlock := { s.interlock with secured := false } } : State).holdAll.handSecured .lost

/-- Secured gained (R51). -/
def State.securedGained (s : State) : State :=
  let s := ({ s with interlock := { s.interlock with secured := true } } : State).deactivate .lidForced
  let s := if s.chamberOk && decide (s.interlock.latchCommand = .engage) then s.resumeAll else s
  s.reportPass.handSecured .gained

/-- The unit re-derives the secured condition after an input change (R49). -/
def State.deriveSecured (s : State) : State :=
  if s.interlock.securedWanted = s.interlock.secured then s
  else if s.interlock.securedWanted then s.securedGained
  else s.securedLost

/-- LID_FORCED is raised if a switch opened while the command was ENGAGE (R60). -/
def State.judgeForced (s : State) (opened : Bool) : State :=
  if opened && decide (s.interlock.latchCommand = .engage) then s.raise .lidForced else s

/-- The unit judges the disagreement afresh after a change of the lid switch or the feedback (R61). -/
def State.judgeDisagreement (s : State) : State :=
  { s with interlock := s.interlock.judgeDisagreement s.time }

/-! ## Outcomes -/

/-- The answer of every command: a next state. -/
abbrev Answer := Host.Outcome State Fault Refusal

end Sys2Proof.Machine
end

