-- ==== Sys2Proof/Machine/Operands.lean ====
section
/-! DEFINITION. Operand forms: the fields of a master port request (R173), layout C, the selector forms and write codes,
the bits of a service frame and the writable words of the state image tables (R160, R167, R174). -/

namespace Sys2Proof.Machine

/-! ## Bytes -/

/-- A two-byte field, most significant byte first (R173). -/
def half (hi lo : Byte) : Half := hi ++ lo

/-- A four-byte field, most significant byte first (R173). -/
def word (b0 b1 b2 b3 : Byte) : Word := b0 ++ b1 ++ b2 ++ b3

/-- Byte k of a request. -/
def byteAt (req : List Byte) (k : Nat) : Byte := req.getD k 0

/-- Bytes k and k + 1 of a request as one field. -/
def halfAt (req : List Byte) (k : Nat) : Half := half (byteAt req k) (byteAt req (k + 1))

/-- Bytes k to k + 3 of a request as one field. -/
def wordAt (req : List Byte) (k : Nat) : Word :=
  word (byteAt req k) (byteAt req (k + 1)) (byteAt req (k + 2)) (byteAt req (k + 3))

/-- The most significant four bits of a byte. -/
def highNibble (b : Byte) : BitVec 4 := b.extractLsb' 4 4

/-- The least significant four bits of a byte. -/
def lowNibble (b : Byte) : BitVec 4 := b.extractLsb' 0 4

/-! ## Selectors (R173) -/

/-- A claim index 0 to 15, or nothing. -/
def claimIndex (b : Byte) : Option ClaimIdx := if h : b.toNat < 16 then some ⟨b.toNat, h⟩ else none

/-- A port number 0 to 2, or nothing. -/
def portNumber (b : Byte) : Option Port := if h : b.toNat < 3 then some ⟨b.toNat, h⟩ else none

/-- A tuning index 0 to 12, or nothing. -/
def tuningIndex (b : Byte) : Option (Fin 13) := if h : b.toNat < 13 then some ⟨b.toNat, h⟩ else none

/-- A level or a source number 0 to 15, or nothing. -/
def number16 (b : Byte) : Option (Fin 16) := if h : b.toNat < 16 then some ⟨b.toNat, h⟩ else none

/-- The selector of BATCH_READ: a position, or a seq (R115, R173). -/
inductive BatchSelector
  | position (n : Nat)
  | seq (n : Word)
deriving DecidableEq, Repr

/-- The selector that BATCH_READ carries; nothing if it is of neither form or its position is above 7. -/
def batchSelector (req : List Byte) : Option BatchSelector :=
  if byteAt req 1 = 0 then
    if (byteAt req 3).toNat ≤ 7 then some (.position (byteAt req 3).toNat) else none
  else if byteAt req 1 = 1 then some (.seq (wordAt req 3))
  else none

/-! ## Layout C, as DRAFT carries it (R6, R173) -/

/-- The kind code of layout C. -/
def kindOf (b : BitVec 4) : Option Kind :=
  if b = 0 then some .drive else if b = 1 then some .curb else none

/-- The target code of layout C (R2). -/
def targetOf (b : BitVec 4) : Option Target :=
  if b = 0 then some .heater
  else if b = 1 then some .grinder
  else if b = 2 then some .fan
  else if b = 3 then some .latch
  else if b = 7 then some .none
  else none

/-- The follow-on field: FF is absent, 0 to 15 an index, any other value out of range (R173). -/
def followOnOf (b : Byte) : Option (Option ClaimIdx) :=
  if b = 0xFF then some none else (claimIndex b).map some

/-- The staged fields that a DRAFT request carries, or nothing if one of them is outside the range it has whatever the
kind and the actuator: check 4 of R6. Bit 3 of byte 10 is not used and is ignored (R173, log 18). -/
def draftParams (req : List Byte) : Option Params :=
  match kindOf (highNibble (byteAt req 2)), targetOf (lowNibble (byteAt req 2)), followOnOf (byteAt req 15) with
  | some kind, some target, some followOn =>
    if 1800 < (halfAt req 8).toNat ∨ (halfAt req 11).toNat < 1 then none
    else
      some
        { kind := kind, target := target, settingA := byteAt req 3, settingB := halfAt req 4
          demand := (halfAt req 6).toNat, reduction := (halfAt req 8).toNat
          level := (highNibble (byteAt req 10)).toFin
          bulk := (byteAt req 10).getLsbD 0, oneShot := (byteAt req 10).getLsbD 1
          singleTry := (byteAt req 10).getLsbD 2
          duration := (halfAt req 11).toNat, deadline := (halfAt req 13).toNat, followOn := followOn }
  | _, _, _ => none

/-! ## Flag-alteration triads (spec/00, Conventions; R12) -/

/-- A two-bit code of ALTER: nothing for 00, which is refused. -/
inductive FlagChange
  | clear
  | set
  | keep
deriving DecidableEq, Repr

/-- The flag change that a two-bit code names. -/
def flagChange (b : BitVec 2) : Option FlagChange :=
  if b = 1 then some .clear else if b = 2 then some .set else if b = 3 then some .keep else none

/-- The flag after the change. -/
def FlagChange.apply : FlagChange → Bool → Bool
  | .clear, _ => false
  | .set, _ => true
  | .keep, b => b

/-- The three changes that ALTER carries, for BULK, ONE_SHOT and SINGLE_TRY, or nothing if a code is 00 (R12). -/
def alterCodes (req : List Byte) : Option (FlagChange × FlagChange × FlagChange) :=
  let b := byteAt req 2
  match flagChange (b.extractLsb' 0 2), flagChange (b.extractLsb' 2 2), flagChange (b.extractLsb' 4 2) with
  | some x, some y, some z => some (x, y, z)
  | _, _, _ => none

/-- The three changes made to one copy of the flags. -/
def Params.alter (q : Params) (x : FlagChange × FlagChange × FlagChange) : Params :=
  { q with bulk := x.1.apply q.bulk, oneShot := x.2.1.apply q.oneShot, singleTry := x.2.2.apply q.singleTry }

/-! ## The write codes of BATCH_COMMIT (R134, R173) -/

/-- A write of the tag: nothing is keep. -/
abbrev TagWrite := Option Half

/-- A write of an override: nothing is keep; otherwise the override becomes the value, or absent. -/
abbrev OverrideWrite := Option (Option Half)

/-- The tag's write code: 00 keep, 01 set, any other code out of range. -/
def tagWrite (code : BitVec 2) (v : Half) : Option TagWrite :=
  if code = 0 then some none else if code = 1 then some (some v) else none

/-- An override's write code: 00 keep, 01 set, 10 set absent, 11 out of range. -/
def overrideWrite (code : BitVec 2) (v : Half) : Option OverrideWrite :=
  if code = 0 then some none
  else if code = 1 then some (some (some v))
  else if code = 2 then some (some none)
  else none

/-- What a write of the annotation changes (R131). -/
structure AnnotationWrite where
  tag           : TagWrite
  doseOverride  : OverrideWrite
  grindOverride : OverrideWrite
deriving DecidableEq, Repr

/-- The write that BATCH_COMMIT carries, or nothing if a code is out of range. Bits 7 and 6 of byte 6 are not used and
are ignored (R173, log 18). -/
def commitWrite (req : List Byte) : Option AnnotationWrite :=
  let b := byteAt req 6
  match tagWrite (b.extractLsb' 0 2) (halfAt req 7), overrideWrite (b.extractLsb' 2 2) (halfAt req 9),
    overrideWrite (b.extractLsb' 4 2) (halfAt req 11) with
  | some t, some d, some g => some ⟨t, d, g⟩
  | _, _, _ => none

/-- The record with its annotation written (R131, R135). -/
def BatchRecord.annotate (r : BatchRecord) (w : AnnotationWrite) : BatchRecord :=
  { r with
    tag := w.tag.getD r.tag
    doseOverride := w.doseOverride.getD r.doseOverride
    grindOverride := w.grindOverride.getD r.grindOverride }

/-! ## The access record of ACCESS_WRITE (R153, R173) -/

/-- The record that ACCESS_WRITE carries, or nothing if a bit marked zero is set or the floor is above 14. -/
def accessOf (drives flags floor : Byte) : Option Access :=
  if highNibble drives = 0 ∧ flags.extractLsb' 5 3 = 0 ∧ floor.toNat ≤ 14 then
    some
      { heater := drives.getLsbD 0, grinder := drives.getLsbD 1, fan := drives.getLsbD 2, latch := drives.getLsbD 3
        curb := flags.getLsbD 0, annotate := flags.getLsbD 1, tuning := flags.getLsbD 2
        haltClear := flags.getLsbD 3, access := flags.getLsbD 4, floor := floor.toNat }
  else none

/-! ## Service frames (R160, R167) -/

/-- The bits of a frame as one word, the first sampled its most significant (R160, R174). -/
def wordOfBits (bits : List Bool) : Word := (BitVec.ofBoolListBE bits).setWidth 32

/-- The kinds of frame that the link takes (R161). -/
inductive FrameKind
  | idle
  | unknown
  | peek
  | poke
  | pokeData
  | verify
  | watch
  | touched
  | call
deriving DecidableEq, Repr

/-- The command of a command frame: its four most significant bits (R160). -/
def frameCommand (frame : Word) : BitVec 4 := frame.extractLsb' 28 4

/-- The table that a command frame names (R160). -/
def frameTable (frame : Word) : Nat := (frame.extractLsb' 24 4).toNat

/-- The entry that a command frame names (R160). -/
def frameEntry (frame : Word) : Nat := (frame.extractLsb' 16 8).toNat

/-- The word that a command frame names (R160). -/
def frameWord (frame : Word) : Nat := (frame.extractLsb' 8 8).toNat

/-- The kind of a command frame by its command; any other command is unknown and is taken as IDLE (R161). -/
def commandKind (command : BitVec 4) : FrameKind :=
  if command = 0 then .idle
  else if command = 1 then .peek
  else if command = 2 then .poke
  else if command = 3 then .watch
  else if command = 4 then .touched
  else if command = 5 then .call
  else .unknown

/-- The kind of a frame, by the POKE phase in which it is taken and its command (R160, R161, R164). -/
def PokePhase.kindOf (phase : PokePhase) (frame : Word) : FrameKind :=
  match phase with
  | .none => commandKind (frameCommand frame)
  | .data _ _ _ _ => .pokeData
  | .verify _ => .verify

/-- A command frame with a command and the 28 bits below it. -/
def commandFrame (command : BitVec 4) (rest : BitVec 28) : Word := command ++ rest

/-- The 28 bits of a frame that names a table, an entry and a word. -/
def addressBits (table : BitVec 4) (entry w low : Byte) : BitVec 28 := table ++ entry ++ w ++ low

/-- The bits of a frame, most significant first, as SDI carries them (R160). -/
def frameBits (frame : Word) : List Bool := (List.range 32).map fun k => frame.getLsbD (31 - k)

/-- The ones run after these bits are sampled, or nothing if one of them completes a run of 64 (R167). -/
def onesAfter (run : Nat) : List Bool → Option Nat
  | [] => some run
  | true :: bits => if run + 1 = 64 then none else onesAfter (run + 1) bits
  | false :: bits => onesAfter 0 bits

/-! ## The words a POKE may write (R165, R174) -/

/-- The value of a plain writable word: its upper half must be zero. -/
def pokeValue (v : Word) : Option Half :=
  if v.extractLsb' 16 16 = 0 then some (v.extractLsb' 0 16) else none

/-- The value of an override word: 80000000 means absent (log 19). -/
def pokeOverride (v : Word) : Option (Option Half) :=
  if v = 0x80000000#32 then some none else (pokeValue v).map some

end Sys2Proof.Machine
end

