-- ==== Sys2Proof/Machine/Formats.lean ====
section
/-! DEFINITION. The formats of spec/12: the codes, the data bytes of every reply (R173) and the words of every record of
the state image tables (R162, R174). -/

namespace Sys2Proof.Machine

/-! ## Codes -/

def Kind.code : Kind → BitVec 4
  | .drive => 0
  | .curb => 1

def Target.code : Target → BitVec 4
  | .heater => 0
  | .grinder => 1
  | .fan => 2
  | .latch => 3
  | .none => 7

def ClaimState.code : ClaimState → Byte
  | .free => 0
  | .draft => 1
  | .pending => 2
  | .granted => 3
  | .held => 4
  | .ended => 5

def ClaimOutcome.code : ClaimOutcome → Byte
  | .none => 0
  | .done => 1
  | .withdrawn => 2
  | .lapsed => 3
  | .preempted => 4
  | .interrupted => 5
  | .jammed => 6

/-- The status codes of R154. -/
def Status.code : Status → Byte
  | .ok => 0
  | .busy => 1
  | .unknown => 2
  | .disabled => 3
  | .denied => 4
  | .notOwner => 5
  | .state => 6
  | .range => 7
  | .chain => 8
  | .level => 9
  | .full => 10
  | .conflict => 11
  | .empty => 12
  | .notFound => 13
  | .noReservation => 14
  | .lost => 15
  | .activeCause => 16

def PortClass.code : PortClass → Byte
  | .control => 0
  | .panel => 1
  | .link => 2
  | .none => 3

def Mix.code : Mix → Byte
  | .empty => 0
  | .wet => 1
  | .dry => 2

def BatchState.code : BatchState → Byte
  | .fresh => 1
  | .treating => 2
  | .cured => 3

def DriveMode.code : DriveMode → Byte
  | .idle => 0
  | .driving => 1
  | .offPhase => 2
  | .jogging => 3

def Direction.code : Direction → Byte
  | .off => 0
  | .forward => 1
  | .reverse => 2

def JogPhase.code : JogPhase → Byte
  | .none => 0
  | .firstStop => 1
  | .reverse => 2
  | .secondStop => 3
  | .probe => 4

/-- The number of a trip cause; 0 is absent (R55, R173). -/
def firstCauseCode : Option Cause → Byte
  | none => 0
  | some c => BitVec.ofNat 8 (c.bit + 1)

/-- A follow-on, FF absent (R173). -/
def followOnCode : Option ClaimIdx → Byte
  | none => 0xFF
  | some i => BitVec.ofNat 8 i.val

/-- An owner, FF absent (R173). -/
def ownerCode : Option Port → Byte
  | none => 0xFF
  | some p => BitVec.ofNat 8 p.val

/-- A top notice, FF none (R173). -/
def topNoticeCode : Option (Fin 16) → Byte
  | none => 0xFF
  | some n => BitVec.ofNat 8 n.val

/-- A mass, FFFF absent (R173). -/
def massCode : Option Nat → Half
  | none => 0xFFFF
  | some g => BitVec.ofNat 16 g

/-- A period in whole milliseconds, FFFF absent, FFFE from 65535 milliseconds on (R84, R173). -/
def periodCode : Option Nat → Half
  | none => 0xFFFF
  | some p => BitVec.ofNat 16 (min (p / Config.msec) 65534)

/-! ## Placing fields -/

/-- One bit in bit k of a byte. -/
def flagBit (b : Bool) (k : Nat) : Byte := if b then 1#8 <<< k else 0

/-- A small number from bit k of a byte. -/
def fieldAt (n k : Nat) : Byte := BitVec.ofNat 8 n <<< k

/-- The two bytes of a field, most significant first (R173). -/
def bytesOfHalf (h : Half) : List Byte := [h.extractLsb' 8 8, h.extractLsb' 0 8]

/-- The four bytes of a field, most significant first (R173). -/
def bytesOfWord (w : Word) : List Byte :=
  [w.extractLsb' 24 8, w.extractLsb' 16 8, w.extractLsb' 8 8, w.extractLsb' 0 8]

/-- A number as a two-byte field. -/
def half16 (n : Nat) : List Byte := bytesOfHalf (BitVec.ofNat 16 n)

/-- The fourteen data bytes that begin with these; a byte that the layout does not assign is zero (R173). -/
def fourteen (data : List Byte) : List Byte := (data ++ zeroData).take 14

/-- Bytes of a port layout placed into words, four to a word in order (R174). -/
def wordsOf : List Byte → List Word
  | a :: b :: c :: d :: rest => word a b c d :: wordsOf rest
  | [a, b, c] => [word a b c 0]
  | [a, b] => [word a b 0 0]
  | [a] => [word a 0 0 0]
  | [] => []

/-- The sixteen bytes of a reply: the status, the echo and the data (R173). -/
def Reply.bytes (x : Reply) : List Byte := [x.status.code, x.echo] ++ x.data

/-- The bits of a byte, most significant first, as MPn_DOUT shifts them out (spec/09, 9.2). -/
def byteBits (b : Byte) : List Bool := (List.range 8).map b.getMsbD

/-- The bits that MPn_DOUT shifts out in n clocks: as much of the reply as they allow, a last byte in part too, and zero
bits after its sixteenth byte (R147, R151). -/
def Transaction.out (t : Transaction) (n : Nat) : List Bool :=
  (t.shiftedOut.bytes.flatMap byteBits ++ List.replicate (n - 128) false).take n

/-! ## Claims (R13, layout C) -/

def Params.kindTargetByte (q : Params) : Byte := q.kind.code ++ q.target.code

def Params.levelFlagsByte (q : Params) : Byte :=
  fieldAt q.level.val 4 ||| flagBit q.singleTry 2 ||| flagBit q.oneShot 1 ||| flagBit q.bulk 0

/-- Bytes 2 to 9 of layout C. -/
def Params.layoutHead (q : Params) : List Byte :=
  [q.kindTargetByte, q.settingA] ++ bytesOfHalf q.settingB ++ half16 q.demand ++ half16 q.reduction

/-- Layout C: bytes 2 to 15. -/
def Params.layoutC (q : Params) : List Byte :=
  q.layoutHead ++ [q.levelFlagsByte] ++ half16 q.duration ++ half16 q.deadline ++ [followOnCode q.followOn]

/-- The data of CLAIM_READ part 0. -/
def Claim.part0 (c : Claim) : List Byte :=
  [c.state.code, ownerCode c.owner] ++ c.active.layoutHead ++ [c.active.levelFlagsByte, followOnCode c.active.followOn]

/-- The data of CLAIM_READ part 1. What bytes 12 to 15 carry while the grant stamp is absent R173 does not say: the model
sends zero (log 36). -/
def Claim.part1 (c : Claim) : List Byte :=
  half16 c.active.duration ++ half16 c.active.deadline ++ half16 c.remRun ++ half16 c.remDeadline ++
    [c.outcome.code, flagBit c.grantStamp.isSome 0 ||| flagBit c.yielded 1] ++ bytesOfWord (c.grantStamp.getD 0)

/-- The data of CLAIM_READ part 2. -/
def Claim.part2 (c : Claim) : List Byte := c.staged.layoutC

/-! ## STATUS (R155) -/

/-- The data of STATUS part 0. -/
def State.statusPart0 (s : State) : List Byte :=
  let u := s.interlock
  [flagBit u.secured 0 ||| flagBit u.lidClosed 1 ||| flagBit u.binIn 2 |||
      flagBit (decide (u.latchCommand = .release)) 3 ||| flagBit u.feedbackEngaged 4 ||| flagBit u.haltLatch 5,
    u.causes.setWidth 8, firstCauseCode u.firstCause, s.batch.mix.code ||| flagBit s.batch.finished 7] ++
    half16 s.budget ++ half16 s.effectiveBudget ++ half16 (Table.grantedSum s.claims) ++ bytesOfWord s.batch.nextSeq

/-- The data of STATUS part 1. -/
def State.statusPart1 (s : State) : List Byte :=
  let m := s.sensors
  bytesOfHalf (BitVec.ofInt 16 m.plate.value) ++ bytesOfHalf (BitVec.ofInt 16 m.air.value) ++
    [BitVec.ofNat 8 m.humidity] ++ half16 m.mass ++
    [flagBit m.plate.faulted 0 ||| flagBit m.air.faulted 1 ||| flagBit m.humidityFault 2 ||| flagBit m.loadFault 3 |||
      fieldAt s.batch.records.length 4] ++
    bytesOfWord m.clock ++
    [fieldAt s.batch.retired.length 4 ||| BitVec.ofNat 8 (s.batch.dryRun / 256), BitVec.ofNat 8 s.batch.dryRun]

/-! ## The rotor (R99) -/

/-- The data of ROTOR_READ part 0. -/
def Rotor.part0 (r : Rotor) : List Byte :=
  [r.mode.code ||| r.output.code <<< 4, r.jogPhase.code ||| fieldAt r.attempts 4, BitVec.ofNat 8 r.probeCount] ++
    bytesOfHalf (periodCode r.period) ++
    [flagBit r.atRest 0 ||| flagBit r.laboured 1 ||| flagBit r.offPhaseDue 2, BitVec.ofNat 8 r.ring.length] ++
    bytesOfWord r.revolutions

/-- The ring byte of a record: direction, present, class. -/
def PulseRecord.ringByte (x : PulseRecord) : Byte := x.direction.code ||| flagBit true 6 ||| flagBit x.early 7

/-- The five bytes of a ring position; an empty record is all zero. -/
def Rotor.position (r : Rotor) (k : Nat) : List Byte :=
  match r.ring[k]? with
  | some x => bytesOfWord x.stamp ++ [x.ringByte]
  | none => [0, 0, 0, 0, 0]

/-- The data of ROTOR_READ part k, 0 to 4. -/
def Rotor.part (r : Rotor) (k : Nat) : List Byte :=
  if k = 0 then r.part0 else r.position (2 * (k - 1)) ++ r.position (2 * (k - 1) + 1)

/-! ## Batch records and summaries (R115, R141) -/

/-- The data of BATCH_READ part 0, for the record at a position. -/
def BatchRecord.part0 (r : BatchRecord) (position : Nat) : List Byte :=
  bytesOfWord r.seq ++
    [fieldAt position 0 ||| r.state.code <<< 3 ||| flagBit r.merged 5 ||| flagBit r.doseOverride.isSome 6 |||
      flagBit r.grindOverride.isSome 7] ++
    bytesOfHalf (massCode r.mass) ++ half16 r.dose ++ half16 r.grind ++ (bytesOfWord r.openedAt).drop 1

/-- The data of BATCH_READ part 1. -/
def BatchRecord.part1 (r : BatchRecord) : List Byte :=
  bytesOfWord r.openedAt ++ bytesOfWord (r.curedAt.getD 0) ++ bytesOfHalf r.tag ++
    bytesOfHalf (r.doseOverride.getD 0) ++ bytesOfHalf (r.grindOverride.getD 0)

/-- The outcome code of a summary: FINISHED 1, UNFINISHED 2 (R139). -/
def Summary.outcomeCode (x : Summary) : Byte := if x.finished then 1 else 2

/-- The data of part 0 of a summary, with the retired count after the request. -/
def Summary.part0 (x : Summary) (count : Nat) : List Byte :=
  bytesOfWord x.seq ++ [x.outcomeCode ||| flagBit x.overrun 4 ||| flagBit x.mass.isSome 5] ++
    bytesOfHalf (massCode x.mass) ++ half16 x.dose ++ half16 x.grind ++ [BitVec.ofNat 8 count]

/-- The data of part 1 of a summary. -/
def Summary.part1 (x : Summary) : List Byte :=
  bytesOfWord x.seq ++ bytesOfWord x.openedAt ++ bytesOfWord x.retiredAt

/-- The data of part 2 of a summary. -/
def Summary.part2 (x : Summary) : List Byte :=
  bytesOfWord x.seq ++ bytesOfWord (x.curedAt.getD 0) ++ bytesOfHalf x.tag

/-! ## Ports (R153, R159) -/

/-- The sixteen levels in eight bytes. -/
def PortState.levelBytes (q : PortState) : List Byte :=
  ([0, 1, 2, 3, 4, 5, 6, 7] : List (Fin 8)).map fun k =>
    fieldAt (q.levels.get ⟨2 * k.val, by omega⟩).val 4 ||| fieldAt (q.levels.get ⟨2 * k.val + 1, by omega⟩).val 0

/-- The pending set and the top notice. -/
def PortState.noticeBytes (q : PortState) : List Byte := bytesOfHalf q.notices ++ [topNoticeCode q.topNotice]

/-- Bytes 2 to 4 of an ACCESS_WRITE request for the record. -/
def Access.bytes (acc : Access) : List Byte :=
  [flagBit acc.heater 0 ||| flagBit acc.grinder 1 ||| flagBit acc.fan 2 ||| flagBit acc.latch 3,
    flagBit acc.curb 0 ||| flagBit acc.annotate 1 ||| flagBit acc.tuning 2 ||| flagBit acc.haltClear 3 |||
      flagBit acc.access 4,
    BitVec.ofNat 8 acc.floor]

/-- The data of ACCESS_READ and of an accepted ACCESS_WRITE. -/
def PortState.accessData (q : PortState) (p : Port) : List Byte :=
  [BitVec.ofNat 8 p.val, q.cls.code] ++ q.access.bytes

/-- The command code in flight. While the flight is IDLE there is none, and R174 names no value for its field of table 4:
the model sends 0 there (log 37). -/
def PortState.codeInFlight (q : PortState) : Byte :=
  match q.flight with
  | some req => byteAt req 0
  | none => 0

/-! ## Tuning (R170, R171) -/

/-- The data of TUNING_READ. -/
def State.tuningReadData (s : State) (k : Fin 13) : List Byte :=
  [BitVec.ofNat 8 k.val] ++ half16 (s.tuning.get k) ++ half16 (Config.tuningRows.get k).lowest ++
    half16 (Config.tuningRows.get k).highest ++ half16 (Config.tuningRows.get k).default

/-- The data of an accepted TUNING_WRITE. -/
def tuningWriteData (k : Fin 13) (v : Nat) : List Byte := [BitVec.ofNat 8 k.val] ++ half16 v

/-! ## The state image tables (R162, R174)

R174 names no value for the bits of a word that it assigns to no field: the model sends zero (log 38). -/

/-- Word 0 of a record of table 1: state, owner, outcome, kind and target. R174 does not say of which copy the kind and
target are: the model takes the active copy's (log 35). -/
def Claim.stateWord (c : Claim) : Word :=
  word c.state.code (ownerCode c.owner) c.outcome.code c.active.kindTargetByte

/-- The words of a record of table 1. R174 leaves open word 10 while the grant stamp is absent (log 36) and bits 31 to 2 of
word 11 (log 38): the model sends zero. -/
def Claim.words (c : Claim) : List Word :=
  [c.stateWord] ++ wordsOf c.active.layoutC ++ wordsOf c.staged.layoutC ++
    wordsOf (half16 c.remRun ++ half16 c.remDeadline) ++
    [c.grantStamp.getD 0, word 0 0 0 (flagBit c.grantStamp.isSome 0 ||| flagBit c.yielded 1)]

/-- An override word: 80000000 is absent. -/
def overrideWord : Option Half → Word
  | none => 0x80000000
  | some v => v.setWidth 32

/-- Word 0 of a record of table 2: state and the low 24 bits of seq. -/
def BatchRecord.stateWord (r : BatchRecord) : Word := r.state.code ++ r.seq.extractLsb' 0 24

/-- The words of a record of table 2, at a position. R174 leaves open bits 31 to 10 of word 9: the model sends zero
(log 38). -/
def BatchRecord.words (r : BatchRecord) (position : Nat) : List Word :=
  [r.stateWord, r.seq, r.tag.setWidth 32, overrideWord r.doseOverride, overrideWord r.grindOverride,
    match r.mass with
    | none => 0x80000000
    | some g => BitVec.ofNat 32 g] ++
    wordsOf (half16 r.dose ++ half16 r.grind) ++
    [r.openedAt, r.curedAt.getD 0,
      word 0 0 (flagBit r.merged 0 ||| flagBit r.curedAt.isSome 1) (BitVec.ofNat 8 position)]

/-- The words of a record of table 3. R174 leaves open bits 23 to 17 of word 1: the model sends zero (log 38). -/
def Summary.words (x : Summary) : List Word :=
  [x.seq] ++ wordsOf ([x.outcomeCode, flagBit x.overrun 0] ++ bytesOfHalf (massCode x.mass)) ++
    wordsOf (half16 x.dose ++ half16 x.grind) ++
    [x.openedAt, x.curedAt.getD 0, x.retiredAt, x.tag.setWidth 32]

/-- The words of a record of table 4. R174 leaves open, in word 0, the command in flight while the flight is IDLE (log 37),
and bits 23 to 17 and 7 to 1, and in word 2 bits 31 to 16 (log 38): the model sends zero. -/
def PortState.words (q : PortState) : List Word :=
  [word q.cls.code (flagBit q.flight.isSome 0) q.codeInFlight (flagBit q.attn 0)] ++
    wordsOf ([q.cls.code] ++ q.access.bytes) ++ [q.notices.setWidth 32] ++ wordsOf q.levelBytes

/-- The words of the record of table 5. R174 leaves open bits 31 to 16 and 7 to 1 of word 8: the model sends zero
(log 38). -/
def State.chamberWords (s : State) : List Word :=
  wordsOf (fourteen s.statusPart0) ++ wordsOf (fourteen s.statusPart1) ++
    [word 0 0 (BitVec.ofNat 8 s.drives.fanDuty) (flagBit s.drives.heaterOn 0)]

/-- The words of a record of table 6: entry 0 the monitor, entries 1 to 8 the ring positions, the ring byte placed as
every byte of a port layout is, from the most significant end of its word (R174). R174 leaves open the bits after the ring
byte: the model sends zero (log 38). -/
def Rotor.words (r : Rotor) (entry : Nat) : List Word :=
  if entry = 0 then wordsOf (fourteen r.part0)
  else if 8 < entry then []
  else
    match r.ring[entry - 1]? with
    | some x => [x.stamp] ++ wordsOf [x.ringByte]
    | none => []

/-- The words of the record at a table and an entry; none if the address has no record (R162). -/
def State.recordWords (s : State) (table entry : Nat) : List Word :=
  match table with
  | 0 => if h : entry < 13 then [BitVec.ofNat 32 (s.tuning.get ⟨entry, h⟩)] else []
  | 1 => if h : entry < 16 then (s.claim ⟨entry, h⟩).words else []
  | 2 =>
    match s.batch.records[entry]? with
    | some r => r.words entry
    | none => []
  | 3 =>
    match s.batch.retired[entry]? with
    | some x => x.words
    | none => []
  | 4 => if h : entry < 3 then (s.port ⟨entry, h⟩).words else []
  | 5 => if entry = 0 then s.chamberWords else []
  | 6 => s.rotor.words entry
  | _ => []

/-- A word read live; zero where the address has no record or the word lies beyond it (R162). -/
def State.readWord (s : State) (table entry w : Nat) : Word := (s.recordWords table entry).getD w 0

end Sys2Proof.Machine
end

