-- ==== Sys2Proof/Machine/Arbiter.lean ====
section
/-! DEFINITION. The arbiter (spec/02): eligibility, the order of candidates, admission and the yield list, the pass as a
fold of turns over its own reckoning, and the steps ARBITRATION_PASS, GRANT, YIELD and BUDGET_WRITE. -/

namespace Sys2Proof.Machine

/-! ## The reckoning of a pass (R30) -/

/-- What a pass reads when it begins, and what its own decisions make of the claim table (R30). -/
structure Reckoning where
  claims     : Vector Claim 16
  secured    : Bool
  halted     : Bool
  atRest     : Bool
  plateBelow : Bool
  budget     : Nat
  yieldLevel : Nat
  /-- the claims that have had their turn (R40) -/
  turned     : List ClaimIdx
  /-- the requests issued, in order (R31) -/
  issued     : List Request
deriving DecidableEq, Repr

/-- The entry of that index in the reckoning. -/
def Reckoning.claim (v : Reckoning) (i : ClaimIdx) : Claim := v.claims.get i

/-- The effective budget in the reckoning (R27). -/
def Reckoning.effective (v : Reckoning) : Nat := v.budget - Table.reductions v.claims

/-- The latch command as the reckoning leaves it: RELEASE while a LATCH claim is GRANTED in it (R35, R53). -/
def Reckoning.released (v : Reckoning) : Bool := (Table.granted v.claims .latch).isSome

/-! ## Eligibility (R33 to R38) -/

/-- A curb in force holds back this DRIVE claim (R33). -/
def Reckoning.curbed (v : Reckoning) (c : Claim) : Bool :=
  all16.any fun k =>
    (v.claim k).curbInForce && decide ((v.claim k).active.target = c.active.target) &&
      decide ((v.claim k).active.level ≤ c.active.level)

/-- The actuator has no holder, or one that the claim may preempt (R34). -/
def Reckoning.mayTake (v : Reckoning) (c : Claim) : Bool :=
  match Table.holder v.claims c.active.target with
  | none => true
  | some h =>
    (v.claim h).active.bulk && decide (c.active.level < (v.claim h).active.level) &&
      decide (c.active.level.val < v.yieldLevel)

/-- The bars on HEATER and GRINDER claims (R35). -/
def Reckoning.chamberBars (v : Reckoning) : Bool := v.halted || !v.secured || v.released

/-- The latch-waiting block (R36). -/
def Reckoning.latchWaits (v : Reckoning) (c : Claim) : Bool :=
  all16.any fun k =>
    decide ((v.claim k).state = .pending) && decide ((v.claim k).active.kind = .drive) &&
      decide ((v.claim k).active.target = .latch) && decide ((v.claim k).active.level.val < 15) &&
      decide ((v.claim k).active.level ≤ c.active.level)

/-- The bars on LATCH claims (R37). -/
def Reckoning.latchBars (v : Reckoning) : Bool :=
  !v.atRest || (Table.granted v.claims .grinder).isSome || !v.plateBelow

/-- The bars of R35, R36 and R37 on a DRIVE claim, by its actuator. -/
def Reckoning.actuatorBars (v : Reckoning) (c : Claim) : Bool :=
  match c.active.target with
  | .heater => v.chamberBars
  | .grinder => v.chamberBars || v.latchWaits c
  | .fan => false
  | .latch => v.latchBars
  | .none => true

/-- A curb whose target has a holder may displace it (R38). -/
def Reckoning.mayDisplace (v : Reckoning) (c : Claim) : Bool :=
  match c.active.target with
  | .none => true
  | .heater | .grinder | .fan | .latch =>
    match Table.holder v.claims c.active.target with
    | none => true
    | some h =>
      (v.claim h).active.bulk && decide (c.active.level ≤ (v.claim h).active.level) &&
        decide (c.active.level.val < v.yieldLevel)

/-- A PENDING claim is eligible (R33 to R38). -/
def Reckoning.eligible (v : Reckoning) (i : ClaimIdx) : Bool :=
  let c := v.claim i
  decide (c.state = .pending) && decide (c.active.level.val < 15) &&
    match c.active.kind with
    | .drive => !v.curbed c && v.mayTake c && !v.actuatorBars c
    | .curb => v.mayDisplace c

/-- The GRINDER holder that a PENDING LATCH claim may clear, if it is entitled to a clearing yield (R39). -/
def Reckoning.clears (v : Reckoning) (i : ClaimIdx) : Option ClaimIdx :=
  let c := v.claim i
  if c.state = .pending ∧ c.active.kind = .drive ∧ c.active.target = .latch ∧ c.active.level.val < 15 then
    match Table.granted v.claims .grinder with
    | some h =>
      if (v.claim h).active.bulk && decide (c.active.level < (v.claim h).active.level) &&
          decide (c.active.level.val < v.yieldLevel) then some h
      else none
    | none => none
  else none

/-! ## Order (R40) -/

/-- A claim that may have the next turn (R40). -/
def Reckoning.candidate (v : Reckoning) (i : ClaimIdx) : Bool :=
  !v.turned.contains i && (v.eligible i || (v.clears i).isSome)

/-- The next candidate: first by level, then by index (R40). -/
def Reckoning.next (v : Reckoning) : Option ClaimIdx :=
  all16.findSome? fun l => all16.find? fun i => decide ((v.claim i).active.level = l) && v.candidate i

/-! ## Admission (R41 to R43) -/

/-- The numbers 15 to 0. -/
def down16 : List (Fin 16) := all16.reverse

/-- The yield list for a candidate of level l: BULK holders less urgent than it, but for those already counted, least
urgent first and among equal levels highest index first (R41). -/
def Reckoning.yieldList (v : Reckoning) (l : Fin 16) (counted : List ClaimIdx) : List ClaimIdx :=
  down16.flatMap fun m =>
    down16.filter fun i =>
      (v.claim i).isHolder && (v.claim i).active.bulk && decide ((v.claim i).active.level = m) && decide (l < m) &&
        !counted.contains i

/-- Walk the list, adding each holder's demand to the freed amount, up to the first at which the test holds: the holders
walked, or nothing if the test fails with the whole list counted (R41). -/
def Reckoning.walk (v : Reckoning) (test : Nat → Bool) (freed : Nat) : List ClaimIdx → Option (List ClaimIdx)
  | [] => if test freed then some [] else none
  | h :: rest =>
    if test freed then some []
    else (v.walk test (freed + (v.claim h).active.demand) rest).map (h :: ·)

/-- The holder that the candidate displaces, as a list of at most one (R42, R43). -/
def Reckoning.displaced (v : Reckoning) (c : Claim) : List ClaimIdx :=
  match c.active.target with
  | .none => []
  | .heater | .grinder | .fan | .latch => (Table.holder v.claims c.active.target).toList

/-- The admission test of R42 for a DRIVE candidate and of R43 for a CURB candidate, with an amount freed. -/
def Reckoning.fits (v : Reckoning) (c : Claim) (freed : Nat) : Bool :=
  match c.active.kind with
  | .drive => decide (Table.grantedSum v.claims - freed + c.active.demand ≤ v.effective)
  | .curb =>
    decide (Table.grantedSum v.claims - freed + Table.reductions v.claims + c.active.reduction ≤ v.budget)

/-- The holders that yield if the candidate is admitted: the displaced or target holder first, then the walked part of
the yield list; nothing if it is not admitted (R41 to R44). -/
def Reckoning.admission (v : Reckoning) (i : ClaimIdx) : Option (List ClaimIdx) :=
  let c := v.claim i
  let gone := v.displaced c
  let freed := (gone.map fun h => (v.claim h).active.demand).sum
  let list := if c.active.level.val < v.yieldLevel then v.yieldList c.active.level gone else []
  (v.walk (v.fits c) freed list).map (gone ++ ·)

/-! ## Turns (R44, R39) -/

/-- What a yield makes of a claim (R14): PENDING with the mark set, or ENDED PREEMPTED, or FREE if ONE_SHOT as well. -/
def Claim.afterYield (c : Claim) : Claim :=
  if c.active.singleTry then
    if c.active.oneShot then .free c.arming else { c with state := .ended, outcome := .preempted }
  else { c with state := .pending, yielded := true }

/-- A yield decided in the reckoning and issued (R30, R44). -/
def Reckoning.doYield (v : Reckoning) (i h : ClaimIdx) : Reckoning :=
  let same := decide ((v.claim i).active.kind = .drive) &&
    decide ((v.claim h).active.target = (v.claim i).active.target)
  { v with claims := v.claims.set h (v.claim h).afterYield, issued := v.issued ++ [.yield h same] }

/-- A grant decided in the reckoning and issued (R30, R44). -/
def Reckoning.doGrant (v : Reckoning) (i : ClaimIdx) : Reckoning :=
  { v with
    claims := v.claims.set i { v.claim i with state := .granted }
    issued := v.issued ++ [.grant i (v.claim i).arming] }

/-- The turn of one candidate (R39, R40, R44). -/
def Reckoning.turn (v : Reckoning) (i : ClaimIdx) : Reckoning :=
  let v := { v with turned := i :: v.turned }
  match v.clears i with
  | some h => v.doYield i h
  | none =>
    match v.admission i with
    | some list => (list.foldl (fun v h => v.doYield i h) v).doGrant i
    | none => v

/-- At most n turns, until no claim may have one (R40). -/
def Reckoning.turns : Nat → Reckoning → Reckoning
  | 0, v => v
  | n + 1, v =>
    match v.next with
    | some i => Reckoning.turns n (v.turn i)
    | none => v

/-- What a pass reads when it begins (R30). -/
def State.reckoning (s : State) : Reckoning :=
  { claims := s.claims, secured := s.interlock.secured, halted := s.interlock.haltLatch, atRest := s.rotor.atRest
    plateBelow := s.sensors.plateBelowOpen, budget := s.budget, yieldLevel := s.yieldLevel, turned := [], issued := [] }

/-- The reckoning at the end of a pass: every claim has at most one turn, so sixteen turns are enough (R40). -/
def State.pass (s : State) : Reckoning := Reckoning.turns 16 s.reckoning

/-! ## The steps of the arbiter -/

/-- A pass is under way: the claim table has not taken every request it issued (R30). -/
def State.passUnderWay (s : State) : Bool := !s.arbiter.requests.isEmpty

/-- Some event of R29 has been reported and not answered. -/
def State.passDue (s : State) : Bool := decide (0 < s.arbiter.reports) || s.arbiter.reportedDuring

/-- The events that a pass answers: all of them, or one reported while no pass was under way, or those reported during
the pass before, which are answered together (R30, log 8). -/
def Arbiter.answered (a : Arbiter) (together : Bool) : Arbiter :=
  if together then { a with reports := 0, reportedDuring := false }
  else if 0 < a.reports then { a with reports := a.reports - 1 }
  else { a with reportedDuring := false }

/-- ARBITRATION_PASS (R29 to R44). Not taken while a pass is under way or when no event of R29 waits. -/
def execArbitrationPass (together : Bool) (s : State) : Answer :=
  if s.passDue && !s.passUnderWay then
    .next { s with arbiter := { s.arbiter.answered together with requests := s.pass.issued } }
  else .next s

/-- The request taken: it leaves the list. -/
def State.dropRequest (s : State) : State :=
  { s with arbiter := { s.arbiter with requests := s.arbiter.requests.tail } }

/-- The checks that the claim table makes of a grant by the claim's actuator, as things stand (R52). -/
def State.grantChecks (s : State) (c : Claim) : Bool :=
  match c.active.kind, c.active.target with
  | .drive, .heater | .drive, .grinder => s.chamberOk
  | .drive, .latch => (Table.granted s.claims .grinder).isNone && s.rotor.atRest
  | .drive, .fan | .drive, .none | .curb, _ => true

/-- The grant is applied: PENDING, in the same arming, and the checks of R52 pass (R17, R31). -/
def State.grantApplies (s : State) (i : ClaimIdx) (arming : Word) : Bool :=
  decide ((s.claim i).state = .pending) && decide ((s.claim i).arming = arming) && s.grantChecks (s.claim i)

/-- A grant request taken (R17, R31, R52). A handover ends with it, applied or not (log 9). -/
def State.takeGrant (s : State) (i : ClaimIdx) (arming : Word) : State :=
  let s' := { s.dropRequest with arbiter := { s.dropRequest.arbiter with handover := none } }
  (if s'.grantApplies i arming then s'.enterGranted i else s').conclude s

/-- The grinder's drive at the yield of a displacement: driving goes on, with no timer of the old holder, until the grant
of the same turn; a jog is abandoned, and it and an off phase leave the drive IDLE (R89, R97, log 9). -/
def Rotor.handOver (r : Rotor) (now : Nat) : Rotor :=
  if r.mode = .driving then { r with grace := none, pattern := .idle, cleanRun := none } else r.stop now

/-- A displacement begins: the output stays as it is until the grant that follows in the same turn, but for a grinder that
is not DRIVING (R44, R89, R97, log 9). -/
def State.beginHandover (s : State) (c : Claim) : State :=
  { s with
    arbiter := { s.arbiter with handover := some ⟨c.active.target, s.fanHolderDuty⟩ }
    rotor := if c.active.target = .grinder then s.rotor.handOver s.time else s.rotor }

/-- The holder takes the yield (R14): the marked PENDING with INTERRUPTED, or the end PREEMPTED. -/
def State.applyYield (s : State) (i : ClaimIdx) : State :=
  let c := s.claim i
  if c.active.singleTry then s.endClaim i .preempted
  else (s.setClaim i { c with state := .pending, yielded := true }).postOwner .interrupted c.owner

/-- A yield request taken (R14, R31, R32). -/
def State.takeYield (s : State) (i : ClaimIdx) (displaced : Bool) : State :=
  let s' := s.dropRequest
  let c := s'.claim i
  (if c.isHolder then
    ((if displaced && decide (c.state = .granted) then s'.beginHandover c else s').applyYield i)
  else s').conclude s

/-- The claim table takes the oldest request, whichever it is. -/
def State.takeRequest (s : State) : State :=
  match s.arbiter.requests with
  | .grant i arming :: _ => s.takeGrant i arming
  | .yield i displaced :: _ => s.takeYield i displaced
  | [] => s

/-- GRANT (R17): the next request of the pass, if it is a grant. -/
def execGrant (s : State) : Answer :=
  match s.arbiter.requests with
  | .grant i arming :: _ => .next (s.takeGrant i arming)
  | .yield _ _ :: _ | [] => .next s

/-- YIELD (R14): the next request of the pass, if it is a yield. -/
def execYield (s : State) : Answer :=
  match s.arbiter.requests with
  | .yield i displaced :: _ => .next (s.takeYield i displaced)
  | .grant _ _ :: _ | [] => .next s

/-! ## Budget writes (R172) -/

/-- The budget may be written: it leaves the granted sum within the new effective budget (R172). -/
def State.budgetFits (s : State) (v : Nat) : Bool :=
  decide (Table.grantedSum s.claims + Table.reductions s.claims ≤ v)

/-- A reply is formed: it replaces the consumed one and the flight becomes IDLE (R149). -/
def PortState.answer (st : Status) (data : List Byte) (q : PortState) : PortState :=
  { q with reply := ⟨st, q.codeInFlight, fourteen data⟩, consumed := false, flight := none }

/-- The request in flight at the port is complete, with this status and data (R149). -/
def State.answer (s : State) (p : Port) (st : Status) (data : List Byte) : State :=
  s.updPort p (PortState.answer st data)

/-- A refused request: its data bytes are zero (R173). -/
def State.refuse (s : State) (p : Port) (st : Status) : State := s.answer p st []

/-- The budget takes its new value and a pass is started (R45, R172). -/
def State.applyBudget (s : State) (v : Nat) : State := ({ s with tuning := s.tuning.set 0 v } : State).reportPass

/-- One budget write judged and applied at the arbiter, with the reply to its port (R171, R172). -/
def State.judgeBudget (s : State) (p : Port) (v : Nat) : State :=
  if s.budgetFits v then (s.applyBudget v).answer p .ok (tuningWriteData 0 v) else s.refuse p .conflict

/-- The oldest budget write is taken. -/
def State.takeBudgetWrite (s : State) : State :=
  match s.arbiter.budgetWrites with
  | (p, v) :: rest => ({ s with arbiter := { s.arbiter with budgetWrites := rest } } : State).judgeBudget p v
  | [] => s

/-- BUDGET_WRITE (R172): taken between passes, never inside one. -/
def execBudgetWrite (s : State) : Answer := if s.passUnderWay then .next s else .next s.takeBudgetWrite

/-- Take n requests. -/
def State.takeRequests : Nat → State → State
  | 0, s => s
  | n + 1, s => State.takeRequests n s.takeRequest

/-- Take n budget writes. -/
def State.takeBudgetWrites : Nat → State → State
  | 0, s => s
  | n + 1, s => State.takeBudgetWrites n s.takeBudgetWrite

/-- The arbiter brought between passes with every earlier budget write taken, in the order in which they arrived: what
comes before a budget write of the service link, which is judged in its frame's event (R165, R172, log 13). -/
def State.settleArbiter (s : State) : State :=
  let s := State.takeRequests s.arbiter.requests.length s
  State.takeBudgetWrites s.arbiter.budgetWrites.length s

end Sys2Proof.Machine
end

