-- ==== Sys2Proof/Machine/Ports.lean ====
section
/-! DEFINITION. The port unit (spec/09): transactions, the flight of a request, and the requests the unit takes itself:
NOP, STATUS, the notice commands, the access records and PORT_RESET. -/

namespace Sys2Proof.Machine

/-! ## Transactions (R147 to R151) -/

/-- The command codes of the part (R148). -/
def requestCodes : List Byte :=
  [0x00, 0x01, 0x02, 0x08, 0x09, 0x0A, 0x0B, 0x0C, 0x10, 0x11, 0x12, 0x13, 0x14, 0x18, 0x19, 0x1A, 0x20, 0x28, 0x29,
    0x30, 0x31, 0x3F]

/-- What a transaction that starts now shifts out (R147). -/
def PortState.shiftOut (q : PortState) : Reply :=
  match q.flight with
  | none => q.reply
  | some _ => ⟨.busy, q.codeInFlight, zeroData⟩

/-- The transaction starts (R147). -/
def PortState.startTransaction (q : PortState) : PortState :=
  { q with transaction := some { startedIdle := q.flight.isNone, shiftedOut := q.shiftOut } }

/-- The transaction is over after that many clocks: MPn_DOUT has shifted out a bit for each, and nothing else changes
(R150, R151). -/
def PortState.endTransaction (clocks : Nat) (q : PortState) : PortState :=
  match q.transaction with
  | some t => { q with transaction := none, dout := t.out clocks }
  | none => q

/-- The clocks of a transaction that carries these bytes and bits (R147). -/
def clocksOf (x : ClockedBytes) : Nat := 8 * x.bytes.length + x.extra

/-- The transaction under way started with the flight IDLE (R147). -/
def PortState.startedIdle (q : PortState) : Bool :=
  match q.transaction with
  | some t => t.startedIdle
  | none => false

/-- The request in flight is judged by the port unit: DISABLED, UNKNOWN, or handed to the block that owns it (R148). -/
def PortState.judgeRequest (q : PortState) : PortState :=
  if q.cls = .none ∧ q.codeInFlight ≠ 0 then q.answer .disabled []
  else if q.codeInFlight ∉ requestCodes then q.answer .unknown []
  else q

/-- A transaction is taken with these bytes, the first sixteen of which are the request (R147, R148): the reply is
consumed, the request enters flight and is judged. -/
def PortState.takeTransaction (x : ClockedBytes) (q : PortState) : PortState :=
  ({ q.endTransaction (clocksOf x) with consumed := true, flight := some (x.bytes.take 16) } : PortState).judgeRequest

/-- TRANSACTION_START (R147). Not taken while a transaction is under way at the port. -/
def execTransactionStart (p : Port) (s : State) : Answer :=
  match (s.port p).transaction with
  | none => .next (s.updPort p PortState.startTransaction)
  | some _ => .next s

/-- TRANSACTION_TAKEN (R147, R148): the first sixteen bytes are the request. A transaction that started IN_FLIGHT is a
busy one (R150), and fewer bytes make a short one (R151, log 28). -/
def execTransactionTaken (p : Port) (x : ClockedBytes) (s : State) : Answer :=
  if (s.port p).startedIdle && decide (16 ≤ x.bytes.length) then
    .next (s.updPort p (PortState.takeTransaction x))
  else .next (s.updPort p (PortState.endTransaction (clocksOf x)))

/-- BUSY_TRANSACTION (R150): a transaction that started IN_FLIGHT ends, whether complete, short or long. -/
def execBusyTransaction (x : UntakenTransaction) (s : State) : Answer :=
  if (s.port x.port).startedIdle then .next s else .next (s.updPort x.port (PortState.endTransaction x.clocks))

/-- SHORT_TRANSACTION (R151): a transaction that started IDLE ends before its sixteenth byte is whole, after no clocks or
in the midst of a byte too, and the reply is not consumed. -/
def execShortTransaction (x : UntakenTransaction) (s : State) : Answer :=
  if (s.port x.port).startedIdle && decide (x.clocks < 128) then
    .next (s.updPort x.port (PortState.endTransaction x.clocks))
  else .next s

/-! ## A request is taken by its block (R149) -/

/-- The block takes the request in flight at the port, if it carries that code (R149, log 2, log 7). -/
def onRequest (s : State) (p : Port) (code : Byte) (f : List Byte → State) : Answer :=
  match (s.port p).flight with
  | some req => if byteAt req 0 = code then .next (f req) else .next s
  | none => .next s

/-- NOP, code 00 (R155). -/
def execNop (p : Port) (s : State) : Answer := onRequest s p 0x00 fun _ => s.answer p .ok []

/-- STATUS taken (R155). -/
def State.takeStatus (s : State) (p : Port) (req : List Byte) : State :=
  if byteAt req 1 = 0 then s.answer p .ok s.statusPart0
  else if byteAt req 1 = 1 then s.answer p .ok s.statusPart1
  else s.refuse p .range

/-- STATUS, code 01 (R155). -/
def execStatus (p : Port) (s : State) : Answer := onRequest s p 0x01 (s.takeStatus p)

/-! ## Notice commands (R159) -/

/-- NOTICE_READ, code 18 (R159). -/
def execNoticeRead (p : Port) (s : State) : Answer :=
  onRequest s p 0x18 fun _ => s.answer p .ok ((s.port p).noticeBytes ++ (s.port p).levelBytes)

/-- A reply of the pending set and the top notice after a change of the port's notices (R159). -/
def PortState.answerNotices (q : PortState) : PortState := q.answer .ok q.noticeBytes

/-- The named flags are cleared (R159). -/
def PortState.clearNotices (set : Half) (q : PortState) : PortState := { q with notices := q.notices &&& ~~~set }

/-- The level of one source is written (R159). -/
def PortState.setLevel (n l : Fin 16) (q : PortState) : PortState := { q with levels := q.levels.set n l }

/-- NOTICE_CLEAR, code 19 (R159). -/
def execNoticeClear (p : Port) (s : State) : Answer :=
  onRequest s p 0x19 fun req => s.updPort p fun q => (q.clearNotices (halfAt req 2)).answerNotices

/-- NOTICE_LEVEL taken (R159). -/
def State.takeNoticeLevel (s : State) (p : Port) (req : List Byte) : State :=
  match number16 (byteAt req 1), number16 (byteAt req 2) with
  | some n, some l => s.updPort p fun q => (q.setLevel n l).answerNotices
  | _, _ => s.refuse p .range

/-- NOTICE_LEVEL, code 1A (R159). -/
def execNoticeLevel (p : Port) (s : State) : Answer := onRequest s p 0x1A (s.takeNoticeLevel p)

/-! ## Access records (R153) -/

/-- ACCESS_READ taken (R153). -/
def State.takeAccessRead (s : State) (p : Port) (req : List Byte) : State :=
  match portNumber (byteAt req 1) with
  | some m => s.answer p .ok ((s.port m).accessData m)
  | none => s.refuse p .range

/-- ACCESS_READ, code 30 (R153). -/
def execAccessRead (p : Port) (s : State) : Answer := onRequest s p 0x30 (s.takeAccessRead p)

/-- The whole access record of a port is replaced (R153). -/
def State.writeAccess (s : State) (m : Port) (acc : Access) : State := s.updPort m fun q => { q with access := acc }

/-- ACCESS_WRITE taken (R153). -/
def State.takeAccessWrite (s : State) (p : Port) (req : List Byte) : State :=
  if !(s.port p).access.access then s.refuse p .denied
  else
    match portNumber (byteAt req 1), accessOf (byteAt req 2) (byteAt req 3) (byteAt req 4) with
    | some m, some acc =>
      let s' := s.writeAccess m acc
      s'.answer p .ok ((s'.port m).accessData m)
    | _, _ => s.refuse p .range

/-- ACCESS_WRITE, code 31 (R153). -/
def execAccessWrite (p : Port) (s : State) : Answer := onRequest s p 0x31 (s.takeAccessWrite p)

/-! ## PORT_RESET (R25, R156) -/

/-- One entry under a PORT_RESET of its owner: it ends WITHDRAWN if it is in force, with its ENDED notice, and becomes
FREE in any case (R25). -/
def State.resetEntry (p : Port) (s : State) (i : ClaimIdx) : State :=
  let c := s.claim i
  if c.owner = some p then
    let s' := s.setClaim i (.free c.arming)
    if c.inForce then s'.post .ended p else s'
  else s

/-- Every entry of the port, in rising index order (R25, R166). -/
def State.resetEntries (s : State) (p : Port) : State := all16.foldl (State.resetEntry p) s

/-- The port's own state after a PORT_RESET: steps 3 and 4 of R156. -/
def PortState.portReset (q : PortState) : PortState :=
  { q with notices := 0, reply := .emptyReply, consumed := false, flight := none }

/-- Write one port's reservation (R132). -/
def State.setReservation (s : State) (p : Port) (v : Reservation) : State :=
  { s with batch := { s.batch with reservations := s.batch.reservations.set p v } }

/-- PORT_RESET taken (R156), with the pass that follows it (R25). -/
def State.takePortReset (s : State) (p : Port) : State :=
  ((((s.resetEntries p).setReservation p .none).updPort p PortState.portReset).reportPass).conclude s

/-- PORT_RESET, code 3F (R156). -/
def execPortReset (p : Port) (s : State) : Answer := onRequest s p 0x3F fun _ => s.takePortReset p

end Sys2Proof.Machine
end

