-- ==== Sys2Proof/Machine/Sensors.lean ====
section
/-! DEFINITION. The sensor block's events (spec/04): the thermistor report with its four recipients, the load-cell and
humidity conversions, the chamber clock and the sample divider. -/

namespace Sys2Proof.Machine

/-! ## Conversions (R70, R73, R74) -/

/-- The conversion of a thermistor reading: faulted outside −20 °C to 250 °C, and held to the ends of the span, where it
is failed (R70, log 25). -/
def thermistorConversion (t : Int) : Conversion :=
  { value := max Config.spanLow (min Config.spanHigh t)
    faulted := !decide (Config.validLow ≤ t ∧ t ≤ Config.validHigh) }

/-- The humidity conversion stored (R73). -/
def Sensors.storeHumidity (m : Sensors) : HumidityReading → Sensors
  | .failed => { m with humidityFault := true }
  | .result rh => { m with humidity := min rh 100, humidityFault := decide (100 < rh) }

/-- The load-cell conversion stored (R74). -/
def Sensors.storeLoad (m : Sensors) : LoadReading → Sensors
  | .failed => { m with loadFault := true }
  | .grams g =>
    { m with
      mass := min g.toNat Config.massTop
      loadFault := decide (g < 0 ∨ (Config.massTop : Int) < g) }

/-! ## The thermistor report at its recipients (R57, R59, R72) -/

/-- Both stored conversions are valid. -/
def Sensors.bothValid (m : Sensors) : Bool := !m.plate.faulted && !m.air.faulted

/-- The unit judges THERMAL_SENSOR on the stored report (R59). -/
def State.judgeThermalSensor (s : State) : State :=
  if s.sensors.bothValid then s.deactivate .thermalSensor else s.raise .thermalSensor

/-- The plate or the air is above its limit (R57). -/
def State.tooHot (s : State) : Bool :=
  decide ((s.plateLimit : Int) < s.sensors.plate.value ∨ (s.airLimit : Int) < s.sensors.air.value)

/-- The plate and the air are below their hysteresis bands (R57). -/
def State.cooled (s : State) : Bool :=
  decide (s.sensors.plate.value ≤ (s.plateLimit : Int) - Config.plateHysteresis ∧
    s.sensors.air.value ≤ (s.airLimit : Int) - Config.airHysteresis)

/-- The unit judges OVERHEAT on a report with both conversions valid (R57). -/
def State.judgeOverheat (s : State) : State :=
  if !s.sensors.bothValid then s
  else if s.tooHot then s.raise .overheat
  else if s.cooled then s.deactivate .overheat
  else s

/-- The report at the interlock and trip unit (R57, R59). -/
def State.judgeReport (s : State) : State := s.judgeThermalSensor.judgeOverheat

/-- Plate below open limit, as the stored plate conversion gives it (R72). -/
def State.plateBelowWanted (s : State) : Bool :=
  !s.sensors.plate.faulted && decide (s.sensors.plate.value < (s.openLimit : Int))

/-- Plate below open limit derived afresh, without a report to the arbiter (R72, R77). -/
def State.derivePlateBelow (s : State) : State :=
  { s with sensors := { s.sensors with plateBelowOpen := s.plateBelowWanted } }

/-- The open-limit judgement: a change from no to yes starts a pass (R72). -/
def State.judgePlateBelow (s : State) : State :=
  if s.plateBelowWanted && !s.sensors.plateBelowOpen then s.derivePlateBelow.reportPass else s.derivePlateBelow

/-- A report stored (R70). -/
def State.storeReport (s : State) (plate air : Int) : State :=
  { s with sensors := { s.sensors with plate := thermistorConversion plate, air := thermistorConversion air } }

/-- THERMISTOR_REPORT (R70, R71): stored, and taken by the trip unit, the open-limit judgement, the heater drive and the
fan drive in that order (log 15). -/
def execThermistorReport (plate air : Int) (s : State) : Answer :=
  .next ((((s.storeReport plate air).judgeReport).judgePlateBelow.judgeHeater).conclude s)

/-- LOAD_CELL_CONVERSION (R74). -/
def execLoadCellConversion (reading : LoadReading) (s : State) : Answer :=
  .next { s with sensors := s.sensors.storeLoad reading }

/-! ## The chamber clock (R22, R23, R75, R76) -/

/-- The clock increment at one entry (R22, R23, log 10). -/
def Claim.second (c : Claim) : Claim :=
  match c.state with
  | .granted => { c with remRun := c.remRun - 1 }
  | .pending => if c.active.deadline = 0 then c else { c with remDeadline := c.remDeadline - 1 }
  | .free | .draft | .held | .ended => c

/-- The clock and the sample divider (R75, R76). -/
def Sensors.second (m : Sensors) : Sensors :=
  if m.divider + 1 = Config.sampleDivision then
    { m with clock := m.clock + 1, divider := 0, samplesDue := m.samplesDue + 1 }
  else { m with clock := m.clock + 1, divider := m.divider + 1 }

/-- CHAMBER_CLOCK_INCREMENT (R75). -/
def execChamberClockIncrement (s : State) : Answer :=
  .next { s with claims := s.claims.map Claim.second, sensors := s.sensors.second }

end Sys2Proof.Machine
end

