-- ==== Sys2Proof/Machine/BatchUnit.lean ====
section
/-! DEFINITION. The batch unit (spec/06, spec/07, spec/08): cure, the mix and the finished flag; the dose sample and the
revolution; mass samples and closures; annotation, reservations and retirement; and its requests. -/

namespace Sys2Proof.Machine

/-! ## Cure (R103, R122 to R125) -/

/-- A record's required dose (R122). -/
def State.doseFor (s : State) (r : BatchRecord) : Nat :=
  match r.doseOverride with
  | some v => v.toNat
  | none => s.requiredDose

/-- A record's required grind (R122). -/
def State.grindFor (s : State) (r : BatchRecord) : Nat :=
  match r.grindOverride with
  | some v => v.toNat
  | none => s.requiredGrind

/-- Both requirements of a record are met (R123). -/
def State.cures (s : State) (r : BatchRecord) : Bool :=
  decide (s.doseFor r ≤ r.dose) && decide (s.grindFor r ≤ r.grind)

/-- The state that R103 gives a record. -/
def State.stateFor (s : State) (r : BatchRecord) : BatchState :=
  if s.cures r then .cured else if r.dose = 0 ∧ r.grind = 0 then .fresh else .treating

/-- A record evaluated: unchanged if its state stands, else with its new state and cured-at (R123 to R125). -/
def State.judged (s : State) (r : BatchRecord) : BatchRecord :=
  if s.stateFor r = r.state then r
  else
    { r with
      state := s.stateFor r
      curedAt := if s.stateFor r = .cured then some s.sensors.clock else none }

/-- The records after an evaluation of those at the positions that which names. -/
def State.judgedRecords (s : State) (which : Nat → Bool) : List BatchRecord :=
  s.batch.records.mapIdx fun k r => if which k then s.judged r else r

/-- The state of the record at a position differs between two tables of one length. -/
def stateDiffers (old new : List BatchRecord) (k : Nat) : Bool :=
  match old[k]?, new[k]? with
  | some a, some b => decide (a.state ≠ b.state)
  | _, _ => false

/-- The youngest position at which the state differs. -/
def lastChanged (old new : List BatchRecord) : Option Nat :=
  (List.range old.length).reverse.find? (stateDiffers old new)

/-- Some record entered CURED. -/
def someCured (old new : List BatchRecord) : Bool :=
  (List.range old.length).any fun k => stateDiffers old new k && decide ((new[k]?.map (·.state)) = some .cured)

/-- Set the last-touched latch to the record at a position, as it stands (R166). -/
def State.touchBatch (s : State) (k : Nat) : State :=
  match s.batch.records[k]? with
  | some r => { s with link := { s.link with touched := some (.batch k r.seq) } }
  | none => s

/-- Write the batch table. -/
def State.setRecords (s : State) (records : List BatchRecord) : State :=
  { s with batch := { s.batch with records := records } }

/-- The records at the positions that which names are evaluated, oldest first: their states, the last-touched latch, and
one BATCH_CURED if some record entered CURED (R123, R124, R166). -/
def State.evaluate (s : State) (which : Nat → Bool) : State :=
  let new := s.judgedRecords which
  let s' := s.setRecords new
  let s' :=
    match lastChanged s.batch.records new with
    | some k => s'.touchBatch k
    | none => s'
  if someCured s.batch.records new then s'.postAll .batchCured else s'

/-- Every record is evaluated (R123). -/
def State.evaluateAll (s : State) : State := s.evaluate fun _ => true

/-- One record is evaluated (R123). -/
def State.evaluateAt (s : State) (k : Nat) : State := s.evaluate fun j => j == k

/-! ## The finished flag (R128) -/

/-- The finished flag as R128 gives it. -/
def BatchUnit.finishedWanted (u : BatchUnit) : Bool :=
  !u.records.isEmpty && u.records.all (fun r => decide (r.state = .cured)) && decide (u.mix = .dry)

/-- The finished flag judged, with FINISHED when it turns true (R128). -/
def State.judgeFinished (s : State) : State :=
  let s' : State := { s with batch := { s.batch with finished := s.batch.finishedWanted } }
  if s.batch.finishedWanted && !s.batch.finished then s'.postAll .finished else s'

/-- A write of a requirement reaches the batch unit (R126). -/
def State.requirementsChanged (s : State) : State := s.evaluateAll.judgeFinished

/-! ## The dose sample (R117 to R120) -/

/-- The gain of each record from a dose sample (R118). -/
def State.doseGain (s : State) : Nat :=
  if s.interlock.secured && !s.sensors.air.faulted && decide ((s.doseFloor : Int) ≤ s.sensors.air.value) then
    (s.sensors.air.value - (s.doseFloor : Int)).toNat
  else 0

/-- A record credited with dose; it saturates (R118). -/
def BatchRecord.addDose (r : BatchRecord) (gain : Nat) : BatchRecord :=
  { r with dose := min (r.dose + gain) Config.counterTop }

/-- Stage 1: dose (R118). -/
def State.creditDose (s : State) : State := s.setRecords (s.batch.records.map fun r => r.addDose s.doseGain)

/-- The sample is dry (R119). -/
def State.sampleIsDry (s : State) : HumidityReading → Bool
  | .failed => false
  | .result rh => s.interlock.secured && decide (rh ≤ 100) && decide (rh ≤ s.dryTarget)

/-- Stage 3: the dry run (R119). -/
def State.judgeDryRun (s : State) (humidity : HumidityReading) : State :=
  { s with
    batch := { s.batch with
      dryRun := if s.sampleIsDry humidity then min (s.batch.dryRun + 1) Config.dryRunTop else 0 } }

/-- Stage 4: the mix (R120). -/
def State.judgeMix (s : State) : State :=
  if s.batch.mix = .wet ∧ s.drySettle ≤ s.batch.dryRun then
    ({ s with batch := { s.batch with mix := .dry } } : State).postAll .mixDry
  else s

/-- The dose sample at the batch unit: the five stages of R117. -/
def State.takeSample (s : State) (humidity : HumidityReading) : State :=
  ((s.creditDose.evaluateAll.judgeDryRun humidity).judgeMix).judgeFinished

/-- DOSE_SAMPLE (R76, R117): the humidity conversion read for it is stored and handed on (R73). Not taken when no sample
is due. -/
def execDoseSample (humidity : HumidityReading) (s : State) : Answer :=
  if 0 < s.sensors.samplesDue then
    let m := s.sensors.storeHumidity humidity
    let s' : State := { s with sensors := { m with samplesDue := m.samplesDue - 1 } }
    .next (s'.takeSample humidity)
  else .next s

/-! ## Grind credit (R121) -/

/-- A record credited with one revolution; it saturates (R121). -/
def BatchRecord.addGrind (r : BatchRecord) : BatchRecord := { r with grind := min (r.grind + 1) Config.counterTop }

/-- A revolution at the batch unit (R121). -/
def State.takeRevolution (s : State) : State :=
  (s.setRecords (s.batch.records.map BatchRecord.addGrind)).evaluateAll.judgeFinished

/-- GRIND_CREDIT (R121). Not taken when the rotor monitor has handed over no revolution. -/
def execGrindCredit (s : State) : Answer :=
  if 0 < s.rotor.handed then
    let s' : State := { s with rotor := { s.rotor with handed := s.rotor.handed - 1 } }
    .next s'.takeRevolution
  else .next s

/-! ## Reservations (R132, R136) -/

/-- One port's reservation is broken if it is INTACT on a seq that the test names (R136). -/
def State.breakOne (hit : Port → Word → Bool) (s : State) (p : Port) : State :=
  match s.batch.reservations.get p with
  | .intact seq => if hit p seq then (s.setReservation p (.broken seq)).post .reservationLost p else s
  | .none | .broken _ => s

/-- Every port's reservation that the test names is broken (R136). -/
def State.breakReservations (s : State) (hit : Port → Word → Bool) : State := allPorts.foldl (State.breakOne hit) s

/-! ## Judging a closure (R104, R108 to R113) -/

/-- The re-wetting, after the record at a position has been written (R109). -/
def State.rewet (s : State) (k : Nat) : State :=
  let s' : State := { s with batch := { s.batch with mix := .wet, dryRun := 0, finished := false } }
  (s'.evaluateAt k).judgeFinished

/-- The sequence number that an opening takes: 1 when the numbers are exhausted (R104). -/
def BatchUnit.takenSeq (u : BatchUnit) : Word := if u.nextSeq = 0 then 1 else u.nextSeq

/-- A record as it is opened (R110, R112). -/
def State.newRecord (s : State) (mass : Option Nat) : BatchRecord :=
  { seq := s.batch.takenSeq, state := .fresh, mass := mass, dose := 0, grind := 0, openedAt := s.sensors.clock
    curedAt := none, merged := false, tag := 0, doseOverride := none, grindOverride := none }

/-- An opening (R110). -/
def State.openRecord (s : State) (mass : Option Nat) : State :=
  let k := s.batch.records.length
  let s' : State :=
    { s with
      batch := { s.batch with
        records := s.batch.records ++ [s.newRecord mass], nextSeq := s.batch.takenSeq + 1 } }
  (((s'.touchBatch k).postAll .batchOpened).rewet k)

/-- A record whose history is set back, by a merge or an unmeasured closure: FRESH, with this mass (R111, R112). -/
def BatchRecord.setBack (r : BatchRecord) (mass : Option Nat) : BatchRecord :=
  { r with mass := mass, dose := 0, grind := 0, curedAt := none, merged := true, state := .fresh }

/-- The youngest record, whose mass becomes what f makes of it, is set back: its reservations are broken, BATCH_MERGED is
posted and the mix is re-wetted (R109, R111, R112). -/
def State.resetYoungest (s : State) (f : Option Nat → Option Nat) : State :=
  let k := s.batch.records.length - 1
  match s.batch.records[k]? with
  | none => s
  | some r =>
    let s' := s.setRecords (s.batch.records.set k (r.setBack (f r.mass)))
    let s' := if r.state = .fresh then s' else s'.touchBatch k
    ((s'.breakReservations fun _ seq => seq == r.seq).postAll .batchMerged).rewet k

/-- A merge into the youngest (R111). -/
def State.mergeYoungest (s : State) (delta : Nat) : State :=
  s.resetYoungest fun mass => mass.map fun g => min (g + delta) Config.massTop

/-- An unmeasured closure (R112). -/
def State.unmeasuredClosure (s : State) : State :=
  if s.batch.records.isEmpty then s.openRecord none else s.resetYoungest id

/-- A record may be opened: fewer than 8, and numbers not exhausted or the table empty (R108). -/
def BatchUnit.mayOpen (u : BatchUnit) : Bool :=
  decide (u.records.length < Config.batchSize) && (decide (u.nextSeq ≠ 0) || u.records.isEmpty)

/-- The mass sample taken now (R74). -/
def State.massSample (s : State) : MassSample := { grams := s.sensors.mass, fault := s.sensors.loadFault }

/-- The closure is unmeasured: the mass after, or the mass before, carries LOAD_FAULT (R112). -/
def BatchUnit.unmeasured (u : BatchUnit) (after : MassSample) : Bool :=
  after.fault ||
    match u.massBefore with
    | some before => before.fault
    | none => false

/-- The delta of a closure; the mass after when the mass before is absent (R108). -/
def BatchUnit.delta (u : BatchUnit) (after : MassSample) : Int :=
  match u.massBefore with
  | some before => (after.grams : Int) - before.grams
  | none => after.grams

/-- A closure judged on its mass after (R108; R113 with log 27). -/
def State.judgeClosure (s : State) (after : MassSample) : State :=
  if s.batch.unmeasured after then s.unmeasuredClosure
  else if s.batch.delta after < (s.loadThreshold : Int) then s
  else if s.batch.mayOpen then s.openRecord (some (s.batch.delta after).toNat)
  else s.mergeYoungest (s.batch.delta after).toNat

/-! ## Mass samples (R105 to R107) -/

/-- A secured lost at the batch unit: the mass before is sampled when the settle is IDLE; the settle becomes IDLE (R105). -/
def BatchUnit.takeLost (u : BatchUnit) (sample : MassSample) : BatchUnit :=
  match u.settle with
  | .idle => { u with massBefore := some sample }
  | .running _ | .cut => { u with settle := .idle }

/-- MASS_BEFORE_SAMPLE (R105): the next event of the secured condition, if it is a secured lost. -/
def execMassBeforeSample (s : State) : Answer :=
  match s.batch.securedEvents with
  | .lost :: rest => .next { s with batch := { s.batch with securedEvents := rest }.takeLost s.massSample }
  | .gained :: _ | [] => .next s

/-- MASS_AFTER_SETTLE_START (R107): the next event of the secured condition, if it is a secured gained. -/
def execMassAfterSettleStart (s : State) : Answer :=
  match s.batch.securedEvents with
  | .gained :: rest => .next { s with batch := { s.batch with securedEvents := rest, settle := .running s.time } }
  | .lost :: _ | [] => .next s

/-- The mass-after settle has run 2 seconds (R107). -/
def State.settleOver (s : State) : Bool :=
  match s.batch.settle with
  | .running since => s.hasRun since Config.settleLength
  | .idle | .cut => false

/-- Write the mass-after settle. -/
def State.setSettle (s : State) (v : Settle) : State := { s with batch := { s.batch with settle := v } }

/-- MASS_AFTER_SETTLE_END (R107). -/
def execMassAfterSettleEnd (s : State) : Answer :=
  if s.settleOver then
    if s.interlock.secured then .next ((s.setSettle .idle).judgeClosure s.massSample) else .next (s.setSettle .cut)
  else .next s

/-- BIN_INSERTION (R106): the next event of the bin switch, if it is an insertion. -/
def execBinInsertion (s : State) : Answer :=
  match s.batch.binEvents with
  | .inserted :: rest => .next { s with batch := { s.batch with binEvents := rest, tareSettle := some s.time } }
  | .removed :: _ | [] => .next s

/-- The tare settle has run 1 second (R106). -/
def State.tareOver (s : State) : Bool :=
  match s.batch.tareSettle with
  | some since => s.hasRun since Config.tareLength
  | none => false

/-- TARE_SETTLE_END (R106). -/
def execTareSettleEnd (s : State) : Answer :=
  if s.tareOver then
    .next
      { s with
        batch := { s.batch with
          tareSettle := none
          massBefore := if s.interlock.binIn then some s.massSample else s.batch.massBefore } }
  else .next s

/-! ## Retirement (R138 to R140) -/

/-- The summary of a record retired now (R139). -/
def State.summaryOf (s : State) (r : BatchRecord) : Summary :=
  { seq := r.seq, finished := decide (r.state = .cured ∧ s.batch.mix = .dry), mass := r.mass, dose := r.dose
    grind := r.grind, openedAt := r.openedAt, curedAt := r.curedAt, retiredAt := s.sensors.clock, tag := r.tag
    overrun := false }

/-- The retired queue with one more summary: a full queue discards its oldest, and the summary carries the overrun flag
(R140). -/
def appendSummary (queue : List Summary) (x : Summary) : List Summary :=
  if queue.length < Config.retiredSize then queue ++ [x] else queue.drop 1 ++ [{ x with overrun := true }]

/-- The records of the table become summaries, oldest first, and the table is empty (R139, R140). -/
def State.retireRecords (s : State) : State :=
  { s with
    batch := { s.batch with
      retired := (s.batch.records.map s.summaryOf).foldl appendSummary s.batch.retired
      records := [], mix := .empty, finished := false } }

/-- Retirement; nothing on an empty table (R138, R140). -/
def State.retire (s : State) : State :=
  if s.batch.records.isEmpty then s else (s.retireRecords.breakReservations fun _ _ => true).postAll .retired

/-- RETIREMENT (R106, R138): the next event of the bin switch, if it is a removal. -/
def execRetirement (s : State) : Answer :=
  match s.batch.binEvents with
  | .removed :: rest =>
    .next ({ s with batch := { s.batch with binEvents := rest, tareSettle := none } } : State).retire
  | .inserted :: _ | [] => .next s

/-! ## Annotation (R127, R131, R135) -/

/-- The position of the record that carries a seq. -/
def BatchUnit.find (u : BatchUnit) (seq : Word) : Option Nat := u.records.findIdx? fun r => r.seq == seq

/-- A write of the annotation of the record at a position: the fields, the last-touched latch, the reservations that the
test names, cure and the finished flag, in that order (R131). -/
def State.annotate (s : State) (k : Nat) (w : AnnotationWrite) (hit : Port → Word → Bool) : State :=
  let s' := s.setRecords (s.batch.records.modify k (·.annotate w))
  (((s'.touchBatch k).breakReservations hit).evaluateAt k).judgeFinished

/-- An accepted commit of a port on the record at a position, which carries the seq: the port's own reservation becomes
NONE and every other on that seq is broken (R135). -/
def State.commit (s : State) (p : Port) (k : Nat) (seq : Word) (w : AnnotationWrite) : State :=
  (s.setReservation p .none).annotate k w fun q n => q != p && n == seq

/-! ## Requests -/

/-- The position that a selector of BATCH_READ names in the table (R115). -/
def BatchUnit.select (u : BatchUnit) : BatchSelector → Option Nat
  | .position n => if n < u.records.length then some n else none
  | .seq n => u.find n

/-- The data of BATCH_READ for one part of the record at a position. -/
def BatchUnit.partAt (u : BatchUnit) (k : Nat) (part : Byte) : List Byte :=
  match u.records[k]? with
  | some r => if part = 0 then r.part0 k else r.part1
  | none => []

/-- BATCH_READ taken (R115). -/
def State.takeBatchRead (s : State) (p : Port) (req : List Byte) : State :=
  match batchSelector req with
  | none => s.refuse p .range
  | some sel =>
    if byteAt req 2 ≠ 0 ∧ byteAt req 2 ≠ 1 then s.refuse p .range
    else
      match s.batch.select sel with
      | none => s.refuse p .notFound
      | some k => s.answer p .ok (s.batch.partAt k (byteAt req 2))

/-- BATCH_READ, code 10 (R115). -/
def execBatchRead (p : Port) (s : State) : Answer := onRequest s p 0x10 (s.takeBatchRead p)

/-- BATCH_RESERVE taken (R133). -/
def State.takeBatchReserve (s : State) (p : Port) (req : List Byte) : State :=
  if !(s.port p).access.annotate then s.refuse p .denied
  else if byteAt req 1 ≠ 1 then s.refuse p .range
  else
    match s.batch.find (wordAt req 3) with
    | none => s.refuse p .notFound
    | some k => (s.setReservation p (.intact (wordAt req 3))).answer p .ok (s.batch.partAt k 0)

/-- BATCH_RESERVE, code 11 (R133). -/
def execBatchReserve (p : Port) (s : State) : Answer := onRequest s p 0x11 (s.takeBatchReserve p)

/-- Checks 3 and 4 of R134: the status of the first that fails, none if both pass. -/
def Reservation.refusal (v : Reservation) (seq : Word) : Option Status :=
  match v with
  | .none => some .noReservation
  | .intact n => if n = seq then Option.none else some .noReservation
  | .broken n => if n = seq then some .lost else some .noReservation

/-- BATCH_COMMIT taken (R134, R135). -/
def State.takeBatchCommit (s : State) (p : Port) (req : List Byte) : State :=
  if !(s.port p).access.annotate then s.refuse p .denied
  else
    match commitWrite req with
    | none => s.refuse p .range
    | some w =>
      match (s.batch.reservations.get p).refusal (wordAt req 2) with
      | some st => s.refuse p st
      | none =>
        match s.batch.find (wordAt req 2) with
        | none => s.refuse p .notFound
        | some k =>
          let s' := s.commit p k (wordAt req 2) w
          s'.answer p .ok (s'.batch.partAt k 1)

/-- BATCH_COMMIT, code 12 (R134, R135). -/
def execBatchCommit (p : Port) (s : State) : Answer := onRequest s p 0x12 (s.takeBatchCommit p)

/-- One part of a summary, with the retired count after the request; nothing for a part number above 2 (R141). -/
def Summary.part (x : Summary) (count : Nat) (part : Byte) : Option (List Byte) :=
  if part = 0 then some (x.part0 count)
  else if part = 1 then some x.part1
  else if part = 2 then some x.part2
  else none

/-- RETIRED_PEEK taken (R141): the part number is checked before the queue. -/
def State.takeRetiredPeek (s : State) (p : Port) (req : List Byte) : State :=
  if 2 < (byteAt req 1).toNat then s.refuse p .range
  else
    match s.batch.retired with
    | [] => s.refuse p .empty
    | x :: _ => s.answer p .ok ((x.part s.batch.retired.length (byteAt req 1)).getD [])

/-- RETIRED_PEEK, code 13 (R141). -/
def execRetiredPeek (p : Port) (s : State) : Answer := onRequest s p 0x13 (s.takeRetiredPeek p)

/-- The retired queue without its oldest summary (R142). -/
def State.dropSummary (s : State) : State := { s with batch := { s.batch with retired := s.batch.retired.tail } }

/-- RETIRED_TAKE taken (R142). -/
def State.takeRetiredTake (s : State) (p : Port) (req : List Byte) : State :=
  if !(s.port p).access.annotate then s.refuse p .denied
  else
    match s.batch.retired with
    | [] => s.refuse p .empty
    | x :: rest =>
      if wordAt req 2 ≠ 0 ∧ wordAt req 2 ≠ x.seq then s.refuse p .conflict
      else s.dropSummary.answer p .ok (x.part0 rest.length)

/-- RETIRED_TAKE, code 14 (R142). -/
def execRetiredTake (p : Port) (s : State) : Answer := onRequest s p 0x14 (s.takeRetiredTake p)

end Sys2Proof.Machine
end

