-- ==== Sys2Proof/Machine/ClaimTable.lean ====
section
/-! DEFINITION. The claim table's own requests and timers (spec/01): DRAFT, ARM, DISARM, ALTER, CLAIM_READ, the expiry of
the run time and of the deadline. -/

namespace Sys2Proof.Machine

/-! ## DRAFT (R6, R7) -/

/-- The lowest-indexed FREE entry (R6). -/
def Table.lowestFree (t : Table) : Option ClaimIdx := all16.find? fun i => decide ((t.get i).state = .free)

/-- The entry that a DRAFT names, or the status of the first of checks 1 to 3 of R6 that fails. -/
def State.draftEntry (s : State) (p : Port) (index : Byte) : Except Status ClaimIdx :=
  if index = 255 then
    match Table.lowestFree s.claims with
    | some i => .ok i
    | none => .error .full
  else
    match claimIndex index with
    | none => .error .range
    | some i =>
      if (s.claim i).state = .free ∨ (s.claim i).owner = some p then .ok i else .error .notOwner

/-- The entry after an accepted DRAFT of the port: taken if it was FREE, and its staged copy written (R7). -/
def Claim.draft (c : Claim) (p : Port) (q : Params) : Claim :=
  if c.state = .free then { c with owner := some p, state := .draft, staged := q } else { c with staged := q }

/-- DRAFT taken (R6, R7). -/
def State.takeDraft (s : State) (p : Port) (req : List Byte) : State :=
  match s.draftEntry p (byteAt req 1) with
  | .error st => s.refuse p st
  | .ok i =>
    match draftParams req with
    | none => s.refuse p .range
    | some q =>
      ((s.setClaim i ((s.claim i).draft p q)).touchClaims s.claims).answer p .ok [BitVec.ofNat 8 i.val]

/-- DRAFT, code 08 (R6, R7). -/
def execDraft (p : Port) (s : State) : Answer := onRequest s p 0x08 (s.takeDraft p)

/-! ## ARM, DISARM and ALTER (R8 to R12) -/

/-- The entry that ARM, DISARM or ALTER of the port names, or the status of the first of their shared checks that fails:
the index, not FREE, owned by the port (R8, R11, R12). -/
def State.ownEntry (s : State) (p : Port) (index : Byte) : Except Status ClaimIdx :=
  match claimIndex index with
  | none => .error .range
  | some i =>
    if (s.claim i).state = .free then .error .state
    else if (s.claim i).owner = some p then .ok i
    else .error .notOwner

/-- ARM taken (R8, R9). -/
def State.takeArm (s : State) (p : Port) (req : List Byte) : State :=
  match s.ownEntry p (byteAt req 1) with
  | .error st => s.refuse p st
  | .ok i =>
    match armRefusal (s.port p).access i (s.claim i).staged with
    | some st => s.refuse p st
    | none => (((s.setClaim i (s.claim i).armed).reportPass).conclude s).answer p .ok []

/-- ARM, code 09 (R8, R9). -/
def execArm (p : Port) (s : State) : Answer := onRequest s p 0x09 (s.takeArm p)

/-- The owner's DISARM of an entry: the end WITHDRAWN of a claim in force, else FREE (R11). -/
def State.disarm (s : State) (i : ClaimIdx) : State :=
  if (s.claim i).inForce then (s.endAndReport i .withdrawn).conclude s
  else (s.setClaim i (.free (s.claim i).arming)).touchClaims s.claims

/-- DISARM taken (R11). -/
def State.takeDisarm (s : State) (p : Port) (req : List Byte) : State :=
  match s.ownEntry p (byteAt req 1) with
  | .error st => s.refuse p st
  | .ok i => (s.disarm i).answer p .ok []

/-- DISARM, code 0A (R11). -/
def execDisarm (p : Port) (s : State) : Answer := onRequest s p 0x0A (s.takeDisarm p)

/-- The entry with the changes made to both copies of its flags (R12). -/
def Claim.alter (c : Claim) (x : FlagChange × FlagChange × FlagChange) : Claim :=
  { c with active := c.active.alter x, staged := c.staged.alter x }

/-- The flags altered, with the pass that a change of the active BULK flag of a claim in force starts (R12). -/
def State.alterEntry (s : State) (i : ClaimIdx) (x : FlagChange × FlagChange × FlagChange) : State :=
  let c := s.claim i
  let s' := s.setClaim i (c.alter x)
  if c.inForce && ((c.alter x).active.bulk != c.active.bulk) then s'.reportPass else s'

/-- ALTER taken (R12). -/
def State.takeAlter (s : State) (p : Port) (req : List Byte) : State :=
  match s.ownEntry p (byteAt req 1) with
  | .error st => s.refuse p st
  | .ok i =>
    match alterCodes req with
    | none => s.refuse p .range
    | some x => (s.alterEntry i x).answer p .ok []

/-- ALTER, code 0B (R12). -/
def execAlter (p : Port) (s : State) : Answer := onRequest s p 0x0B (s.takeAlter p)

/-! ## CLAIM_READ (R13) -/

/-- One part of an entry, or nothing for a part number above 2 (R13). -/
def Claim.part (c : Claim) (part : Byte) : Option (List Byte) :=
  if part = 0 then some c.part0
  else if part = 1 then some c.part1
  else if part = 2 then some c.part2
  else none

/-- CLAIM_READ taken (R13). -/
def State.takeClaimRead (s : State) (p : Port) (req : List Byte) : State :=
  match claimIndex (byteAt req 1) with
  | none => s.refuse p .range
  | some i =>
    match (s.claim i).part (byteAt req 2) with
    | none => s.refuse p .range
    | some data => s.answer p .ok data

/-- CLAIM_READ, code 0C (R13). -/
def execClaimRead (p : Port) (s : State) : Answer := onRequest s p 0x0C (s.takeClaimRead p)

/-! ## Timers (R22, R23) -/

/-- The run time of a GRANTED claim has reached 0 (R22, log 10). -/
def Claim.runTimeOver (c : Claim) : Bool := decide (c.state = .granted ∧ c.remRun = 0)

/-- The deadline of a PENDING claim has reached 0 (R23, log 10). -/
def Claim.deadlineOver (c : Claim) : Bool :=
  decide (c.state = .pending ∧ c.active.deadline ≠ 0 ∧ c.remDeadline = 0)

/-- RUN_TIME_EXPIRY (R22): the end DONE, with the chain step of R20. -/
def execRunTimeExpiry (i : ClaimIdx) (s : State) : Answer :=
  if (s.claim i).runTimeOver then .next ((s.endAndReport i .done).conclude s) else .next s

/-- DEADLINE_EXPIRY (R23): the end LAPSED. -/
def execDeadlineExpiry (i : ClaimIdx) (s : State) : Answer :=
  if (s.claim i).deadlineOver then .next ((s.endAndReport i .lapsed).conclude s) else .next s

end Sys2Proof.Machine
end

