-- ==== Sys2Proof/Machine/Interlock.lean ====
section
/-! DEFINITION. The interlock and trip unit's own events (spec/03): the four filtered inputs, the disagreement timer and
HALT_CLEAR. -/

namespace Sys2Proof.Machine

/-- LID_SWITCH_CHANGE (R48, R49, R60, R61). -/
def execLidSwitchChange (closed : Bool) (s : State) : Answer :=
  if s.interlock.lidClosed = closed then .next s
  else
    let s' : State := { s with interlock := { s.interlock with lidClosed := closed } }
    .next (((s'.deriveSecured.judgeForced (!closed)).judgeDisagreement).conclude s)

/-- The bin event that a change of the bin switch hands to the batch unit (R49). -/
def binEvent (closed : Bool) : BinEvent := if closed then .inserted else .removed

/-- BIN_SWITCH_CHANGE (R48, R49, R60). -/
def execBinSwitchChange (closed : Bool) (s : State) : Answer :=
  if s.interlock.binIn = closed then .next s
  else
    let s' : State := { s with interlock := { s.interlock with binIn := closed } }
    .next (((s'.deriveSecured.judgeForced (!closed)).handBin (binEvent closed)).conclude s)

/-- LATCH_FEEDBACK_CHANGE (R48, R49, R61). -/
def execLatchFeedbackChange (engaged : Bool) (s : State) : Answer :=
  if s.interlock.feedbackEngaged = engaged then .next s
  else
    let s' : State := { s with interlock := { s.interlock with feedbackEngaged := engaged } }
    .next ((s'.deriveSecured.judgeDisagreement).conclude s)

/-- CUTOUT_CHANGE (R58). -/
def execCutoutChange (closed : Bool) (s : State) : Answer :=
  if s.interlock.cutoutClosed = closed then .next s
  else
    let s' : State := { s with interlock := { s.interlock with cutoutClosed := closed } }
    .next ((if closed then s'.deactivate .cutout else s'.raise .cutout).conclude s)

/-- The disagreement timer has run 1 second (R61). -/
def State.disagreementOver (s : State) : Bool :=
  match s.interlock.disagreement with
  | some since => s.hasRun since Config.disagreementLength
  | none => false

/-- DISAGREEMENT_TIMER_EXPIRY (R61). -/
def execDisagreementTimerExpiry (s : State) : Answer :=
  if s.disagreementOver then
    let s' : State := { s with interlock := { s.interlock with disagreement := none } }
    .next ((s'.raise .latchFault).conclude s)
  else .next s

/-- The halt latch cleared with its set and first cause (R67). -/
def Interlock.clearHalt (u : Interlock) : Interlock := { u with causes := 0, firstCause := none, haltLatch := false }

/-- The halt is cleared: HALT_CLEARED, the resume request if the chamber allows it, and a pass (R67). -/
def State.clearHalt (s : State) : State :=
  let s' := ({ s with interlock := s.interlock.clearHalt } : State).postAll .haltCleared
  let s' := if s'.interlock.secured && decide (s'.interlock.latchCommand = .engage) then s'.resumeAll else s'
  s'.reportPass

/-- HALT_CLEAR taken (R67). -/
def State.takeHaltClear (s : State) (p : Port) : State :=
  if !(s.port p).access.haltClear then s.refuse p .denied
  else if !s.interlock.haltLatch then s.answer p .ok []
  else if s.interlock.causes &&& s.interlock.active ≠ 0 then s.answer p .activeCause [s.interlock.active.setWidth 8]
  else (s.clearHalt.conclude s).answer p .ok []

/-- HALT_CLEAR, code 20 (R67). -/
def execHaltClear (p : Port) (s : State) : Answer := onRequest s p 0x20 fun _ => s.takeHaltClear p

end Sys2Proof.Machine
end

