-- ==== Sys2Proof/Machine/Reset.lean ====
section
/-! DEFINITION. RESET_RELEASE: every block takes its reset values, the first samples are taken, and the interlock and trip
unit judges them (R48, R69, R77, R100, R116, R145, R146, R168, R169). -/

namespace Sys2Proof.Machine

/-- The class that the straps give (R146). -/
def portClass (x : Straps) : PortClass :=
  match x.cls1, x.cls0 with
  | false, false => .control
  | false, true => .panel
  | true, false => .link
  | true, true => .none

/-- The sensor block with its first conversions stored (R77). -/
def Sensors.first (f : FirstSamples) : Sensors :=
  ((({ Sensors.reset with plate := thermistorConversion f.plate, air := thermistorConversion f.air } :
    Sensors).storeHumidity f.humidity).storeLoad f.load)

/-- The interlock and trip unit with its first samples, the secured condition derived from them (R48, R49). -/
def Interlock.first (f : FirstSamples) : Interlock :=
  let u : Interlock :=
    { Interlock.reset with
      lidClosed := f.lidClosed, binIn := f.binIn, feedbackEngaged := f.feedbackEngaged
      cutoutClosed := f.cutoutClosed }
  { u with secured := u.securedWanted }

/-- The batch unit: a chamber secured at the first samples is its first secured gained, and the settle runs from reset
release (R107, R116). -/
def BatchUnit.first (f : FirstSamples) : BatchUnit :=
  { BatchUnit.reset with settle := if (Interlock.first f).securedWanted then .running 0 else .idle }

/-- The part with its reset values and its first samples, before they are judged. -/
def State.first (f : FirstSamples) (pending : List Instr) : State :=
  { State.reset with
    interlock := Interlock.first f, sensors := Sensors.first f, batch := BatchUnit.first f
    ports := f.straps.map fun x => .reset (portClass x)
    pending := pending }

/-- The first samples judged: the disagreement, the cutout, and after them the first thermistor report (R69, R77). The fan
duty is then that of R81, also when it was the cutout that set the halt latch and the plate conversion is valid and at or
above the open limit: the last sentence of R82 names a halt that the report sets, and leaves this one open (log 33). -/
def State.judgeFirst (s : State) : State :=
  let s := s.judgeDisagreement
  let s := if s.interlock.cutoutClosed then s else s.raise .cutout
  s.judgeReport.derivePlateBelow.settleOutputs

/-- RESET_RELEASE (R69). The commands that wait are the world's, and they stay (log 29). -/
def execResetRelease (first : FirstSamples) (s : State) : Answer := .next (State.first first s.pending).judgeFirst

end Sys2Proof.Machine
end

