-- ==== Sys2Proof/Machine/RotorMonitor.lean ====
section
/-! DEFINITION. The rotor monitor's events (spec/05): ROTOR_READ, the pulse, the rotor's coming to rest, the start grace,
the stall watch, the jog and its probe, the PULSED pattern and the clean-run timer. -/

namespace Sys2Proof.Machine

/-- ROTOR_READ taken (R99). -/
def State.takeRotorRead (s : State) (p : Port) (req : List Byte) : State :=
  if (byteAt req 1).toNat ≤ 4 then s.answer p .ok (s.rotor.part (byteAt req 1).toNat) else s.refuse p .range

/-- ROTOR_READ, code 02 (R99). -/
def execRotorRead (p : Port) (s : State) : Answer := onRequest s p 0x02 (s.takeRotorRead p)

/-! ## The life of one pulse (R83 to R88, R94) -/

/-- The rising edge of the pulse taken now: the row comes at the end of the 200 microseconds for which the line has stayed
high (R83, log 26). -/
def State.pulseEdge (s : State) : Nat := s.time - Config.pulseFilter

/-- The stamp of a rising edge: the value of the microsecond counter at it (R83). -/
def stampOf (edge : Nat) : Word := BitVec.ofNat 32 edge

/-- The interval from the last accepted time to a rising edge: the difference of the two stamps modulo 2 to the power 32
(R83, R84). -/
def Rotor.interval (r : Rotor) (edge : Nat) : Nat := (stampOf edge - stampOf (r.lastAccepted.getD 0)).toNat

/-- A pulse with that rising edge is EARLY: a period is present and the interval is less than half of it (R84). -/
def Rotor.isEarly (r : Rotor) (edge : Nat) : Bool :=
  match r.period with
  | some period => decide (2 * r.interval edge < period)
  | none => false

/-- The ring with one more record, the oldest discarded if it was full (R83). -/
def ringAppend (ring : List PulseRecord) (x : PulseRecord) : List PulseRecord :=
  if ring.length < Config.ringSize then ring ++ [x] else ring.drop 1 ++ [x]

/-- A pulse recorded; the at-rest flag and the rest timer follow it (R83, R87). -/
def Rotor.record (r : Rotor) (now edge : Nat) : Rotor :=
  { r with
    ring := ringAppend r.ring { stamp := stampOf edge, direction := r.output, early := r.isEarly edge }
    atRest := false
    restTimer := if r.output = .off then some now else r.restTimer }

/-- The period after an ACCEPTED pulse (R84). -/
def Rotor.acceptedPeriod (r : Rotor) (edge : Nat) : Option Nat :=
  match r.period with
  | some _ => some (r.interval edge)
  | none => if r.grace.isSome then some Config.nominalPeriod else none

/-- The classification of an ACCEPTED pulse (R84, R85, R90). -/
def Rotor.accept (r : Rotor) (edge : Nat) : Rotor :=
  { r with period := r.acceptedPeriod edge, lastAccepted := some edge, earlyCount := 0, grace := none }

/-- The pulse is taken in a jog's PROBE phase. -/
def Rotor.probing (r : Rotor) : Bool := decide (r.mode = .jogging ∧ r.jogPhase = .probe)

/-- An ACCEPTED pulse taken now counts toward a revolution (R86). -/
def Rotor.countsRevolution (r : Rotor) : Bool :=
  decide (r.output = .forward) && (decide (r.mode = .driving) || r.probing)

/-- The revolution count of an ACCEPTED pulse: each fourth is a revolution, handed to the batch unit (R86). -/
def Rotor.countRevolution (r : Rotor) : Rotor :=
  if r.countsRevolution then
    if r.quarterCount + 1 = 4 then
      { r with quarterCount := 0, revolutions := r.revolutions + 1, handed := r.handed + 1 }
    else { r with quarterCount := r.quarterCount + 1 }
  else r

/-- The laboured judgement of one measured period against the laboured period, both in microseconds (R88). -/
def Rotor.judgeLaboured (r : Rotor) (limit period : Nat) : Rotor :=
  if r.laboured then
    if limit < period then { r with belowCount := 0 }
    else if r.belowCount + 1 = Config.labouredRun then { r with laboured := false, aboveCount := 0, belowCount := 0 }
    else { r with belowCount := r.belowCount + 1 }
  else
    if period ≤ limit then { r with aboveCount := 0 }
    else if r.aboveCount + 1 = Config.labouredRun then { r with laboured := true, aboveCount := 0, belowCount := 0 }
    else { r with aboveCount := r.aboveCount + 1 }

/-- The laboured judgement of an ACCEPTED pulse: made in DRIVING, on a period measured between two accepted pulses
(R88). -/
def Rotor.countLaboured (r : Rotor) (limit edge : Nat) : Rotor :=
  if r.mode = .driving ∧ r.period.isSome then r.judgeLaboured limit (r.interval edge) else r

/-- A probe succeeds: DRIVING, or the off phase that is due (R94, R92, log 17). -/
def Rotor.probeSucceeds (r : Rotor) (now : Nat) : Rotor :=
  let r' := { r with jogPhase := .none, mode := .driving, cleanRun := some now }
  if r.offPhaseDue then r'.beginOffPhase now else r'

/-- The probe count of an ACCEPTED pulse (R94). -/
def Rotor.countProbe (r : Rotor) (now : Nat) : Rotor :=
  if r.probing then
    let r' := { r with probeCount := r.probeCount + 1 }
    if r'.probeCount = Config.probePulses then r'.probeSucceeds now else r'
  else r

/-- An ACCEPTED pulse whole (R83 to R88, R94). -/
def Rotor.acceptedPulse (r : Rotor) (now limit edge : Nat) : Rotor :=
  (((((r.record now edge).countLaboured limit edge).accept edge).countRevolution).countProbe now)

/-- An EARLY pulse at the monitor: the fourth in a row returns the early count to 0 (R85). -/
def Rotor.earlyPulse (r : Rotor) (now edge : Nat) : Rotor :=
  { r.record now edge with earlyCount := if r.earlyCount + 1 = Config.earlyRun then 0 else r.earlyCount + 1 }

/-- The laboured period in microseconds (R88). -/
def State.labouredLimit (s : State) : Nat := s.labouredPeriod * Config.msec

/-- An ACCEPTED pulse taken, with the LABOURED notice if it sets the flag (R88). -/
def State.takeAccepted (s : State) : State :=
  let r := s.rotor.acceptedPulse s.time s.labouredLimit s.pulseEdge
  let s' : State := { s with rotor := r }
  if r.laboured && !s.rotor.laboured then s'.postAll .laboured else s'

/-- An EARLY pulse taken, with the report of ROTOR_SENSOR if it is the fourth in a row (R85). -/
def State.takeEarly (s : State) : State :=
  let s' : State := { s with rotor := s.rotor.earlyPulse s.time s.pulseEdge }
  if s.rotor.earlyCount + 1 = Config.earlyRun then (s'.raise .rotorSensor).conclude s else s'

/-- ROTOR_PULSE (R83), stamped with the counter at its rising edge (log 26). -/
def execRotorPulse (s : State) : Answer :=
  if s.rotor.isEarly s.pulseEdge then .next s.takeEarly else .next s.takeAccepted

/-! ## Coming to rest (R87) -/

/-- The rest timer has reached 1 second. -/
def State.restOver (s : State) : Bool :=
  match s.rotor.restTimer with
  | some since => s.hasRun since Config.restLength
  | none => false

/-- ROTOR_AT_REST (R87). -/
def execRotorAtRest (s : State) : Answer :=
  if s.restOver then
    let s' : State :=
      { s with rotor := { s.rotor with atRest := true, restTimer := none, period := none, earlyCount := 0 } }
    .next s'.reportPass
  else .next s

/-! ## Stalls, jogs and jams (R90, R91, R93 to R95) -/

/-- The owner of the GRINDER holder. -/
def State.grinderOwner (s : State) : Option Port :=
  match Table.holder s.claims .grinder with
  | some i => (s.claim i).owner
  | none => none

/-- A jog starts, with its JOG notice (R93). -/
def State.startJog (s : State) : State :=
  ({ s with rotor := s.rotor.startJog s.time } : State).postOwner .jog s.grinderOwner

/-- A jam is declared: the drive off and IDLE, the attempt count at 3, and the report of JAM (R95). -/
def State.declareJam (s : State) : State :=
  let s' : State := { s with rotor := { s.rotor.stop s.time with attempts := Config.maxAttempts } }
  (s'.raise .jam).conclude s

/-- A probe fails: a new jog, or the jam at the third failure (R94). -/
def State.probeFails (s : State) : State :=
  if s.rotor.attempts + 1 < Config.maxAttempts then
    ({ s with rotor := { s.rotor with attempts := s.rotor.attempts + 1 } } : State).startJog
  else s.declareJam

/-- The monitor watches for a stall: in DRIVING and in PROBE (R91). The driving of a holder that has yielded in a
displacement is cut short, and is not watched until the grant (R97, log 9). -/
def State.watching (s : State) : Bool :=
  (decide (s.rotor.mode = .driving) && !s.handsOver .grinder) || s.rotor.probing

/-- A STALL is declared (R91): a jog in DRIVING, a failure of the probe in PROBE. -/
def State.stall (s : State) : State := if s.rotor.mode = .driving then s.startJog else s.probeFails

/-- A start grace has run 1500 milliseconds (R90). -/
def State.graceOver (s : State) : Bool :=
  match s.rotor.grace with
  | some since => s.hasRun since Config.graceLength
  | none => false

/-- START_GRACE_RUNS_OUT (R90, R91). -/
def execStartGraceRunsOut (s : State) : Answer :=
  if s.watching && s.graceOver then .next s.stall else .next s

/-- The stall deadline has passed: the last accepted time plus twice the period (R91). It is reckoned on the unwrapped
time, since twice a period may be more than the counter can show. -/
def State.deadlinePassed (s : State) : Bool :=
  match s.rotor.period, s.rotor.lastAccepted with
  | some period, some last => s.hasRun last (2 * period)
  | _, _ => false

/-- STALL_DEADLINE_PASSED (R91). -/
def execStallDeadlinePassed (s : State) : Answer :=
  if s.watching && s.deadlinePassed then .next s.stall else .next s

/-- The length of a jog phase that ends by its time alone (R93). -/
def JogPhase.length : JogPhase → Option Nat
  | .firstStop | .secondStop => some Config.stopLength
  | .reverse => some Config.reverseLength
  | .none | .probe => Option.none

/-- The jog phase has run its length. -/
def State.phaseOver (s : State) : Bool :=
  match s.rotor.jogPhase.length with
  | some n => decide (s.rotor.mode = .jogging) && s.hasRun s.rotor.phaseStart n
  | none => false

/-- The jog moves to its next phase (R89, R90, R93). -/
def Rotor.nextPhase (r : Rotor) (now : Nat) : Rotor :=
  match r.jogPhase with
  | .firstStop => { r.setOutput now r.setting.direction.opposite with jogPhase := .reverse, phaseStart := now }
  | .reverse => { r.setOutput now .off with jogPhase := .secondStop, phaseStart := now }
  | .secondStop =>
    { (r.setOutput now r.setting.direction).startGrace now with jogPhase := .probe, phaseStart := now }
  | .none | .probe => r

/-- JOG_PHASE_END (R93). -/
def execJogPhaseEnd (s : State) : Answer :=
  if s.phaseOver then .next { s with rotor := s.rotor.nextPhase s.time } else .next s

/-- PROBE_WINDOW_END (R94). -/
def execProbeWindowEnd (s : State) : Answer :=
  if s.rotor.probing && s.hasRun s.rotor.phaseStart Config.probeLength then .next s.probeFails else .next s

/-! ## The PULSED pattern and the clean-run timer (R92, R96) -/

/-- The on time has run out. -/
def State.onTimeOver (s : State) : Bool :=
  match s.rotor.pattern with
  | .on since => s.hasRun since (s.rotor.setting.onTime * Config.second)
  | .off _ | .idle => false

/-- The end of the on time, by the drive mode (R92). -/
def Rotor.endOnTime (r : Rotor) (now : Nat) : Rotor :=
  match r.mode with
  | .driving => r.beginOffPhase now
  | .jogging => { r with offPhaseDue := true, pattern := .idle }
  | .idle | .offPhase => r

/-- ON_TIME_END (R92). -/
def execOnTimeEnd (s : State) : Answer :=
  if s.onTimeOver then .next { s with rotor := s.rotor.endOnTime s.time } else .next s

/-- The off time has run out. -/
def State.offTimeOver (s : State) : Bool :=
  match s.rotor.pattern with
  | .off since => decide (s.rotor.mode = .offPhase) && s.hasRun since (s.rotor.setting.offTime * Config.second)
  | .on _ | .idle => false

/-- OFF_TIME_END (R92). -/
def execOffTimeEnd (s : State) : Answer :=
  if s.offTimeOver then .next { s with rotor := s.rotor.drive s.time } else .next s

/-- The clean-run timer has reached 30 seconds. -/
def State.cleanRunOver (s : State) : Bool :=
  match s.rotor.cleanRun with
  | some since => s.hasRun since Config.cleanRunLength
  | none => false

/-- CLEAN_RUN_TIMER_EXPIRY (R96, log 17). -/
def execCleanRunTimerExpiry (s : State) : Answer :=
  if s.cleanRunOver then .next { s with rotor := { s.rotor with attempts := 0, cleanRun := none } } else .next s

end Sys2Proof.Machine
end

