-- ==== Sys2Proof/Machine/TuningTable.lean ====
section
/-! DEFINITION. The tuning table (spec/11): TUNING_READ, TUNING_WRITE, and what an accepted write does at the blocks that
read the value. -/

namespace Sys2Proof.Machine

/-- The value lies in the entry's range (R169). -/
def tuningInRange (k : Fin 13) (v : Nat) : Bool :=
  decide ((Config.tuningRows.get k).lowest ≤ v ∧ v ≤ (Config.tuningRows.get k).highest)

/-- TUNING_READ taken (R170). -/
def State.takeTuningRead (s : State) (p : Port) (req : List Byte) : State :=
  match tuningIndex (byteAt req 1) with
  | some k => s.answer p .ok (s.tuningReadData k)
  | none => s.refuse p .range

/-- TUNING_READ, code 28 (R170). -/
def execTuningRead (p : Port) (s : State) : Answer := onRequest s p 0x28 (s.takeTuningRead p)

/-- One tuning value replaced. -/
def State.setTuning (s : State) (k : Fin 13) (v : Nat) : State := { s with tuning := s.tuning.set k v }

/-- An accepted write of any entry but the budget, with what it does at once (R169, R171): a pass for the yield level,
the cure evaluation for a requirement, the fan duty for the lid-vent duty. -/
def State.writeTuning (s : State) (k : Fin 13) (v : Nat) : State :=
  let s' := s.setTuning k v
  if k = 1 then s'.reportPass
  else if k = 3 ∨ k = 4 then s'.requirementsChanged
  else if k = 11 then s'.followFan
  else s'

/-- The port has a budget write waiting at the arbiter. -/
def State.budgetWaits (s : State) (p : Port) : Bool := s.arbiter.budgetWrites.any fun w => w.1 == p

/-- A budget write of a port is handed to the arbiter, and its request stays in flight (R172). -/
def State.handBudget (s : State) (p : Port) (v : Nat) : State :=
  { s with arbiter := { s.arbiter with budgetWrites := s.arbiter.budgetWrites ++ [(p, v)] } }

/-- TUNING_WRITE taken (R171). -/
def State.takeTuningWrite (s : State) (p : Port) (req : List Byte) : State :=
  if s.budgetWaits p then s
  else if !(s.port p).access.tuning then s.refuse p .denied
  else
    match tuningIndex (byteAt req 1) with
    | none => s.refuse p .range
    | some k =>
      let v := (halfAt req 2).toNat
      if !tuningInRange k v then s.refuse p .range
      else if k = 0 then s.handBudget p v
      else (s.writeTuning k v).answer p .ok (tuningWriteData k v)

/-- TUNING_WRITE, code 29 (R171). A budget write waits for BUDGET_WRITE (log 14). -/
def execTuningWrite (p : Port) (s : State) : Answer := onRequest s p 0x29 (s.takeTuningWrite p)

end Sys2Proof.Machine
end

