-- ==== Sys2Proof/Machine/ServiceLink.lean ====
section
/-! DEFINITION. The service link (spec/10): one command for each kind of frame, and RESYNC. -/

namespace Sys2Proof.Machine

/-! ## A frame (R160, R161) -/

/-- The position of the next bit in its frame, 0 to 31 (R160). -/
def Link.bitCount (l : Link) : Nat := l.sampled.length

/-- The bit of the pending answer that SDO gives with the next bit of the frame, most significant first (R160). -/
def Link.sdo (l : Link) : Bool := l.answer.getLsbD (31 - l.bitCount)

/-- SACK is low: for as many periods of SCK as mark the kind of the last frame, the first bits of the next (R161). -/
def Link.sackLow (l : Link) : Bool := decide (l.bitCount < l.sack)

/-- The state with these bits of a frame sampled, and that ones run after them (R160, R167). -/
def State.sampledBits (s : State) (bits : List Bool) (run : Nat) : State :=
  { s with link := { s.link with sampled := bits, onesRun := run } }

/-- SDI gives the bits of a row for a frame of that kind. Bits that do not end the frame under way leave it waiting for
the rest; the 32nd bit ends it, and it is taken as one event with the effect f of its word (R160). The link decodes the
frame: bits that end a frame of another kind, or more than one, or complete a RESYNC, are not those of the row's event,
and nothing changes (R167, log 2, log 20). -/
def takeFrame (s : State) (bits : List Bool) (kind : FrameKind) (f : Word → State) : Answer :=
  match onesAfter s.link.onesRun bits with
  | none => .next s
  | some run =>
    let sampled := s.link.sampled ++ bits
    if sampled.length < 32 then .next (s.sampledBits sampled run)
    else if sampled.length = 32 ∧ s.link.phase.kindOf (wordOfBits sampled) = kind then
      .next ((f (wordOfBits sampled)).sampledBits [] run)
    else .next s

/-- The pending answer and the acknowledge width after a frame (R160, R161). -/
def State.reply (s : State) (answer : Word) (sack : Nat) : State :=
  { s with link := { s.link with answer := answer, sack := sack } }

/-- The bits of a frame that are still to be sampled when it is the one under way (R160). -/
def Link.bitsLeft (l : Link) (frame : Word) : List Bool := (frameBits frame).drop l.sampled.length

/-- IDLE_FRAME (R161). -/
def execIdleFrame (bits : List Bool) (s : State) : Answer := takeFrame s bits .idle fun _ => s.reply 0 1

/-- UNKNOWN_COMMAND_FRAME (R161): taken as IDLE. -/
def execUnknownCommandFrame (bits : List Bool) (s : State) : Answer :=
  takeFrame s bits .unknown fun _ => s.reply 0 1

/-! ## PEEK (R163) -/

/-- The snapshot that a PEEK of word 0 takes; none if the address has no record (R163). -/
def State.snapshotOf (s : State) (table entry : Nat) : Option Snapshot :=
  match s.recordWords table entry with
  | [] => none
  | words => some { table := table, entry := entry, words := words }

/-- Write the service snapshot. -/
def State.setSnapshot (s : State) (x : Option Snapshot) : State := { s with link := { s.link with snapshot := x } }

/-- The snapshot is of that record: of the same table and entry. A later record at a batch or queue position counts as the
snapshot's here, also for the write that makes the snapshot absent, which R163 and R165 leave open (log 34). -/
def Link.holdsSnapshot (l : Link) (table entry : Nat) : Bool :=
  match l.snapshot with
  | some x => decide (x.table = table ∧ x.entry = entry)
  | none => false

/-- The words of the snapshot held; none if it is absent. -/
def Link.snapshotWords (l : Link) : List Word :=
  match l.snapshot with
  | some x => x.words
  | none => []

/-- A PEEK taken (R163). -/
def State.takePeek (s : State) (table entry w : Nat) : State :=
  if w = 0 then (s.setSnapshot (s.snapshotOf table entry)).reply (s.readWord table entry 0) 2
  else if s.link.holdsSnapshot table entry then s.reply (s.link.snapshotWords.getD w 0) 2
  else s.reply (s.readWord table entry w) 2

/-- PEEK (R163). -/
def execPeek (table : BitVec 4) (entry w low : Byte) (s : State) : Answer :=
  takeFrame s (s.link.bitsLeft (commandFrame 1 (addressBits table entry w low))) .peek fun frame =>
    s.takePeek (frameTable frame) (frameEntry frame) (frameWord frame)

/-! ## POKE (R164, R165) -/

/-- Write the POKE phase. -/
def State.setPhase (s : State) (x : PokePhase) : State := { s with link := { s.link with phase := x } }

/-- The seq that the address frame records: that of the batch record at the position, for table 2 (R164). -/
def State.recordedSeq (s : State) (table entry : Nat) : Option Word :=
  if table = 2 then s.batch.records[entry]?.map (·.seq) else none

/-- A POKE address frame taken (R164). -/
def State.takePoke (s : State) (table entry w : Nat) : State :=
  (s.setPhase (.data table entry w (s.recordedSeq table entry))).reply (s.readWord table entry w) 3

/-- POKE (R164). -/
def execPoke (table : BitVec 4) (entry w low : Byte) (s : State) : Answer :=
  takeFrame s (s.link.bitsLeft (commandFrame 2 (addressBits table entry w low))) .poke fun frame =>
    s.takePoke (frameTable frame) (frameEntry frame) (frameWord frame)

/-- A budget written by the link, at the arbiter between passes (R165, R172, log 13): the state after, and whether it was
accepted. -/
def State.pokeBudget (s : State) (v : Nat) : State × Bool :=
  let s' := s.settleArbiter
  if s'.budgetFits v then (s'.applyBudget v, true) else (s', false)

/-- A write of a tuning word (R165). -/
def State.pokeTuning (s : State) (k : Fin 13) (value : Word) : State × Bool :=
  match pokeValue value with
  | none => (s, false)
  | some h =>
    if !tuningInRange k h.toNat then (s, false)
    else if k = 0 then s.pokeBudget h.toNat
    else (s.writeTuning k h.toNat, true)

/-- The annotation write that a value makes of word 2, 3 or 4 of a batch record; nothing for another word or a value that
is no valid encoding (R165, R174). -/
def pokeAnnotation (w : Nat) (value : Word) : Option AnnotationWrite :=
  match w with
  | 2 => (pokeValue value).map fun v => ⟨some v, none, none⟩
  | 3 => (pokeOverride value).map fun v => ⟨none, some v, none⟩
  | 4 => (pokeOverride value).map fun v => ⟨none, none, some v⟩
  | _ => none

/-- A write of an annotation word of the record at a position: every reservation on the record is broken (R165, R136). -/
def State.pokeBatch (s : State) (entry w : Nat) (seq : Option Word) (value : Word) : State × Bool :=
  match s.batch.records[entry]?, pokeAnnotation w value with
  | some r, some x => if some r.seq = seq then (s.annotate entry x fun _ n => n == r.seq, true) else (s, false)
  | _, _ => (s, false)

/-- The write of a data frame judged and, if accepted, made (R165). -/
def State.pokeWrite (s : State) (table entry w : Nat) (seq : Option Word) (value : Word) : State × Bool :=
  if table = 0 ∧ w = 0 then
    if h : entry < 13 then s.pokeTuning ⟨entry, h⟩ value else (s, false)
  else if table = 2 then s.pokeBatch entry w seq value
  else (s, false)

/-- A POKE data frame taken in phase DATA (R164, R165). -/
def State.takeDataAt (s : State) (table entry w : Nat) (seq : Option Word) (value : Word) : State :=
  let r := s.pokeWrite table entry w seq value
  let s' := if r.2 && r.1.link.holdsSnapshot table entry then r.1.setSnapshot none else r.1
  (s'.setPhase (.verify r.2)).reply (s'.readWord table entry w) 3

/-- A POKE data frame taken, at the address of the phase (R164). -/
def State.takeData (s : State) (value : Word) : State :=
  match s.link.phase with
  | .data table entry w seq => s.takeDataAt table entry w seq value
  | .none | .verify _ => s

/-- POKE_DATA_FRAME (R164, R165). -/
def execPokeDataFrame (bits : List Bool) (s : State) : Answer := takeFrame s bits .pokeData s.takeData

/-- The verify frame of a POKE taken: the acknowledge shows whether the write was accepted (R161, R164). -/
def State.takeVerify (s : State) : State :=
  match s.link.phase with
  | .verify accepted => (s.setPhase .none).reply 0 (if accepted then 3 else 1)
  | .none | .data _ _ _ _ => s

/-- VERIFY_FRAME (R164). -/
def execVerifyFrame (bits : List Bool) (s : State) : Answer := takeFrame s bits .verify fun _ => s.takeVerify

/-! ## WATCH, TOUCHED and CALL (R161, R166) -/

/-- The state word of the last-touched record, read live (R166). -/
def State.watchWord (s : State) : Word :=
  match s.link.touched with
  | some (.claim i) => (s.claim i).stateWord
  | some (.batch k seq) =>
    match s.batch.records[k]? with
    | some r => if r.seq = seq then r.stateWord else 0
    | none => 0
  | none => 0

/-- WATCH (R166). -/
def execWatch (bits : List Bool) (s : State) : Answer := takeFrame s bits .watch fun _ => s.reply s.watchWord 1

/-- The address of the last-touched record, as a command frame with command 0 and word 0 (R166, R174). -/
def Link.touchedAddress (l : Link) : Word :=
  match l.touched with
  | some (.claim i) => commandFrame 0 (addressBits 1 (BitVec.ofNat 8 i.val) 0 0)
  | some (.batch k _) => commandFrame 0 (addressBits 2 (BitVec.ofNat 8 k) 0 0)
  | none => 0

/-- TOUCHED (R166). -/
def execTouched (bits : List Bool) (s : State) : Answer :=
  takeFrame s bits .touched fun _ => s.reply s.link.touchedAddress 1

/-- CALL (R161): SERVICE_CALL to every port. -/
def execCall (bits : List Bool) (s : State) : Answer :=
  takeFrame s bits .call fun _ => (s.postAll .serviceCall).reply 0 1

/-! ## RESYNC (R167) -/

/-- The ones that are left to a run of 64 fit into the frame under way, so that no frame ends before the run does (R167). -/
def Link.resyncFits (l : Link) : Bool := decide (l.bitCount + (64 - l.onesRun) ≤ 32)

/-- The link after a RESYNC (R167). -/
def Link.resync (l : Link) : Link :=
  { l with sampled := [], onesRun := 0, snapshot := none, phase := .none, answer := 0, sack := 4 }

/-- RESYNC (R167): the frame under way ends with the one that completes the run. -/
def execResync (s : State) : Answer :=
  if s.link.resyncFits then .next { s with link := s.link.resync } else .next s

end Sys2Proof.Machine
end

