-- ==== Sys2Proof/Machine/Dispatch.lean ====
section
/-! DEFINITION. The meaning of every command: one arm for each constructor of Instr. -/

namespace Sys2Proof.Machine

def exec (i : Instr) (s : State) : Host.Outcome State Fault Refusal :=
  match i with
  | .resetRelease first => Sys2Proof.Machine.execResetRelease first s
  | .transactionStart p => Sys2Proof.Machine.execTransactionStart p s
  | .transactionTaken p x => Sys2Proof.Machine.execTransactionTaken p x s
  | .busyTransaction x => Sys2Proof.Machine.execBusyTransaction x s
  | .shortTransaction x => Sys2Proof.Machine.execShortTransaction x s
  | .nop p => Sys2Proof.Machine.execNop p s
  | .status p => Sys2Proof.Machine.execStatus p s
  | .noticeRead p => Sys2Proof.Machine.execNoticeRead p s
  | .noticeClear p => Sys2Proof.Machine.execNoticeClear p s
  | .noticeLevel p => Sys2Proof.Machine.execNoticeLevel p s
  | .accessRead p => Sys2Proof.Machine.execAccessRead p s
  | .accessWrite p => Sys2Proof.Machine.execAccessWrite p s
  | .portReset p => Sys2Proof.Machine.execPortReset p s
  | .rotorRead p => Sys2Proof.Machine.execRotorRead p s
  | .draft p => Sys2Proof.Machine.execDraft p s
  | .arm p => Sys2Proof.Machine.execArm p s
  | .disarm p => Sys2Proof.Machine.execDisarm p s
  | .alter p => Sys2Proof.Machine.execAlter p s
  | .claimRead p => Sys2Proof.Machine.execClaimRead p s
  | .batchRead p => Sys2Proof.Machine.execBatchRead p s
  | .batchReserve p => Sys2Proof.Machine.execBatchReserve p s
  | .batchCommit p => Sys2Proof.Machine.execBatchCommit p s
  | .retiredPeek p => Sys2Proof.Machine.execRetiredPeek p s
  | .retiredTake p => Sys2Proof.Machine.execRetiredTake p s
  | .haltClear p => Sys2Proof.Machine.execHaltClear p s
  | .tuningRead p => Sys2Proof.Machine.execTuningRead p s
  | .tuningWrite p => Sys2Proof.Machine.execTuningWrite p s
  | .budgetWrite => Sys2Proof.Machine.execBudgetWrite s
  | .arbitrationPass together => Sys2Proof.Machine.execArbitrationPass together s
  | .grant => Sys2Proof.Machine.execGrant s
  | .yield => Sys2Proof.Machine.execYield s
  | .chamberClockIncrement => Sys2Proof.Machine.execChamberClockIncrement s
  | .runTimeExpiry k => Sys2Proof.Machine.execRunTimeExpiry k s
  | .deadlineExpiry k => Sys2Proof.Machine.execDeadlineExpiry k s
  | .lidSwitchChange closed => Sys2Proof.Machine.execLidSwitchChange closed s
  | .binSwitchChange closed => Sys2Proof.Machine.execBinSwitchChange closed s
  | .latchFeedbackChange engaged => Sys2Proof.Machine.execLatchFeedbackChange engaged s
  | .cutoutChange closed => Sys2Proof.Machine.execCutoutChange closed s
  | .disagreementTimerExpiry => Sys2Proof.Machine.execDisagreementTimerExpiry s
  | .thermistorReport plate air => Sys2Proof.Machine.execThermistorReport plate air s
  | .loadCellConversion reading => Sys2Proof.Machine.execLoadCellConversion reading s
  | .doseSample humidity => Sys2Proof.Machine.execDoseSample humidity s
  | .grindCredit => Sys2Proof.Machine.execGrindCredit s
  | .rotorPulse => Sys2Proof.Machine.execRotorPulse s
  | .rotorAtRest => Sys2Proof.Machine.execRotorAtRest s
  | .startGraceRunsOut => Sys2Proof.Machine.execStartGraceRunsOut s
  | .stallDeadlinePassed => Sys2Proof.Machine.execStallDeadlinePassed s
  | .jogPhaseEnd => Sys2Proof.Machine.execJogPhaseEnd s
  | .probeWindowEnd => Sys2Proof.Machine.execProbeWindowEnd s
  | .onTimeEnd => Sys2Proof.Machine.execOnTimeEnd s
  | .offTimeEnd => Sys2Proof.Machine.execOffTimeEnd s
  | .cleanRunTimerExpiry => Sys2Proof.Machine.execCleanRunTimerExpiry s
  | .massBeforeSample => Sys2Proof.Machine.execMassBeforeSample s
  | .massAfterSettleStart => Sys2Proof.Machine.execMassAfterSettleStart s
  | .massAfterSettleEnd => Sys2Proof.Machine.execMassAfterSettleEnd s
  | .binInsertion => Sys2Proof.Machine.execBinInsertion s
  | .tareSettleEnd => Sys2Proof.Machine.execTareSettleEnd s
  | .retirement => Sys2Proof.Machine.execRetirement s
  | .idleFrame bits => Sys2Proof.Machine.execIdleFrame bits s
  | .unknownCommandFrame bits => Sys2Proof.Machine.execUnknownCommandFrame bits s
  | .peek table entry word low => Sys2Proof.Machine.execPeek table entry word low s
  | .poke table entry word low => Sys2Proof.Machine.execPoke table entry word low s
  | .pokeDataFrame bits => Sys2Proof.Machine.execPokeDataFrame bits s
  | .verifyFrame bits => Sys2Proof.Machine.execVerifyFrame bits s
  | .watch bits => Sys2Proof.Machine.execWatch bits s
  | .touched bits => Sys2Proof.Machine.execTouched bits s
  | .call bits => Sys2Proof.Machine.execCall bits s
  | .resync => Sys2Proof.Machine.execResync s

end Sys2Proof.Machine
end

