-- ==== Sys2Proof/Machine/Step.lean ====
section
/-! DEFINITION. One step: the command at the front of the queue is taken, with the queue's rest; on an empty queue one
microsecond passes (log 1). -/

namespace Sys2Proof.Machine

/-- The state with this queue. -/
def State.withPending (s : State) (queue : List Instr) : State := { s with pending := queue }

/-- One microsecond passes: the timers and the microsecond counter run on (R83, log 1). -/
def State.tick (s : State) : State := { s with time := s.time + 1 }

/-- One step of the part. -/
def step (s : State) : Host.Outcome State Fault Refusal :=
  match s.pending with
  | c :: rest => exec c (s.withPending rest)
  | [] => .next s.tick

/-- The state with the command that a word spells put at the front of its queue; unchanged where it spells none, which
is every word (log 24). -/
def State.withFetchWord (s : State) (nbits w : Nat) : State :=
  match decodeTableWord nbits w with
  | some c => s.withPending (c :: s.pending)
  | none => s

end Sys2Proof.Machine
end

