-- ==== Sys2Proof/Safety.lean ====
section
/-! DEFINITION. The laws of the part, each a predicate of one state that the spec says its blocks keep: the claim table,
the halt latch, the chamber and its outputs, the rotor, the batch table, the ports, the tuning table, the sensors, the
link, and the power law. A law holds after RESET and is kept by every step; the statements for the provers say so. After
the laws, the rules of a pass and the layouts of the formats in the words of the spec, and the words of the statements. -/

namespace Sys2Proof.Machine

/-! ## The claim table -/

/-- What every entry keeps: the free values while FREE (R1), an owner otherwise (R1), an outcome exactly while ENDED
(R4), HELD only on HEATER and GRINDER (R5, R15), and an active follow-on greater than its own index (R9). -/
abbrev Claim.Lawful (i : ClaimIdx) (c : Claim) : Prop :=
  (c.state = .free → c = .free c.arming) ∧
  (c.state ≠ .free → c.owner ≠ none) ∧
  (c.outcome = .none ↔ c.state ≠ .ended) ∧
  (c.state = .held → c.active.kind = .drive ∧ (c.active.target = .heater ∨ c.active.target = .grinder)) ∧
  (∀ t ∈ c.active.followOn, i < t)

/-- Every entry is lawful. -/
abbrev State.ClaimsLawful (s : State) : Prop := ∀ i, (s.claim i).Lawful i

/-! ## The interlock and trip unit -/

/-- The halt latch is set exactly while the trip cause set is not empty (R63); the first cause is there with it and in the
set (R63, R64); what is active is in the set; JAM and ROTOR_SENSOR are never active (R56). -/
abbrev Interlock.HaltLawful (u : Interlock) : Prop :=
  (u.haltLatch = true ↔ u.causes ≠ 0) ∧
  (u.firstCause = none ↔ u.haltLatch = false) ∧
  (∀ c ∈ u.firstCause, u.causes.has c = true) ∧
  u.active &&& u.causes = u.active ∧
  u.active.has .jam = false ∧ u.active.has .rotorSensor = false

/-- Secured is what the switches say (R49); CUTOUT is active exactly while the line is open (R58); the disagreement timer
runs only with the lid closed and the feedback disagreeing, and while they do it runs or has raised LATCH_FAULT, which is
active only while the feedback disagrees (R61); LID_FORCED is not active in a secured chamber (R60). -/
abbrev Interlock.InputLawful (u : Interlock) : Prop :=
  u.secured = u.securedWanted ∧
  (u.active.has .cutout = true ↔ u.cutoutClosed = false) ∧
  (u.disagreement ≠ none → u.lidClosed = true ∧ u.disagrees = true) ∧
  (u.lidClosed = true → u.disagrees = true → u.disagreement ≠ none ∨ u.active.has .latchFault = true) ∧
  (u.active.has .latchFault = true → u.disagrees = true) ∧
  (u.active.has .lidForced = true → u.secured = false)

/-! ## The chamber and its outputs -/

/-- No HEATER or GRINDER claim is GRANTED (R50, R63). -/
abbrev State.ChamberQuiet (s : State) : Prop := ∀ i, (s.claim i).isHoldable = false

/-- While the chamber is not secured or the halt latch is set, no HEATER or GRINDER claim is GRANTED and their outputs are
off (R50, R63, R78); the heater and the grinder are driven only for a claim (R78, R89); the latch command is RELEASE
exactly while a LATCH claim is GRANTED, or the latch passes from one to the next (R53, R44, log 9); in a chamber that is
secured with the halt latch clear and the command ENGAGE no claim is HELD (R51, R53, R67); the fan duty is that of R81. -/
abbrev State.ChamberLawful (s : State) : Prop :=
  (s.chamberOk = false → s.ChamberQuiet ∧ s.drives.heaterOn = false ∧ s.rotor.output = .off) ∧
  (s.drives.heaterOn = true → s.driven .heater = true) ∧
  (s.rotor.mode ≠ .idle → s.driven .grinder = true ∧ s.chamberOk = true) ∧
  (s.interlock.latchCommand = .release ↔ s.driven .latch = true) ∧
  (s.chamberOk = true → s.interlock.latchCommand = .engage → ∀ i, (s.claim i).state ≠ .held) ∧
  s.drives.fanDuty = s.fanDutyWanted

/-! ## The rotor monitor -/

/-- The drive output that R89 gives. -/
def Rotor.outputWanted (r : Rotor) : Direction :=
  match r.mode, r.jogPhase with
  | .driving, _ | .jogging, .probe => r.setting.direction
  | .jogging, .reverse => r.setting.direction.opposite
  | .idle, _ | .offPhase, _ | .jogging, .none | .jogging, .firstStop | .jogging, .secondStop => .off

/-- The output is that of the drive mode and the jog phase, and a jog phase is named exactly while JOGGING (R89); the rest
timer runs only with the output OFF, and at rest the output is OFF and the period absent (R87). -/
abbrev Rotor.DriveLawful (r : Rotor) : Prop :=
  r.output = r.outputWanted ∧
  (r.jogPhase = .none ↔ r.mode ≠ .jogging) ∧
  r.setting.direction ≠ .off ∧
  (r.restTimer ≠ none → r.output = .off) ∧
  (r.atRest = true → r.output = .off ∧ r.period = none)

/-- The counts of the head table of spec/05 stay in their ranges (R83 to R88, R94, R96). -/
abbrev Rotor.CountsLawful (r : Rotor) : Prop :=
  r.ring.length ≤ Config.ringSize ∧ r.earlyCount < Config.earlyRun ∧ r.quarterCount < 4 ∧
  r.attempts ≤ Config.maxAttempts ∧ r.probeCount ≤ Config.probePulses ∧
  (r.mode = .jogging → r.probeCount < Config.probePulses) ∧
  r.aboveCount < Config.labouredRun ∧ r.belowCount < Config.labouredRun

/-! ## The batch unit -/

/-- An INTACT reservation names a record of the table (R134). -/
def BatchUnit.sound (u : BatchUnit) (v : Reservation) : Bool :=
  match v with
  | .intact seq => u.records.any fun r => r.seq == seq
  | .none | .broken _ => true

/-- What every record keeps: its state is that of R103 (R123), cured-at is present exactly while CURED (R102), and its
counts stay in their ranges (R102). -/
abbrev State.RecordLawful (s : State) (r : BatchRecord) : Prop :=
  r.state = s.stateFor r ∧ (r.curedAt ≠ none ↔ r.state = .cured) ∧
  r.dose ≤ Config.counterTop ∧ r.grind ≤ Config.counterTop ∧ r.seq ≠ 0 ∧
  (s.batch.nextSeq = 0 ∨ r.seq < s.batch.nextSeq)

/-- At most 8 records with sequence numbers strictly increasing (R101), each lawful; at most 6 summaries (R140); the mix
EMPTY exactly with the table (R120); the finished flag as R128 gives it; an INTACT reservation names a record of the table
(R134); the dry run count at most 600 (R119). -/
abbrev State.BatchLawful (s : State) : Prop :=
  s.batch.records.length ≤ Config.batchSize ∧
  s.batch.records.Pairwise (fun a b => a.seq < b.seq) ∧
  (∀ r ∈ s.batch.records, s.RecordLawful r) ∧
  s.batch.retired.length ≤ Config.retiredSize ∧
  (s.batch.mix = .empty ↔ s.batch.records = []) ∧
  s.batch.finished = s.batch.finishedWanted ∧
  (∀ p, s.batch.sound (s.batch.reservations.get p) = true) ∧
  s.batch.dryRun ≤ Config.dryRunTop

/-! ## The ports -/

/-- The attention line is that of R158; the reply is consumed exactly while a request is in flight (R148, R149); a reply
carries fourteen data bytes (R173); a request in flight carries one of the part's codes, and NOP at a port of class NONE
(R148); a transaction that started IDLE finds the flight IDLE (R147). -/
abbrev PortState.Lawful (q : PortState) : Prop :=
  q.attn = q.attnWanted ∧ q.consumed = q.flight.isSome ∧ q.reply.data.length = 14 ∧
  q.codeInFlight ∈ requestCodes ∧ (q.cls = .none → q.codeInFlight = 0) ∧
  (q.startedIdle = true → q.flight = none)

/-- Every port is lawful. -/
abbrev State.PortsLawful (s : State) : Prop := ∀ p, (s.port p).Lawful

/-! ## Tuning, sensors and the link -/

/-- Every tuning value lies in its range, and so does every budget write that waits (R169, R171). -/
abbrev State.TuningLawful (s : State) : Prop :=
  (∀ k, tuningInRange k (s.tuning.get k) = true) ∧
  (∀ w ∈ s.arbiter.budgetWrites, tuningInRange 0 w.2 = true)

/-- A stored conversion lies in the span, and is faulted exactly outside −20 °C to 250 °C (R70). -/
abbrev Conversion.Lawful (x : Conversion) : Prop :=
  (Config.spanLow ≤ x.value ∧ x.value ≤ Config.spanHigh) ∧
  (x.faulted = false ↔ Config.validLow ≤ x.value ∧ x.value ≤ Config.validHigh)

/-- The sensor block's values stay in their ranges (R70, R73, R74, R76). -/
abbrev Sensors.Lawful (m : Sensors) : Prop :=
  m.plate.Lawful ∧ m.air.Lawful ∧ m.humidity ≤ 100 ∧ m.mass ≤ Config.massTop ∧ m.divider < Config.sampleDivision

/-- The ones run stays below 64 (R167), and the bit count below 32 (R160). -/
abbrev Link.Lawful (l : Link) : Prop := l.onesRun < 64 ∧ l.sampled.length < 32

/-! ## All of them -/

/-- The state keeps every law. -/
abbrev State.Lawful (s : State) : Prop :=
  s.ClaimsLawful ∧ s.interlock.HaltLawful ∧ s.interlock.InputLawful ∧ s.ChamberLawful ∧
  s.rotor.DriveLawful ∧ s.rotor.CountsLawful ∧ s.BatchLawful ∧ s.PortsLawful ∧ s.TuningLawful ∧
  s.sensors.Lawful ∧ s.link.Lawful

/-! ## One holder and the power law (R26, R27) -/

/-- At most one DRIVE claim for each actuator is GRANTED or HELD (R26). -/
abbrev Table.OneHolder (t : Table) : Prop :=
  ∀ a i j, (t.get i).holds a = true → (t.get j).holds a = true → i = j

/-- One holder for each actuator, and the demands of the holders with the reductions in force within the budget (R26,
R27). -/
abbrev Table.Fits (t : Table) (budget : Nat) : Prop :=
  t.OneHolder ∧ Table.grantedSum t + Table.reductions t ≤ budget

/-- The most that a request can make of the table: a yield takes a holder out, leaving it PENDING; a grant lets a PENDING
claim in, if it is in the arming that the request names (R14, R17, R31). -/
def Table.after (t : Table) : Request → Table
  | .yield i _ => if (t.get i).isHolder then t.set i { t.get i with state := .pending } else t
  | .grant i n =>
    if (t.get i).state = .pending ∧ (t.get i).arming = n then t.set i { t.get i with state := .granted } else t

/-- The table fits, and so it does after each of the requests that are still to be taken. -/
def Table.FitsThrough (budget : Nat) : Table → List Request → Prop
  | t, [] => t.Fits budget
  | t, r :: rest => t.Fits budget ∧ Table.FitsThrough budget (t.after r) rest

/-- The entry that a grant names. -/
def Request.granted : Request → Option ClaimIdx
  | .grant i _ => some i
  | .yield _ _ => none

/-- R26 and R27 on the claim table together with the requests of the pass that it has not yet taken, which grant no entry
twice (R40). -/
abbrev State.PowerLawful (s : State) : Prop :=
  Table.FitsThrough s.budget s.claims s.arbiter.requests ∧ (s.arbiter.requests.filterMap Request.granted).Nodup

/-- No arming of a claim can bring back the arming number for which a grant still waits: that takes as many armings during
one pass as the number has values (R4, R31). -/
abbrev State.NoArmingReturns (s : State) : Prop :=
  ∀ i n, .grant i n ∈ s.arbiter.requests → (s.claim i).arming + 1 ≠ n

/-! ## The rules of a pass (R33 to R44), in the words of the spec -/

/-- A curb in force on the claim's actuator has the claim's level or a more urgent one (R33). -/
abbrev Reckoning.HeldBack (v : Reckoning) (c : Claim) : Prop :=
  ∃ k, (v.claim k).active.kind = .curb ∧ (v.claim k).state = .granted ∧
    (v.claim k).active.target = c.active.target ∧ (v.claim k).active.level ≤ c.active.level

/-- The holder of the claim's target, if there is one, gives way to the claim: it is BULK, the claim's level is below the
yield level, and the holder is less urgent than a DRIVE claim (R34), or not more urgent than a curb (R38). -/
abbrev Reckoning.HolderGivesWay (v : Reckoning) (c : Claim) : Prop :=
  ∀ h, (v.claim h).holds c.active.target = true →
    (v.claim h).active.bulk = true ∧ c.active.level.val < v.yieldLevel ∧
      (c.active.kind = .drive → c.active.level < (v.claim h).active.level) ∧
      (c.active.kind = .curb → c.active.level ≤ (v.claim h).active.level)

/-- A PENDING LATCH claim that is not parked. -/
abbrev Claim.AsksForTheLatch (c : Claim) : Prop :=
  c.state = .pending ∧ c.active.kind = .drive ∧ c.active.target = .latch ∧ c.active.level ≠ 15

/-- The claim is eligible by R33 to R38. -/
abbrev Reckoning.EligibleByTheRules (v : Reckoning) (i : ClaimIdx) : Prop :=
  (v.claim i).state = .pending ∧ (v.claim i).active.level ≠ 15 ∧
  ((v.claim i).active.kind = .drive →
    (v.claim i).active.target ≠ .none ∧ ¬ v.HeldBack (v.claim i) ∧ v.HolderGivesWay (v.claim i) ∧
    ((v.claim i).active.target = .heater ∨ (v.claim i).active.target = .grinder →
      v.halted = false ∧ v.secured = true ∧ ∀ k, (v.claim k).grantedOn .latch = false) ∧
    ((v.claim i).active.target = .grinder →
      ∀ k, (v.claim k).AsksForTheLatch → (v.claim i).active.level < (v.claim k).active.level) ∧
    ((v.claim i).active.target = .latch →
      v.atRest = true ∧ v.plateBelow = true ∧ ∀ k, (v.claim k).grantedOn .grinder = false)) ∧
  ((v.claim i).active.kind = .curb → (v.claim i).active.target ≠ .none → v.HolderGivesWay (v.claim i))

/-- The claim is entitled to a clearing yield of that GRINDER holder (R39). -/
abbrev Reckoning.ClearsByTheRules (v : Reckoning) (i h : ClaimIdx) : Prop :=
  (v.claim i).AsksForTheLatch ∧ (v.claim h).grantedOn .grinder = true ∧ (v.claim h).active.bulk = true ∧
    (v.claim i).active.level < (v.claim h).active.level ∧ (v.claim i).active.level.val < v.yieldLevel

/-- The claim may have a turn: it has had none, and it is eligible or entitled to a clearing yield (R40). -/
abbrev Reckoning.MayHaveATurn (v : Reckoning) (i : ClaimIdx) : Prop :=
  i ∉ v.turned ∧ (v.EligibleByTheRules i ∨ ∃ h, v.ClearsByTheRules i h)

/-- The claim comes before the other, by level and then by index (R40). -/
abbrev Reckoning.ComesFirst (v : Reckoning) (i j : ClaimIdx) : Prop :=
  (v.claim i).active.level < (v.claim j).active.level ∨
    ((v.claim i).active.level = (v.claim j).active.level ∧ i ≤ j)

/-- The active demands of these entries. -/
def Reckoning.demands (v : Reckoning) (l : List ClaimIdx) : Nat := (l.map fun h => (v.claim h).active.demand).sum

/-- The admission test with these holders' demands counted as freed: of R42 for a DRIVE claim, of R43 for a curb. -/
abbrev Reckoning.Passes (v : Reckoning) (i : ClaimIdx) (out : List ClaimIdx) : Prop :=
  ((v.claim i).active.kind = .drive →
    (Table.grantedSum v.claims : Int) - v.demands out + (v.claim i).active.demand ≤
      ((v.budget - Table.reductions v.claims : Nat) : Int)) ∧
  ((v.claim i).active.kind = .curb →
    (Table.grantedSum v.claims : Int) - v.demands out ≤
      (v.budget : Int) - Table.reductions v.claims - (v.claim i).active.reduction)

/-- The holder of the claim's target, which is counted as freed before any other (R42, R43). -/
abbrev Reckoning.HolderOfItsTarget (v : Reckoning) (i : ClaimIdx) (gone : List ClaimIdx) : Prop :=
  gone.length ≤ 1 ∧
    ∀ h, h ∈ gone ↔ (v.claim i).active.target ≠ .none ∧ (v.claim h).holds (v.claim i).active.target = true

/-- The yield list: every BULK holder less urgent than the claim but for the one already counted, least urgent first and
among equal levels the highest index first; none for a claim at or beyond the yield level (R41). -/
abbrev Reckoning.IsYieldList (v : Reckoning) (i : ClaimIdx) (gone list : List ClaimIdx) : Prop :=
  ((v.claim i).active.level.val < v.yieldLevel →
    list.Pairwise (fun a b => (v.claim b).active.level < (v.claim a).active.level ∨
      ((v.claim b).active.level = (v.claim a).active.level ∧ b < a)) ∧
    ∀ h, h ∈ list ↔ (v.claim h).isHolder = true ∧ (v.claim h).active.bulk = true ∧
      (v.claim i).active.level < (v.claim h).active.level ∧ h ∉ gone) ∧
  (v.yieldLevel ≤ (v.claim i).active.level.val → list = [])

/-- What a yield leaves of a claim in the reckoning (R14). -/
def Claim.yieldLeaves (c : Claim) : Claim :=
  if c.active.singleTry then if c.active.oneShot then .free c.arming else { c with state := .ended, outcome := .preempted }
  else { c with state := .pending, yielded := true }

/-- A turn has issued these yields, and after them the grant of i if that is asked for, and they count in the reckoning;
nothing else of it has changed (R30, R39, R44). -/
abbrev Reckoning.TurnIssues (v w : Reckoning) (i : ClaimIdx) (out : List ClaimIdx) (granted : Bool) : Prop :=
  w.issued = v.issued ++
    (out.map fun h => .yield h (decide ((v.claim i).active.kind = .drive ∧
      (v.claim h).active.target = (v.claim i).active.target))) ++
    (if granted then [.grant i (v.claim i).arming] else []) ∧
  w.claim i = (if granted then { v.claim i with state := .granted } else v.claim i) ∧
  (∀ h ∈ out, w.claim h = (v.claim h).yieldLeaves) ∧ (∀ j, j ≠ i → j ∉ out → w.claim j = v.claim j) ∧
  w = { v with claims := w.claims, turned := i :: v.turned, issued := w.issued }

/-- The second reckoning comes from the first by turns, each of the claim that may have the next one. -/
inductive Reckoning.TakesTurns : Reckoning → Reckoning → Prop
  | none (v : Reckoning) : TakesTurns v v
  | turn (v w : Reckoning) (i : ClaimIdx) : v.MayHaveATurn i → (∀ j, v.MayHaveATurn j → v.ComesFirst i j) →
      TakesTurns (v.turn i) w → TakesTurns v w

/-! ## The codes and layouts of the formats (R173, R174), in the words of the spec -/

/-- The codes of the claim states (R4). -/
def claimStateCodes : List (ClaimState × Byte) :=
  [(.free, 0), (.draft, 1), (.pending, 2), (.granted, 3), (.held, 4), (.ended, 5)]

/-- The codes of the claim outcomes (R4). -/
def claimOutcomeCodes : List (ClaimOutcome × Byte) :=
  [(.none, 0), (.done, 1), (.withdrawn, 2), (.lapsed, 3), (.preempted, 4), (.interrupted, 5), (.jammed, 6)]

/-- The codes of the kinds (R173). -/
def kindCodes : List (Kind × BitVec 4) := [(.drive, 0), (.curb, 1)]

/-- The codes of the targets (R2). -/
def targetCodes : List (Target × BitVec 4) := [(.heater, 0), (.grinder, 1), (.fan, 2), (.latch, 3), (.none, 7)]

/-- The status codes (R154). -/
def statusCodes : List (Status × Byte) :=
  [(.ok, 0x00), (.busy, 0x01), (.unknown, 0x02), (.disabled, 0x03), (.denied, 0x04), (.notOwner, 0x05), (.state, 0x06),
    (.range, 0x07), (.chain, 0x08), (.level, 0x09), (.full, 0x0A), (.conflict, 0x0B), (.empty, 0x0C), (.notFound, 0x0D),
    (.noReservation, 0x0E), (.lost, 0x0F), (.activeCause, 0x10)]

/-- The codes of the port classes (R173). -/
def classCodes : List (PortClass × Byte) := [(.control, 0), (.panel, 1), (.link, 2), (.none, 3)]

/-- The codes of the mix (R173). -/
def mixCodes : List (Mix × BitVec 2) := [(.empty, 0), (.wet, 1), (.dry, 2)]

/-- The codes of the batch states (R102). -/
def batchStateCodes : List (BatchState × Byte) := [(.fresh, 1), (.treating, 2), (.cured, 3)]

/-- The codes of the drive modes (R173). -/
def driveModeCodes : List (DriveMode × BitVec 2) := [(.idle, 0), (.driving, 1), (.offPhase, 2), (.jogging, 3)]

/-- The codes of the drive output and of a commanded direction (R173). -/
def directionCodes : List (Direction × BitVec 2) := [(.off, 0), (.forward, 1), (.reverse, 2)]

/-- The codes of the jog phases (R173). -/
def jogPhaseCodes : List (JogPhase × BitVec 3) :=
  [(.none, 0), (.firstStop, 1), (.reverse, 2), (.secondStop, 3), (.probe, 4)]

/-- The numbers of the trip causes, which are their codes (R55, R173). -/
def causeCodes : List (Cause × Byte) :=
  [(.overheat, 1), (.cutout, 2), (.thermalSensor, 3), (.lidForced, 4), (.latchFault, 5), (.jam, 6), (.rotorSensor, 7)]

/-- The numbers of the notice sources (R157). -/
def sourceNumbers : List (Source × Nat) :=
  [(.trip, 0), (.haltCleared, 1), (.granted, 2), (.ended, 3), (.interrupted, 4), (.chainBroken, 5), (.jog, 6),
    (.laboured, 7), (.batchOpened, 8), (.batchMerged, 9), (.batchCured, 10), (.mixDry, 11), (.finished, 12),
    (.retired, 13), (.reservationLost, 14), (.serviceCall, 15)]

/-- A byte carries an owner, FF absent (R173). -/
abbrev CarriesOwner (b : Byte) (owner : Option Port) : Prop :=
  (owner = none → b = 0xFF) ∧ ∀ p, owner = some p → b.toNat = p.val

/-- A byte carries a follow-on, FF absent (R173). -/
abbrev CarriesFollowOn (b : Byte) (followOn : Option ClaimIdx) : Prop :=
  (followOn = none → b = 0xFF) ∧ ∀ i, followOn = some i → b.toNat = i.val

/-- A half word carries a mass, FFFF absent (R173). -/
abbrev CarriesMass (h : Half) (mass : Option Nat) : Prop :=
  (mass = none → h = 0xFFFF) ∧ ∀ g, mass = some g → h = BitVec.ofNat 16 g

/-- Bytes carry the fields of a claim in layout C, its byte 2 the first of them (R173). -/
abbrev Params.IsCarried (q : Params) (b : List Byte) : Prop :=
  b.length = 14 ∧ (q.kind, (byteAt b 0).extractLsb' 4 4) ∈ kindCodes ∧
    (q.target, (byteAt b 0).extractLsb' 0 4) ∈ targetCodes ∧ byteAt b 1 = q.settingA ∧ halfAt b 2 = q.settingB ∧
    halfAt b 4 = BitVec.ofNat 16 q.demand ∧ halfAt b 6 = BitVec.ofNat 16 q.reduction ∧
    (byteAt b 8).toNat / 16 = q.level.val ∧ (byteAt b 8).getLsbD 3 = false ∧ (byteAt b 8).getLsbD 2 = q.singleTry ∧
    (byteAt b 8).getLsbD 1 = q.oneShot ∧ (byteAt b 8).getLsbD 0 = q.bulk ∧ halfAt b 9 = BitVec.ofNat 16 q.duration ∧
    halfAt b 11 = BitVec.ofNat 16 q.deadline ∧ CarriesFollowOn (byteAt b 13) q.followOn

/-- Word j of bytes that are taken four to a word in order; zero bytes follow the last (R174). -/
def fourBytes (b : List Byte) (j : Nat) : Word := wordAt b (4 * j)

/-- What MPn_DOUT shifts out in n clocks: the bits of the reply's bytes, the most significant of each first, and zero
after its sixteenth byte (R147). -/
def Reply.shifted (x : Reply) (n : Nat) : List Bool :=
  (List.range n).map fun k => (byteAt x.bytes (k / 8)).getLsbD (7 - k % 8)

/-! ## Words of the statements -/

/-- The state with one port's state replaced. -/
def State.withPort (s : State) (p : Port) (q : PortState) : State := { s with ports := s.ports.set p q }

/-- The state after the port's request of that code is complete with that reply, and nothing else has changed (R149,
R173). -/
def State.replied (s : State) (p : Port) (st : Status) (code : Byte) (data : List Byte) : State :=
  s.withPort p
    { s.port p with
      reply := { status := st, echo := code, data := (data ++ zeroData).take 14 }, consumed := false, flight := none
      attn := (s.port p).attnWanted }

/-- The port has a request of that code in flight, with these bytes (R148). -/
abbrev State.Asks (s : State) (p : Port) (code : Byte) (req : List Byte) : Prop :=
  (s.port p).flight = some req ∧ byteAt req 0 = code

/-- The notice is pending at the port (R157). -/
abbrev State.Posted (t : State) (n : Source) (p : Port) : Prop := (t.port p).isPending n.number = true

/-- The notice is pending at the owner, if there is one. -/
abbrev State.PostedToOwner (t : State) (n : Source) (owner : Option Port) : Prop := ∀ p, owner = some p → t.Posted n p

/-- The two states have the same ports, but for the pending sets, which only grow, and the attention lines. -/
abbrev State.PortsButNotices (s t : State) : Prop :=
  ∀ q, { t.port q with notices := 0, attn := false } = { s.port q with notices := 0, attn := false } ∧
    (s.port q).notices &&& (t.port q).notices = (s.port q).notices

/-- The pending sets are the earlier ones with the notices that the test names, each at its port, and no others (R157). -/
abbrev State.PostsExactly (s t : State) (named : Source → Port → Prop) : Prop :=
  ∀ n q, t.Posted n q ↔ s.Posted n q ∨ named n q

/-- The notices of an event's resumptions: GRANTED to the owner of each entry that was HELD and is GRANTED (R16, R17). -/
abbrev State.ResumeNotice (s t : State) (n : Source) (q : Port) : Prop :=
  n = .granted ∧ ∃ j, (s.claim j).state = .held ∧ (t.claim j).state = .granted ∧ (s.claim j).owner = some q

/-- The notices of a hold, but for the entries that the test names: ENDED to the owner of a SINGLE_TRY claim, INTERRUPTED
to that of another (R15). -/
abbrev State.HoldNotice (s : State) (named : ClaimIdx → Bool) (n : Source) (q : Port) : Prop :=
  ∃ j, named j = false ∧ (s.claim j).isHoldable = true ∧ (s.claim j).owner = some q ∧
    n = if (s.claim j).active.singleTry then .ended else .interrupted

/-- The notices of cure and of the finished flag: BATCH_CURED when a record enters CURED, FINISHED when the flag becomes
true (R124, R128). -/
abbrev State.CureNotice (s t : State) (n : Source) : Prop :=
  (n = .batchCured ∧ ∃ (k : Nat) (r r' : BatchRecord), s.batch.records[k]? = some r ∧ t.batch.records[k]? = some r' ∧
    r.state ≠ .cured ∧ r'.state = .cured) ∨
  (n = .finished ∧ t.batch.finished = true ∧ s.batch.finished = false)

/-- RESERVATION_LOST to each port whose INTACT reservation has become BROKEN (R136). -/
abbrev State.LostNotice (s t : State) (n : Source) (q : Port) : Prop :=
  n = .reservationLost ∧ ∃ seq, s.batch.reservations.get q = .intact seq ∧ t.batch.reservations.get q = .broken seq

/-- An entry resumed, or granted, at that clock (R16, R17). -/
def Claim.grantedAt (c : Claim) (clock : Word) : Claim :=
  { c with state := .granted, grantStamp := some clock, yielded := false }

/-- Every entry but those that the test names stands, but for a HELD claim that is resumed in the same event (R16, R53). -/
abbrev State.OthersStand (s t : State) (named : ClaimIdx → Bool) : Prop :=
  ∀ j, named j = false →
    t.claim j = s.claim j ∨ ((s.claim j).state = .held ∧ t.claim j = (s.claim j).grantedAt s.sensors.clock)

/-- What no event at the claim table reaches: sensors, batch unit, tuning table, time, the queue, and the link but for its
last-touched latch. -/
abbrev State.BeyondTheTable (s t : State) : Prop :=
  t.sensors = s.sensors ∧ t.batch = s.batch ∧ t.tuning = s.tuning ∧ t.time = s.time ∧ t.pending = s.pending ∧
    t.link = { s.link with touched := t.link.touched }

/-- What a claim leaves behind at its end: FREE if ONE_SHOT, else ENDED with the outcome (R19). -/
def Claim.afterEnd (c : Claim) (why : ClaimOutcome) : Claim :=
  if c.active.oneShot then .free c.arming else { c with state := .ended, outcome := why }

/-- A hold request is taken, with the chamber not fit to resume: every GRANTED HEATER or GRINDER claim becomes HELD with
INTERRUPTED to its owner, and a pass due if it is the GRINDER's, or ends INTERRUPTED with ENDED and a pass due if it is
SINGLE_TRY, but for the entries that the test names; every other entry stands (R15, R29). -/
abbrev State.HoldTaken (s t : State) (named : ClaimIdx → Bool) : Prop :=
  ∀ i, named i = false →
    ((s.claim i).isHoldable = true → (s.claim i).active.singleTry = false →
      t.claim i = { s.claim i with state := .held } ∧ t.PostedToOwner .interrupted (s.claim i).owner ∧
        ((s.claim i).active.target = .grinder → t.passDue = true)) ∧
    ((s.claim i).isHoldable = true → (s.claim i).active.singleTry = true →
      t.claim i = (s.claim i).afterEnd .interrupted ∧ t.PostedToOwner .ended (s.claim i).owner ∧ t.passDue = true) ∧
    ((s.claim i).isHoldable = false → t.claim i = s.claim i)

/-- A trip event of a cause: it joins the set, the halt latch is set, it is first cause if the latch was clear, the heater
and the grinder are off, and TRIP goes to every port (R63, R64). -/
abbrev State.Tripped (s t : State) (c : Cause) : Prop :=
  t.interlock.causes = s.interlock.causes.insert c ∧ t.interlock.haltLatch = true ∧
    t.interlock.firstCause = (if s.interlock.haltLatch then s.interlock.firstCause else some c) ∧
    t.drives.heaterOn = false ∧ t.rotor.mode = .idle ∧ ∀ p, t.Posted .trip p

/-- The unit's set, first cause and halt latch stand. -/
abbrev State.HaltStands (s t : State) : Prop :=
  t.interlock.causes = s.interlock.causes ∧ t.interlock.firstCause = s.interlock.firstCause ∧
    t.interlock.haltLatch = s.interlock.haltLatch

/-- A thermistor reading is valid (R70). -/
abbrev ReadingValid (t : Int) : Prop := -20 ≤ t ∧ t ≤ 250

/-- The feedback disagrees with the command (R61). -/
abbrev Interlock.Disagreeing (u : Interlock) : Prop := u.latchCommand = .engage ↔ u.feedbackEngaged = false

/-- The latch command follows the claim table (R53). -/
abbrev State.LatchFollows (s : State) : Prop := s.interlock.latchCommand = .release ↔ s.driven .latch = true

/-- A start grace has run out, or the stall deadline, the last accepted time plus twice the period, has passed (R90,
R91). -/
abbrev State.StallIsDue (s : State) (c : Instr) : Prop :=
  (c = .startGraceRunsOut ∧ ∃ since, s.rotor.grace = some since ∧ since + 1500000 ≤ s.time) ∨
    (c = .stallDeadlinePassed ∧ ∃ period last, s.rotor.period = some period ∧ s.rotor.lastAccepted = some last ∧
      last + 2 * period ≤ s.time)

/-- The event fails the probe under way: its grace runs out, its stall deadline passes, or its window ends (R94). -/
abbrev State.FailsTheProbe (s : State) (c : Instr) : Prop :=
  s.rotor.mode = .jogging ∧ s.rotor.jogPhase = .probe ∧
    (s.StallIsDue c ∨ (c = .probeWindowEnd ∧ s.rotor.phaseStart + 2000000 ≤ s.time))

/-- The grinder is not passing from one holder to the next (R44). -/
abbrev State.GrinderStays (s : State) : Prop := ∀ h, s.arbiter.handover = some h → h.target ≠ .grinder

/-- The event is a STALL in DRIVING, of a claim that drives the grinder (R91). -/
abbrev State.StallsTheDrive (s : State) (c : Instr) : Prop :=
  s.rotor.mode = .driving ∧ s.GrinderStays ∧ s.StallIsDue c

/-- The first entry that holds the grinder. -/
abbrev State.HoldsTheGrinder (s : State) (i : ClaimIdx) : Prop :=
  (s.claim i).holds .grinder = true ∧ ∀ j, j < i → (s.claim j).holds .grinder = false

/-- A flag after a two-bit code of ALTER: 01 clears, 10 sets, 11 keeps (R12). -/
def alteredFlag (code : BitVec 2) (b : Bool) : Bool := if code = 1 then false else if code = 2 then true else b

/-- A copy of the parameter fields after the codes that byte 2 of ALTER carries (R12, R173). -/
def Params.alteredBy (codes : Byte) (q : Params) : Params :=
  { q with
    bulk := alteredFlag (codes.extractLsb' 0 2) q.bulk
    oneShot := alteredFlag (codes.extractLsb' 2 2) q.oneShot
    singleTry := alteredFlag (codes.extractLsb' 4 2) q.singleTry }

/-- The state that R103 gives a record with these counts, under the overrides of the record or the tuning values (R122). -/
def State.cureState (s : State) (r : BatchRecord) (dose grind : Nat) : BatchState :=
  if (r.doseOverride.map (·.toNat)).getD (s.tuning.get 3) ≤ dose ∧
      (r.grindOverride.map (·.toNat)).getD (s.tuning.get 4) ≤ grind then .cured
  else if dose = 0 ∧ grind = 0 then .fresh
  else .treating

/-- A record with these counts, its state and its cured-at as R103, R124 and R125 give them. -/
def State.credited (s : State) (r : BatchRecord) (dose grind : Nat) : BatchRecord :=
  { r with
    dose := dose, grind := grind, state := s.cureState r dose grind
    curedAt :=
      if s.cureState r dose grind = r.state then r.curedAt
      else if s.cureState r dose grind = .cured then some s.sensors.clock else none }

/-- The finished flag of a batch unit is the one that R128 gives. -/
abbrev BatchUnit.FinishedFits (u : BatchUnit) : Prop :=
  u.finished = true ↔ u.records ≠ [] ∧ (∀ r ∈ u.records, r.state = .cured) ∧ u.mix = .dry

/-- Nothing but the batch unit, the ports' notices and the last-touched latch differs. -/
abbrev State.BatchEvent (s t : State) : Prop :=
  t = { s with batch := t.batch, ports := t.ports, link := { s.link with touched := t.link.touched } }

/-- The bits end the frame under way as this frame, and none of them completes a RESYNC: the ones run after them (R160,
R167). -/
abbrev State.TakesFrame (s : State) (bits : List Bool) (frame : Word) (run : Nat) : Prop :=
  s.link.sampled ++ bits = frameBits frame ∧ onesAfter s.link.onesRun bits = some run

/-- The state after a frame that changes nothing but the answer, the acknowledge width and the ones run (R160, R161). -/
def State.framed (s : State) (run : Nat) (answer : Word) (sack : Nat) : State :=
  { s with link := { s.link with sampled := [], onesRun := run, answer := answer, sack := sack } }

/-- The stamp of the pulse taken at this moment: the counter at its rising edge, 200 microseconds before (R83). -/
def State.pulseStamp (s : State) : Word := BitVec.ofNat 32 (s.time - 200)

/-- The interval of that pulse from a last accepted time, modulo 2 to the power 32 (R83). -/
def State.pulseInterval (s : State) (last : Nat) : Nat := (s.pulseStamp - BitVec.ofNat 32 last).toNat

/-- The pulse of this moment is EARLY: a period is present, and the interval is less than half of it (R84). -/
abbrev State.PulseIsEarly (s : State) : Prop :=
  ∃ period last, s.rotor.period = some period ∧ s.rotor.lastAccepted = some last ∧ 2 * s.pulseInterval last < period

/-- The pulse of this moment is ACCEPTED (R84). -/
abbrev State.PulseIsAccepted (s : State) : Prop :=
  ∀ period, s.rotor.period = some period →
    ∃ last, s.rotor.lastAccepted = some last ∧ period ≤ 2 * s.pulseInterval last

/-- The capture ring with one more record, the oldest of eight discarded (R83). -/
def State.ringWith (s : State) (early : Bool) : List PulseRecord :=
  let x : PulseRecord := { stamp := s.pulseStamp, direction := s.rotor.output, early := early }
  (s.rotor.ring ++ [x]).drop (s.rotor.ring.length + 1 - 8)

/-- An ACCEPTED pulse of this moment counts toward a revolution: the output FORWARD, in DRIVING or in PROBE (R86). -/
abbrev Rotor.Counts (r : Rotor) : Prop :=
  r.output = .forward ∧ (r.mode = .driving ∨ (r.mode = .jogging ∧ r.jogPhase = .probe))

/-- The rotor monitor as a jog starts, with that many attempts made (R93). -/
def Rotor.jogBegun (r : Rotor) (now attempts : Nat) : Rotor :=
  { r with
    output := .off, restTimer := if r.output = .off then r.restTimer else some now, mode := .jogging
    jogPhase := .firstStop, phaseStart := now, probeCount := 0, grace := none, cleanRun := none, attempts := attempts }

/-- The rotor monitor as the drive is applied in the claim's direction from OFF: a start grace begins (R87, R90). -/
def Rotor.applied (r : Rotor) (now : Nat) : Rotor :=
  { r with
    output := r.setting.direction, restTimer := none, atRest := false, period := none, earlyCount := 0
    grace := some now }

/-- The rotor monitor as a GRINDER claim enters GRANTED: its setting from layout C, the drive applied with its grace, the
on time of a PULSED claim, the laboured judgement afresh, and the attempts kept for the same arming alone (R17, R88, R89,
R90, R92, R96, R173). -/
def Rotor.grantedBy (r : Rotor) (now : Nat) (i : ClaimIdx) (c : Claim) : Rotor :=
  { r with
    setting :=
      { direction := if c.active.settingB.getLsbD 15 then .reverse else .forward
        pulsed := c.active.settingB.getLsbD 14, onTime := c.active.settingA.toNat
        offTime := (c.active.settingB.extractLsb' 0 10).toNat }
    output := if c.active.settingB.getLsbD 15 then .reverse else .forward
    mode := .driving, jogPhase := .none, probeCount := 0, grace := some now, period := none, earlyCount := 0
    restTimer := if r.output = .off then none else r.restTimer
    atRest := if r.output = .off then false else r.atRest
    cleanRun := some now, pattern := if c.active.settingB.getLsbD 14 then .on now else .idle, offPhaseDue := false
    laboured := false, aboveCount := 0, belowCount := 0
    attempts := if r.attemptClaim = some (i, c.arming) then r.attempts else 0
    attemptClaim := some (i, c.arming) }

/-- The heater output after it was judged for claim i on the stored plate conversion: off on a faulted one, and else by the
band below the claim's setpoint (R79, R80). -/
abbrev State.HeaterJudged (s t : State) (i : ClaimIdx) : Prop :=
  (s.sensors.plate.faulted = true → t.drives.heaterOn = false) ∧
  (s.sensors.plate.faulted = false →
    (s.sensors.plate.value < ((s.claim i).active.settingA.toNat : Int) - 3 → t.drives.heaterOn = true) ∧
    (((s.claim i).active.settingA.toNat : Int) ≤ s.sensors.plate.value → t.drives.heaterOn = false) ∧
    (((s.claim i).active.settingA.toNat : Int) - 3 ≤ s.sensors.plate.value →
      s.sensors.plate.value < ((s.claim i).active.settingA.toNat : Int) → t.drives.heaterOn = s.drives.heaterOn))

/-- The claim is resumed: it returns to GRANTED with the clock as its stamp and GRANTED to its owner (R16, R17). The output
of an actuator that has no other holder follows: the heater is judged at once (R80), the grinder drive starts (R89). -/
abbrev State.Resumed (s t : State) (i : ClaimIdx) : Prop :=
  t.claim i = (s.claim i).grantedAt s.sensors.clock ∧ t.PostedToOwner .granted (s.claim i).owner ∧
  ((s.claim i).active.kind = .drive →
    ((s.claim i).active.target = .heater → (∀ j, j ≠ i → (s.claim j).holds .heater = false) → s.HeaterJudged t i) ∧
    ((s.claim i).active.target = .grinder → (∀ j, j ≠ i → (s.claim j).holds .grinder = false) →
      t.rotor = s.rotor.grantedBy s.time i (s.claim i)))

/-- The unit after the latch command has changed to k: the disagreement is judged afresh (R53, R61). -/
def Interlock.commanded (u : Interlock) (k : LatchCommand) (now : Nat) : Interlock :=
  { u with
    latchCommand := k
    disagreement :=
      if u.lidClosed = true ∧ (k = .engage ↔ u.feedbackEngaged = false) then some (u.disagreement.getD now) else none
    active := if k = .engage ↔ u.feedbackEngaged = false then u.active else u.active.erase .latchFault }

/-- What becomes of the latch as the entries that the test names leave GRANTED, with no handover under way: the unit stands
while another LATCH claim is GRANTED, or if none was; else the command returns to ENGAGE, and in a chamber that is secured
with the halt latch clear every HELD claim is resumed (R53, R61). -/
abbrev State.LatchFollowsLeaving (s t : State) (leaves : ClaimIdx → Bool) : Prop :=
  s.arbiter.handover = none → s.LatchFollows →
    ((∃ j, leaves j = false ∧ (s.claim j).grantedOn .latch = true) ∨ (∀ j, (s.claim j).grantedOn .latch = false) →
      t.interlock = s.interlock) ∧
    ((∃ j, (s.claim j).grantedOn .latch = true) →
      (∀ j, leaves j = false → (s.claim j).grantedOn .latch = false) →
      t.interlock = s.interlock.commanded .engage s.time ∧
      (s.chamberOk = true → ∀ j, leaves j = false → (s.claim j).state = .held → s.Resumed t j))

/-- The rotor monitor as the off phase begins, with the output on before it (R87, R92). -/
def Rotor.offPhaseBegun (r : Rotor) (now : Nat) : Rotor :=
  { r with
    output := .off, restTimer := some now, mode := .offPhase, jogPhase := .none, grace := none, cleanRun := none
    pattern := .off now, offPhaseDue := false }

/-- What a batch event does to the notices of cure and of the finished flag (R124, R128). -/
abbrev State.CureNotices (s t : State) : Prop :=
  ((∃ (k : Nat) (r r' : BatchRecord), s.batch.records[k]? = some r ∧ t.batch.records[k]? = some r' ∧
      r.state ≠ .cured ∧ r'.state = .cured) → ∀ q, t.Posted .batchCured q) ∧
  (t.batch.finished = true → s.batch.finished = false → ∀ q, t.Posted .finished q)

/-- Every INTACT reservation that the test names becomes BROKEN on its seq, with RESERVATION_LOST to its port, and every
other stands; but for the port left out (R136). -/
abbrev State.Breaks (s t : State) (hit : Port → Word → Bool) (out : Port → Bool) : Prop :=
  ∀ q, out q = false →
    (∀ n, s.batch.reservations.get q = .intact n → hit q n = true →
      t.batch.reservations.get q = .broken n ∧ t.Posted .reservationLost q) ∧
    ((∀ n, s.batch.reservations.get q = .intact n → hit q n = false) →
      t.batch.reservations.get q = s.batch.reservations.get q)

/-- The closure is unmeasured: the mass after or the mass before carries LOAD_FAULT (R112). -/
abbrev State.ClosureUnmeasured (s : State) : Prop :=
  s.sensors.loadFault = true ∨ ∃ b, s.batch.massBefore = some b ∧ b.fault = true

/-- The delta of a closure judged now: the mass after less the mass before, or the mass after alone when the mass before
is absent (R108, R113). -/
def State.closureDelta (s : State) : Int :=
  match s.batch.massBefore with
  | some b => (s.sensors.mass : Int) - b.grams
  | none => s.sensors.mass

/-- A record as an opening appends it, before cure is evaluated (R110, R112). -/
def State.opened (s : State) (mass : Option Nat) : BatchRecord :=
  { seq := if s.batch.nextSeq = 0 then 1 else s.batch.nextSeq, state := .fresh, mass := mass, dose := 0, grind := 0
    openedAt := s.sensors.clock, curedAt := none, merged := false, tag := 0, doseOverride := none
    grindOverride := none }

/-- A settle ends in a secured chamber: the closure is judged (R107, R108). -/
abbrev State.ClosureIsJudged (s : State) : Prop :=
  (∃ since, s.batch.settle = .running since ∧ since + 2000000 ≤ s.time) ∧ s.interlock.secured = true

/-- The summary of a record retired now (R139). -/
def State.retiredAs (s : State) (r : BatchRecord) (overrun : Bool) : Summary :=
  { seq := r.seq, finished := decide (r.state = .cured) && decide (s.batch.mix = .dry), mass := r.mass, dose := r.dose
    grind := r.grind, openedAt := r.openedAt, curedAt := r.curedAt, retiredAt := s.sensors.clock, tag := r.tag
    overrun := overrun }

/-- The retired queue and after it the summaries of every record, oldest first, before the oldest are discarded (R140). -/
def State.queueAndSummaries (s : State) : List Summary :=
  s.batch.retired ++
    s.batch.records.mapIdx fun j r => s.retiredAs r (decide (6 ≤ s.batch.retired.length + j))

/-- The first record of the table that carries the seq stands at the position. -/
abbrev BatchUnit.Carries (u : BatchUnit) (k : Nat) (r : BatchRecord) (seq : Word) : Prop :=
  u.records[k]? = some r ∧ r.seq = seq ∧ ∀ j x, j < k → u.records[j]? = some x → x.seq ≠ seq

/-- An override after a two-bit write code: 00 keeps, 01 sets, 10 sets absent (R134, R173). -/
def writtenOverride (code : BitVec 2) (v : Half) (old : Option Half) : Option Half :=
  if code = 0 then old else if code = 1 then some v else none

/-- The record with the annotation that BATCH_COMMIT carries (R135, R173). -/
def BatchRecord.committed (r : BatchRecord) (req : List Byte) : BatchRecord :=
  { r with
    tag := if (byteAt req 6).extractLsb' 0 2 = 0 then r.tag else halfAt req 7
    doseOverride := writtenOverride ((byteAt req 6).extractLsb' 2 2) (halfAt req 9) r.doseOverride
    grindOverride := writtenOverride ((byteAt req 6).extractLsb' 4 2) (halfAt req 11) r.grindOverride }

/-- The write codes of BATCH_COMMIT are in range (R134, R173). -/
abbrev CommitCodesFit (req : List Byte) : Prop :=
  ((byteAt req 6).extractLsb' 0 2 = 0 ∨ (byteAt req 6).extractLsb' 0 2 = 1) ∧
    (byteAt req 6).extractLsb' 2 2 ≠ 3 ∧ (byteAt req 6).extractLsb' 4 2 ≠ 3

/-- The write of an annotation at a position is done: the record with its new fields is judged for cure, every other
stands, and the last-touched latch names it (R127, R131). -/
abbrev State.Annotated (s t : State) (k : Nat) (r : BatchRecord) : Prop :=
  t.batch.records[k]? = some (s.credited r r.dose r.grind) ∧
  (∀ j, j ≠ k → t.batch.records[j]? = s.batch.records[j]?) ∧
  t.batch = { s.batch with
    records := t.batch.records, reservations := t.batch.reservations, finished := t.batch.finished } ∧
  t.batch.FinishedFits ∧ t.link.touched = some (.batch k r.seq)

/-- The link's snapshot after an accepted write to a record: absent if it was of that record (R163, R165). -/
def Link.snapshotAfter (l : Link) (table entry : Nat) : Option Snapshot :=
  match l.snapshot with
  | some x => if x.table = table ∧ x.entry = entry then none else some x
  | none => none

/-- The link after a POKE's data frame (R161, R164). -/
def Link.afterData (l : Link) (run : Nat) (accepted : Bool) (answer : Word) : Link :=
  { l with sampled := [], onesRun := run, phase := .verify accepted, answer := answer, sack := 3 }

/-- The field of the word that a POKE writes in a batch record, with its value in the word's encoding; nothing for a value
that breaks the encoding or a word that is not writable (R165, R174). -/
def BatchRecord.poked (r : BatchRecord) (w : Nat) (value : Word) : Option BatchRecord :=
  match w, decide (value.extractLsb' 16 16 = 0), decide (value = 0x80000000) with
  | 2, true, _ => some { r with tag := value.extractLsb' 0 16 }
  | 3, true, _ => some { r with doseOverride := some (value.extractLsb' 0 16) }
  | 3, false, true => some { r with doseOverride := none }
  | 4, true, _ => some { r with grindOverride := some (value.extractLsb' 0 16) }
  | 4, false, true => some { r with grindOverride := none }
  | _, _, _ => none

end Sys2Proof.Machine
end

