-- ==== Sys2Proof/Certificates/Slice0/Obligations.lean ====
section
/-! DEFINITION. The statements for the provers: what a step is, the laws that every step keeps, what each command does,
and what it leaves alone. A statement that rests on a log entry of the model names it. -/

section

open Sys2Proof Sys2Proof.Machine

/-! ## The step and the queue -/

/-- A step takes the command at the front of the queue and runs it with the queue's rest; on an empty queue one
microsecond passes (the model's choice, log 1). -/
def Obligations.StepRunsTheFrontCommand : Prop :=
  (∀ (c : Instr) (rest : List Instr) (s : State),
    step { s with pending := c :: rest } = exec c { s with pending := rest }) ∧
  ∀ s : State, s.pending = [] → step s = .next { s with time := s.time + 1 }

/-- Every command answers a next state in every state, with the queue as it was, and no command but RESET_RELEASE moves
the time (the spec names no event that stops the part, log 23; the time and the queue are the model's, log 1, log 29). -/
def Obligations.EveryCommandAnswersAndKeepsTheQueue : Prop :=
  ∀ (c : Instr) (s : State),
    ∃ t, exec c s = .next t ∧ t.pending = s.pending ∧ (t.time = s.time ∨ ∃ first, c = .resetRelease first)

/-! ## Reset -/

/-- The state right after reset keeps every law, the power law among them (R1, R26, R27, R69, R100, R145, R169; the
sampled inputs are the model's, log 5, and so are the fields in which one block hands events to another, log 6). -/
def Obligations.ResetStateIsLawful : Prop := State.reset.Lawful ∧ State.reset.PowerLawful

/-- RESET_RELEASE, from any state and with any samples, leaves a state that keeps every law, the power law among them
(R26, R27, R69; the fields in which one block hands events to another are the model's, log 6). -/
def Obligations.ResetReleaseIsLawful : Prop :=
  ∀ (first : FirstSamples) (s : State), ∃ t, exec (.resetRelease first) s = .next t ∧ t.Lawful ∧ t.PowerLawful

/-- At reset release each port takes its class, the access record of the class, flight IDLE, the empty reply, an empty
pending set, level 0 for TRIP and 15 for the others, ATTN not asserted (R145, R146, R152). First samples that raise a trip
cause post one notice right after, TRIP, which asserts ATTN at an enabled port (R69, R157; that the trip comes after the
reset values is the model's, log 31). That no transaction is under way is the reset value of a field of the model's own
(log 6). -/
def Obligations.ResetReleaseSetsThePorts : Prop :=
  ∀ (first : FirstSamples) (s : State),
    ∃ t, exec (.resetRelease first) s = .next t ∧
      ∀ (p : Port) (x : Straps), x = first.straps.get p →
        ∀ (cls : PortClass),
          (cls = .control ↔ x.cls1 = false ∧ x.cls0 = false) → (cls = .panel ↔ x.cls1 = false ∧ x.cls0 = true) →
          (cls = .link ↔ x.cls1 = true ∧ x.cls0 = false) → (cls = .none ↔ x.cls1 = true ∧ x.cls0 = true) →
          (t.port p).cls = cls ∧
          (t.port p).access =
            { heater := decide (cls = .control), grinder := decide (cls = .control), fan := decide (cls ≠ .none)
              latch := decide (cls = .control ∨ cls = .panel), curb := decide (cls ≠ .none)
              annotate := decide (cls ≠ .none), tuning := decide (cls = .control)
              haltClear := decide (cls = .control ∨ cls = .panel), access := decide (cls = .control)
              floor := if cls = .control then 0 else if cls = .panel then 2 else if cls = .link then 6 else 14 } ∧
          (t.port p).flight = none ∧ (t.port p).transaction = none ∧ (t.port p).consumed = false ∧
          (t.port p).reply = { status := .ok, echo := 0, data := List.replicate 14 0 } ∧
          (t.port p).levels.get 0 = 0 ∧ (∀ n : Fin 16, n ≠ 0 → (t.port p).levels.get n = 15) ∧
          (t.interlock.haltLatch = false → (t.port p).notices = 0 ∧ (t.port p).attn = false) ∧
          (t.interlock.haltLatch = true → (t.port p).notices = 1 ∧ (t.port p).attn = decide (cls ≠ .none))

/-- RESET_RELEASE sets the other blocks to the values of their head tables: every entry FREE; the sampled inputs; the
first conversions; clock and divider 0; the drives off; the rotor monitor IDLE; the batch table empty with next sequence
number 1, and the mass-after settle RUNNING if the chamber is secured; the tuning defaults; the link aligned (R1, R48, R69,
R75, R76, R77, R100, R116, R168, R169). The causes are those that the first samples raise, CUTOUT, THERMAL_SENSOR or
OVERHEAT, each active, with the first of them as first cause and the halt latch set exactly if there is one (R57, R58, R59,
R63, R64). The disagreement timer starts with the lid closed and the feedback RELEASED (R61). The fan duty is 0 %, but for
the forced vent of a halt with the plate not below the open limit (R81, R82; for a halt of the cutout alone the model's,
log 33). The fields in which one block hands events to another are the model's, and start empty (log 6). -/
def Obligations.ResetReleaseSetsTheBlocks : Prop :=
  ∀ (first : FirstSamples) (s : State), ∃ t, exec (.resetRelease first) s = .next t ∧
    (∀ i, t.claim i = Claim.free 0) ∧
    t.arbiter = { requests := [], reports := 0, reportedDuring := false, handover := none, budgetWrites := [] } ∧
    t.interlock.lidClosed = first.lidClosed ∧ t.interlock.binIn = first.binIn ∧
    t.interlock.feedbackEngaged = first.feedbackEngaged ∧ t.interlock.cutoutClosed = first.cutoutClosed ∧
    t.interlock.latchCommand = .engage ∧
    t.interlock.secured = (first.lidClosed && first.feedbackEngaged && first.binIn) ∧
    t.interlock.disagreement = (if first.lidClosed = true ∧ first.feedbackEngaged = false then some 0 else none) ∧
    (t.interlock.causes.has .cutout = true ↔ first.cutoutClosed = false) ∧
    (t.interlock.causes.has .thermalSensor = true ↔ ¬ (ReadingValid first.plate ∧ ReadingValid first.air)) ∧
    (t.interlock.causes.has .overheat = true ↔
      ReadingValid first.plate ∧ ReadingValid first.air ∧ (190 < first.plate ∨ 120 < first.air)) ∧
    (∀ c, c ≠ .cutout → c ≠ .thermalSensor → c ≠ .overheat → t.interlock.causes.has c = false) ∧
    t.interlock.active = t.interlock.causes ∧
    t.interlock.firstCause =
      (if first.cutoutClosed = false then some .cutout
      else if ¬ (ReadingValid first.plate ∧ ReadingValid first.air) then some .thermalSensor
      else if 190 < first.plate ∨ 120 < first.air then some .overheat else none) ∧
    t.interlock.haltLatch = t.interlock.firstCause.isSome ∧
    (-40 ≤ first.plate → first.plate ≤ 300 →
      t.sensors.plate = ⟨first.plate, !decide (ReadingValid first.plate)⟩) ∧
    (-40 ≤ first.air → first.air ≤ 300 → t.sensors.air = ⟨first.air, !decide (ReadingValid first.air)⟩) ∧
    t.sensors.plateBelowOpen = decide (ReadingValid first.plate ∧ first.plate < 70) ∧
    (∀ rh, first.humidity = .result rh → t.sensors.humidity = min rh 100 ∧ t.sensors.humidityFault = decide (100 < rh)) ∧
    (first.humidity = .failed → t.sensors.humidity = 0 ∧ t.sensors.humidityFault = true) ∧
    (∀ g, first.load = .grams g →
      t.sensors.mass = min g.toNat 20000 ∧ t.sensors.loadFault = decide (g < 0 ∨ 20000 < g)) ∧
    (first.load = .failed → t.sensors.mass = 0 ∧ t.sensors.loadFault = true) ∧
    t.sensors.clock = 0 ∧ t.sensors.divider = 0 ∧ t.sensors.samplesDue = 0 ∧ t.drives.heaterOn = false ∧
    t.drives.fanDuty = (if t.interlock.haltLatch = true ∧ t.sensors.plateBelowOpen = false then 100 else 0) ∧
    t.rotor.mode = .idle ∧ t.rotor.output = .off ∧ t.rotor.jogPhase = .none ∧ t.rotor.atRest = false ∧
    t.rotor.restTimer = some 0 ∧ t.rotor.ring = [] ∧ t.rotor.lastAccepted = none ∧ t.rotor.period = none ∧
    t.rotor.earlyCount = 0 ∧ t.rotor.quarterCount = 0 ∧ t.rotor.revolutions = 0 ∧ t.rotor.grace = none ∧
    t.rotor.probeCount = 0 ∧ t.rotor.attempts = 0 ∧ t.rotor.attemptClaim = none ∧ t.rotor.cleanRun = none ∧
    t.rotor.pattern = .idle ∧ t.rotor.offPhaseDue = false ∧ t.rotor.laboured = false ∧ t.rotor.aboveCount = 0 ∧
    t.rotor.belowCount = 0 ∧ t.rotor.handed = 0 ∧
    t.batch.records = [] ∧ t.batch.nextSeq = 1 ∧ t.batch.massBefore = none ∧ t.batch.tareSettle = none ∧
    t.batch.mix = .empty ∧ t.batch.retired = [] ∧ t.batch.dryRun = 0 ∧ t.batch.finished = false ∧
    (∀ p, t.batch.reservations.get p = .none) ∧
    t.batch.settle = (if t.interlock.secured then .running 0 else .idle) ∧
    t.batch.securedEvents = [] ∧ t.batch.binEvents = [] ∧
    (∀ k : Fin 13, t.tuning.get k = (Config.tuningRows.get k).default) ∧
    t.link = { sampled := [], onesRun := 0, answer := 0, snapshot := none, phase := .none, touched := none, sack := 0 } ∧
    t.time = 0

/-! ## The laws that every step keeps -/

/-- The claim table keeps its law: the free values while FREE, an owner otherwise, an outcome exactly while ENDED, HELD on
HEATER and GRINDER alone, an active follow-on above its own index (R1, R4, R5, R9, R15). -/
def Obligations.StepKeepsTheClaimLaw : Prop :=
  ∀ s t : State, s.ClaimsLawful → step s = .next t → t.ClaimsLawful

/-- The halt latch is set exactly while the trip cause set is not empty, in every step (R63), with its first cause (R64)
and with every active cause in the set (R56). Secured follows the switches, CUTOUT the cutout line, the disagreement timer
and LATCH_FAULT the feedback, LID_FORCED the secured condition, in every step (R49, R58, R60, R61). -/
def Obligations.StepKeepsTheHaltAndInputLaws : Prop :=
  ∀ s t : State, step s = .next t →
    (s.interlock.HaltLawful → t.interlock.HaltLawful) ∧ (s.interlock.InputLawful → t.interlock.InputLawful)

/-- While the chamber is not secured or the halt latch is set, no HEATER or GRINDER claim is GRANTED and their outputs are
off; in a secured chamber with the halt latch clear and the command ENGAGE no claim stays HELD; every output follows the
claim table, in every step (R50, R51, R53, R63, R67, R78, R81, R89). Between a displacement's yield and
its grant an output stands by the claim that has yielded (the model's, log 9). -/
def Obligations.StepKeepsTheChamberLaw : Prop :=
  ∀ s t : State, s.ClaimsLawful → s.ChamberLawful → s.rotor.DriveLawful → step s = .next t →
    t.ChamberLawful ∧ t.rotor.DriveLawful

/-- The rotor monitor's counts stay in their ranges, in every step (R83 to R88, R94, R96). -/
def Obligations.StepKeepsTheRotorCounts : Prop :=
  ∀ s t : State, s.rotor.DriveLawful → s.rotor.CountsLawful → step s = .next t → t.rotor.CountsLawful

/-- The batch unit keeps its laws, in every step: at most 8 records with rising sequence numbers (R101), CURED exactly when
both requirements are met (R123), at most 6 summaries (R140), the mix EMPTY exactly with the table (R120), the finished
flag as R128 gives it, an INTACT reservation only on a record of the table (R134). -/
def Obligations.StepKeepsTheBatchLaw : Prop :=
  ∀ s t : State, s.BatchLawful → step s = .next t → t.BatchLawful

/-- The ports keep their law, in every step: ATTN as R158 gives it, the reply consumed exactly while a request is in
flight (R148, R149). The tuning values and the sensor values stay in their ranges, the ones run of the link below 64 and
its bit count below 32, in every step (R169, R70, R73, R74, R76, R160, R167). -/
def Obligations.StepKeepsThePortLawAndTheRanges : Prop :=
  ∀ s t : State, step s = .next t →
    (s.PortsLawful → t.PortsLawful) ∧ (s.TuningLawful → t.TuningLawful) ∧ (s.sensors.Lawful → t.sensors.Lawful) ∧
    (s.link.Lawful → t.link.Lawful)

/-- One holder for each actuator and the power law, on the claim table with the requests of the pass that it has not yet
taken: they hold after each of these in its turn, and every step keeps that, whatever events come between (R26, R27, R31,
R172). The premise on the arming numbers rules out that one entry is armed as often during a pass as the number has values
(R4). -/
def Obligations.StepKeepsOneHolderAndThePowerLaw : Prop :=
  ∀ s t : State, s.ClaimsLawful → s.PowerLawful → s.NoArmingReturns → step s = .next t → t.PowerLawful

/-! ## The arbitration pass -/

/-- The reckoning of a pass keeps the power law: if the granted sum with the reductions in force is within the budget
before the pass, it is after it (R27, R42, R43). It keeps one holder for each actuator (R26, R34, R44). And the pass ends:
every claim has at most one turn, and after it no claim without a turn is eligible or entitled to a clearing yield
(R40). -/
def Obligations.PassKeepsItsLawsAndEnds : Prop :=
  ∀ s : State,
    (Table.grantedSum s.claims + Table.reductions s.claims ≤ s.budget →
      Table.grantedSum s.pass.claims + Table.reductions s.pass.claims ≤ s.budget) ∧
    (Table.OneHolder s.claims → Table.OneHolder s.pass.claims) ∧
    s.pass.turned.Nodup ∧ ∀ i, s.pass.candidate i = false

/-- A claim is a candidate of the pass exactly by the rules: eligible by R33 to R38, or entitled to a clearing yield by
R39; and the next candidate is the one that comes first by level and then by index, if there is one (R40). -/
def Obligations.CandidatesAreThoseOfTheRules : Prop :=
  ∀ v : Reckoning, Table.OneHolder v.claims →
    (∀ i, v.eligible i = true ↔ v.EligibleByTheRules i) ∧
    (∀ i h, v.clears i = some h ↔ v.ClearsByTheRules i h) ∧
    (∀ i, v.next = some i ↔ v.MayHaveATurn i ∧ ∀ j, v.MayHaveATurn j → v.ComesFirst i j) ∧
    (v.next = none ↔ ∀ i, ¬ v.MayHaveATurn i)

/-- The turn of a candidate. One entitled to a clearing yield has it issued, and no grant (R39). Any other is admitted when
it fits with the holder of its target counted as freed and as many holders of the yield list as it takes, and no more:
these yield, and the candidate is granted (R41, R42, R43, R44). When it does not fit with the whole list counted, nothing
is issued (R41, R42). A turn is the claim's only one, whatever comes of it (R40). -/
def Obligations.TurnsAdmitWhatFits : Prop :=
  ∀ (v : Reckoning) (i : ClaimIdx), Table.OneHolder v.claims → v.MayHaveATurn i →
    (∀ h, v.ClearsByTheRules i h → v.TurnIssues (v.turn i) i [h] false) ∧
    ((∀ h, ¬ v.ClearsByTheRules i h) →
      ∀ gone list, v.HolderOfItsTarget i gone → v.IsYieldList i gone list →
        (∀ k, k ≤ list.length → v.Passes i (gone ++ list.take k) →
          (∀ j, j < k → ¬ v.Passes i (gone ++ list.take j)) →
          v.TurnIssues (v.turn i) i (gone ++ list.take k) true) ∧
        ((∀ k, k ≤ list.length → ¬ v.Passes i (gone ++ list.take k)) → v.TurnIssues (v.turn i) i [] false))

/-- A pass is made of turns, each of the candidate that comes first, until there is none (R30, R40). It yields BULK claims
alone, each a holder or granted earlier in the pass, and none while the yield level is 0 (R34, R38, R39, R41, R45). It
grants a claim in the arming it read, below level 15, that was PENDING or is a holder that it has itself yielded earlier
(R31, R33, R40). The first candidate of all, if its target has no holder and it fits, is granted before anything else (R42,
R43). What the pass reads is the state as it stands: the claim table, the secured condition, the halt latch, the at-rest
flag, plate below open limit, the budget and the yield level of the tuning table (R30, R35, R37, R45). -/
def Obligations.PassRequestsAreAllowed : Prop :=
  ∀ s : State,
    s.reckoning =
      { claims := s.claims, secured := s.interlock.secured, halted := s.interlock.haltLatch, atRest := s.rotor.atRest
        plateBelow := s.sensors.plateBelowOpen, budget := s.tuning.get 0, yieldLevel := s.tuning.get 1
        turned := [], issued := [] } ∧
    (∀ a b h d, s.pass.issued = a ++ .yield h d :: b →
      (s.claim h).active.bulk = true ∧ 0 < s.tuning.get 1 ∧
        ((s.claim h).isHolder = true ∨ ∃ n, .grant h n ∈ a)) ∧
    (∀ a b i n, s.pass.issued = a ++ .grant i n :: b →
      n = (s.claim i).arming ∧ (s.claim i).active.level ≠ 15 ∧
        ((s.claim i).state = .pending ∨ ((s.claim i).isHolder = true ∧ ∃ d, .yield i d ∈ a))) ∧
    (Table.OneHolder s.claims →
      s.reckoning.TakesTurns s.pass ∧ (∀ i, ¬ s.pass.MayHaveATurn i) ∧
      ∀ i, s.reckoning.EligibleByTheRules i →
        (∀ j, s.reckoning.MayHaveATurn j → s.reckoning.ComesFirst i j) →
        ((s.claim i).active.target ≠ .none → ∀ h, (s.claim h).holds (s.claim i).active.target = false) →
        s.reckoning.Passes i [] → s.pass.issued.head? = some (.grant i (s.claim i).arming))

/-- ARBITRATION_PASS, with an event of R29 reported and no pass under way, issues the requests of the pass and changes
nothing else; a pass is not begun while one is under way (R30). How many reports it answers is the model's (log 8). -/
def Obligations.ArbitrationPassIssuesItsRequests : Prop :=
  ∀ (together : Bool) (s : State),
    (s.arbiter.requests = [] → (0 < s.arbiter.reports ∨ s.arbiter.reportedDuring = true) →
      ∃ t, exec (.arbitrationPass together) s = .next t ∧ t = { s with arbiter := t.arbiter } ∧
        t.arbiter.requests = s.pass.issued ∧ t.arbiter.handover = s.arbiter.handover ∧
        t.arbiter.budgetWrites = s.arbiter.budgetWrites ∧
        (together = true → t.arbiter.reports = 0 ∧ t.arbiter.reportedDuring = false)) ∧
    (s.arbiter.requests ≠ [] → exec (.arbitrationPass together) s = .next s)

/-- GRANT: the claim table takes a grant of a PENDING claim in the arming for which it was decided, and the checks of R52
pass: the claim enters GRANTED with the clock as its stamp and its mark cleared, GRANTED goes to its owner, and every
other entry stands (R17). A LATCH grant sets the command to RELEASE, and a change of the command judges the disagreement
afresh (R53, R61); another grant leaves the unit as it stands. The only HEATER holder's output is judged at once on the
stored plate conversion (R80). A GRINDER grant, with the latch command where the table has it, starts the drive and its
grace, with the on time of a PULSED claim, the laboured judgement afresh, and the attempts kept for the same arming alone
(R88, R89, R90, R92, R96). A grant of a claim that is no longer PENDING, or has been armed again, or whose checks of R52
fail, is not applied: no notice is sent, and the unit stands (R17, R31, R52). A HELD claim that the event resumes has its
own GRANTED notice (R16). The handover that ends with the grant is the model's (log 9). -/
def Obligations.GrantEntersGranted : Prop :=
  ∀ (s : State) (i : ClaimIdx) (n : Word) (rest : List Request), s.arbiter.requests = .grant i n :: rest →
    ((s.claim i).state = .pending → (s.claim i).arming = n →
    ((s.claim i).active.kind = .drive →
      ((s.claim i).active.target = .heater ∨ (s.claim i).active.target = .grinder →
        s.interlock.secured = true ∧ s.interlock.haltLatch = false) ∧
      ((s.claim i).active.target = .latch → (∀ j, (s.claim j).grantedOn .grinder = false) ∧ s.rotor.atRest = true)) →
    ∃ t, exec .grant s = .next t ∧
      t.claim i = (s.claim i).grantedAt s.sensors.clock ∧ s.OthersStand t (· == i) ∧
      t.arbiter = { s.arbiter with requests := rest, handover := none } ∧
      t.PostedToOwner .granted (s.claim i).owner ∧ s.PortsButNotices t ∧
      s.PostsExactly t (fun n q => (n = .granted ∧ (s.claim i).owner = some q) ∨ s.ResumeNotice t n q) ∧
      s.BeyondTheTable t ∧
      t.drives.fanDuty = t.fanDutyWanted ∧
      ((s.claim i).active.kind = .drive → (s.claim i).active.target = .latch →
        t.interlock =
          (if s.interlock.latchCommand = .release then s.interlock else s.interlock.commanded .release s.time)) ∧
      ((s.claim i).active.kind = .curb ∨ (s.claim i).active.target ≠ .latch → s.arbiter.handover = none →
        s.LatchFollows → t.interlock = s.interlock) ∧
      ((s.claim i).active.kind = .drive → (s.claim i).active.target = .heater →
        (∀ j, (s.claim j).holds .heater = false) → s.HeaterJudged t i) ∧
      ((s.claim i).active.kind = .drive → (s.claim i).active.target = .grinder →
        s.interlock.latchCommand = .engage ∨ (∃ j, (s.claim j).grantedOn .latch = true) →
        t.rotor = s.rotor.grantedBy s.time i (s.claim i))) ∧
    (((s.claim i).state ≠ .pending ∨ (s.claim i).arming ≠ n ∨
      ((s.claim i).active.kind = .drive ∧
        ((((s.claim i).active.target = .heater ∨ (s.claim i).active.target = .grinder) ∧
            (s.interlock.secured = false ∨ s.interlock.haltLatch = true)) ∨
          ((s.claim i).active.target = .latch ∧
            ((∃ j, (s.claim j).grantedOn .grinder = true) ∨ s.rotor.atRest = false))))) →
    ∃ t, exec .grant s = .next t ∧ s.OthersStand t (fun _ => false) ∧
      t.arbiter = { s.arbiter with requests := rest, handover := none } ∧ s.PortsButNotices t ∧
      s.PostsExactly t (s.ResumeNotice t) ∧ s.BeyondTheTable t ∧
      (s.arbiter.handover = none → s.LatchFollows → t.interlock = s.interlock))

/-- YIELD: the claim table takes a yield of a holder: with SINGLE_TRY clear it returns to PENDING with the mark set and
INTERRUPTED goes to its owner; with SINGLE_TRY set it ends PREEMPTED and ENDED goes to its owner; no pass is called for
(R14, R32). A claim that is no holder any more is not changed, and no notice is sent for it (R31). At the yield of the last
GRANTED LATCH claim the command returns to ENGAGE, judges the disagreement afresh and resumes the HELD claims (R53, R61),
but that in a displacement it stays RELEASE until the grant (R53). At the yield of the GRANTED GRINDER holder, in a
chamber that is secured with the halt latch clear, the drive returns to IDLE and any jog is abandoned (R89, R97); in a
displacement only the driving itself goes on, with its timers idle, until the grant of the same turn (the model's,
log 9). -/
def Obligations.YieldTakesTheHolder : Prop :=
  ∀ (s : State) (i : ClaimIdx) (d : Bool) (rest : List Request),
    s.arbiter.requests = .yield i d :: rest →
    ∃ t, exec .yield s = .next t ∧ s.OthersStand t (· == i) ∧ t.arbiter.requests = rest ∧
      t.arbiter.reports = s.arbiter.reports ∧ t.arbiter.reportedDuring = s.arbiter.reportedDuring ∧
      s.PortsButNotices t ∧ s.BeyondTheTable t ∧
      s.PostsExactly t (fun n q => ((s.claim i).isHolder = true ∧ (s.claim i).owner = some q ∧
        n = if (s.claim i).active.singleTry then .ended else .interrupted) ∨ s.ResumeNotice t n q) ∧
      (d = false → s.LatchFollowsLeaving t (· == i)) ∧
      (d = true → (s.claim i).grantedOn .latch = true → s.LatchFollows → t.interlock = s.interlock) ∧
      ((s.claim i).isHolder = true → (s.claim i).active.singleTry = false →
        t.claim i = { s.claim i with state := .pending, yielded := true } ∧
        t.PostedToOwner .interrupted (s.claim i).owner) ∧
      ((s.claim i).isHolder = true → (s.claim i).active.singleTry = true →
        t.claim i = (s.claim i).afterEnd .preempted ∧ t.PostedToOwner .ended (s.claim i).owner) ∧
      ((s.claim i).isHolder = false → (s.claim i).state ≠ .held → t.claim i = s.claim i) ∧
      ((s.claim i).grantedOn .grinder = true → (∀ j, j ≠ i → (s.claim j).holds .grinder = false) →
        s.interlock.secured = true → s.interlock.haltLatch = false → s.arbiter.handover = none → s.LatchFollows →
        (d = true → s.rotor.mode = .driving →
          t.rotor = { s.rotor with grace := none, pattern := .idle, cleanRun := none }) ∧
        (s.rotor.mode ≠ .idle → d = false ∨ s.rotor.mode ≠ .driving →
          t.rotor.mode = .idle ∧ t.rotor.output = .off ∧ t.rotor.jogPhase = .none ∧ t.rotor.probeCount = 0 ∧
          t.rotor.grace = none ∧ t.rotor.pattern = .idle ∧ t.rotor.cleanRun = none ∧ t.rotor.offPhaseDue = false ∧
          t.rotor.attempts = s.rotor.attempts ∧ t.rotor.attemptClaim = s.rotor.attemptClaim))

/-- BUDGET_WRITE, between passes: the oldest write is refused with CONFLICT when the new budget less the reductions in
force is less than the granted sum, and otherwise replaces the budget and starts a pass; its port receives the reply
(R172). That the oldest is first, and how a pass is called for, are the model's (log 14, log 8). -/
def Obligations.BudgetWriteIsJudgedBetweenPasses : Prop :=
  ∀ (s : State) (p : Port) (v : Nat) (rest : List (Port × Nat)) (req : List Byte),
    s.arbiter.requests = [] → s.arbiter.budgetWrites = (p, v) :: rest → s.Asks p 0x29 req →
    (v < Table.grantedSum s.claims + Table.reductions s.claims →
      exec .budgetWrite s =
        .next (({ s with arbiter := { s.arbiter with budgetWrites := rest } } : State).replied p .conflict 0x29 [])) ∧
    (Table.grantedSum s.claims + Table.reductions s.claims ≤ v →
      exec .budgetWrite s =
        .next (({ s with
          tuning := s.tuning.set 0 v
          arbiter := { s.arbiter with budgetWrites := rest, reports := s.arbiter.reports + 1 } } : State).replied p .ok
            0x29 ([0x00] ++ bytesOfHalf (BitVec.ofNat 16 v))))

/-! ## The ports -/

/-- TRANSACTION_START decides what is shifted out: the reply buffer with the flight IDLE, else BUSY with the code in flight
(R147). MPn_DOUT gives the sixteen bytes of that reply, status, echo and data, a bit for each clock, the last byte in part
where the clocks end within it, and zero after the sixteenth (R147, R151, R154, R173). At the end of a transaction that
started IN_FLIGHT, and of a short one, nothing else changes but that it is over (R150, R151).
TRANSACTION_TAKEN: the reply is consumed and the first sixteen bytes enter flight; a port of class NONE answers DISABLED
to all but NOP, and a code that is not listed is answered UNKNOWN (R147, R148). -/
def Obligations.TransactionsEnterFlight : Prop :=
  (∀ (p : Port) (s : State),
    ((s.port p).transaction = none → (s.port p).flight = none →
      exec (.transactionStart p) s = .next (s.withPort p { s.port p with
        transaction := some ⟨true, (s.port p).reply⟩, attn := (s.port p).attnWanted })) ∧
    (∀ req, (s.port p).transaction = none → (s.port p).flight = some req →
      exec (.transactionStart p) s = .next (s.withPort p { s.port p with
        transaction := some ⟨false, { status := .busy, echo := byteAt req 0, data := zeroData }⟩
        attn := (s.port p).attnWanted })) ∧
    (∀ x n, (s.port p).transaction = some ⟨false, x⟩ → x.data.length = 14 →
      exec (.busyTransaction ⟨p, n⟩) s = .next (s.withPort p { s.port p with
        transaction := none, dout := x.shifted n, attn := (s.port p).attnWanted })) ∧
    (∀ x n, (s.port p).transaction = some ⟨true, x⟩ → x.data.length = 14 → n < 128 →
      exec (.shortTransaction ⟨p, n⟩) s = .next (s.withPort p { s.port p with
        transaction := none, dout := x.shifted n, attn := (s.port p).attnWanted }))) ∧
  (∀ x : Reply, x.data.length = 14 →
    x.bytes.length = 16 ∧ (x.status, byteAt x.bytes 0) ∈ statusCodes ∧ byteAt x.bytes 1 = x.echo ∧
      ∀ k, byteAt x.bytes (k + 2) = byteAt x.data k) ∧
  ∀ (p : Port) (bytes : List Byte) (extra : Nat) (x : Reply) (s : State),
    (s.port p).transaction = some ⟨true, x⟩ → x.data.length = 14 → 16 ≤ bytes.length →
    ∃ t, exec (.transactionTaken p ⟨bytes, extra⟩) s = .next t ∧ t = s.withPort p (t.port p) ∧
      t.port p = { s.port p with
        transaction := none, dout := x.shifted (8 * bytes.length + extra)
        flight := (t.port p).flight, reply := (t.port p).reply, consumed := (t.port p).consumed
        attn := (s.port p).attnWanted } ∧
      ((s.port p).cls = .none → byteAt bytes 0 ≠ 0x00 →
        (t.port p).flight = none ∧ (t.port p).consumed = false ∧
        (t.port p).reply = { status := .disabled, echo := byteAt bytes 0, data := zeroData }) ∧
      ((s.port p).cls ≠ .none →
        byteAt bytes 0 ∉ ([0x00, 0x01, 0x02, 0x08, 0x09, 0x0A, 0x0B, 0x0C, 0x10, 0x11, 0x12, 0x13, 0x14, 0x18, 0x19,
          0x1A, 0x20, 0x28, 0x29, 0x30, 0x31, 0x3F] : List Byte) →
        (t.port p).flight = none ∧ (t.port p).consumed = false ∧
        (t.port p).reply = { status := .unknown, echo := byteAt bytes 0, data := zeroData }) ∧
      ((s.port p).cls ≠ .none ∨ byteAt bytes 0 = 0x00 →
        byteAt bytes 0 ∈ ([0x00, 0x01, 0x02, 0x08, 0x09, 0x0A, 0x0B, 0x0C, 0x10, 0x11, 0x12, 0x13, 0x14, 0x18, 0x19,
          0x1A, 0x20, 0x28, 0x29, 0x30, 0x31, 0x3F] : List Byte) →
        (t.port p).flight = some (bytes.take 16) ∧ (t.port p).consumed = true ∧ (t.port p).reply = (s.port p).reply)

/-- NOP, STATUS, NOTICE_READ, ACCESS_READ, ROTOR_READ, CLAIM_READ, BATCH_READ and RETIRED_PEEK answer one part of what they
name and change nothing else; a part, a port, an index or a position out of range is refused with RANGE, a record that is
not there with NOT_FOUND, an empty queue with EMPTY (R13, R99, R115, R141, R153, R155, R159). -/
def Obligations.ReadsChangeNothing : Prop :=
  ∀ (p : Port) (req : List Byte) (s : State),
    (s.Asks p 0x00 req → exec (.nop p) s = .next (s.replied p .ok 0x00 [])) ∧
    (s.Asks p 0x01 req → byteAt req 1 = 0 → exec (.status p) s = .next (s.replied p .ok 0x01 s.statusPart0)) ∧
    (s.Asks p 0x01 req → byteAt req 1 = 1 → exec (.status p) s = .next (s.replied p .ok 0x01 s.statusPart1)) ∧
    (s.Asks p 0x01 req → 1 < (byteAt req 1).toNat → exec (.status p) s = .next (s.replied p .range 0x01 [])) ∧
    (s.Asks p 0x18 req →
      exec (.noticeRead p) s = .next (s.replied p .ok 0x18
        (bytesOfHalf (s.port p).notices ++ [topNoticeCode (s.port p).topNotice] ++ (s.port p).levelBytes))) ∧
    (∀ m : Port, s.Asks p 0x30 req → byteAt req 1 = BitVec.ofNat 8 m.val →
      exec (.accessRead p) s = .next (s.replied p .ok 0x30
        ([BitVec.ofNat 8 m.val, (s.port m).cls.code] ++ (s.port m).access.bytes))) ∧
    (s.Asks p 0x30 req → 2 < (byteAt req 1).toNat → exec (.accessRead p) s = .next (s.replied p .range 0x30 [])) ∧
    (s.Asks p 0x02 req → (byteAt req 1).toNat ≤ 4 →
      exec (.rotorRead p) s = .next (s.replied p .ok 0x02 (s.rotor.part (byteAt req 1).toNat))) ∧
    (s.Asks p 0x02 req → 4 < (byteAt req 1).toNat → exec (.rotorRead p) s = .next (s.replied p .range 0x02 [])) ∧
    (∀ i : ClaimIdx, s.Asks p 0x0C req → byteAt req 1 = BitVec.ofNat 8 i.val →
      (byteAt req 2 = 0 → exec (.claimRead p) s = .next (s.replied p .ok 0x0C (s.claim i).part0)) ∧
      (byteAt req 2 = 1 → exec (.claimRead p) s = .next (s.replied p .ok 0x0C (s.claim i).part1)) ∧
      (byteAt req 2 = 2 → exec (.claimRead p) s = .next (s.replied p .ok 0x0C (s.claim i).part2))) ∧
    (s.Asks p 0x0C req → 15 < (byteAt req 1).toNat ∨ 2 < (byteAt req 2).toNat →
      exec (.claimRead p) s = .next (s.replied p .range 0x0C [])) ∧
    (∀ (k : Nat) (r : BatchRecord), s.Asks p 0x10 req →
      (byteAt req 1 = 0 ∧ (byteAt req 3).toNat = k ∧ k ≤ 7 ∧ s.batch.records[k]? = some r) ∨
        (byteAt req 1 = 1 ∧ s.batch.Carries k r (wordAt req 3)) →
      (byteAt req 2 = 0 → exec (.batchRead p) s = .next (s.replied p .ok 0x10 (r.part0 k))) ∧
      (byteAt req 2 = 1 → exec (.batchRead p) s = .next (s.replied p .ok 0x10 r.part1))) ∧
    (s.Asks p 0x10 req → (byteAt req 2).toNat ≤ 1 →
      (byteAt req 1 = 1 ∧ ∀ r ∈ s.batch.records, r.seq ≠ wordAt req 3) ∨
        (byteAt req 1 = 0 ∧ (byteAt req 3).toNat ≤ 7 ∧ s.batch.records.length ≤ (byteAt req 3).toNat) →
      exec (.batchRead p) s = .next (s.replied p .notFound 0x10 [])) ∧
    (s.Asks p 0x10 req →
      1 < (byteAt req 1).toNat ∨ 1 < (byteAt req 2).toNat ∨ (byteAt req 1 = 0 ∧ 7 < (byteAt req 3).toNat) →
      exec (.batchRead p) s = .next (s.replied p .range 0x10 [])) ∧
    (∀ (x : Summary) (rest : List Summary), s.Asks p 0x13 req → s.batch.retired = x :: rest →
      (byteAt req 1 = 0 →
        exec (.retiredPeek p) s = .next (s.replied p .ok 0x13 (x.part0 (rest.length + 1)))) ∧
      (byteAt req 1 = 1 → exec (.retiredPeek p) s = .next (s.replied p .ok 0x13 x.part1)) ∧
      (byteAt req 1 = 2 → exec (.retiredPeek p) s = .next (s.replied p .ok 0x13 x.part2))) ∧
    (s.Asks p 0x13 req → (byteAt req 1).toNat ≤ 2 → s.batch.retired = [] →
      exec (.retiredPeek p) s = .next (s.replied p .empty 0x13 [])) ∧
    (s.Asks p 0x13 req → 2 < (byteAt req 1).toNat → exec (.retiredPeek p) s = .next (s.replied p .range 0x13 []))

/-- The fourteen data bytes of the two parts of STATUS carry, each in its place, what R155 and the format of R173 name, a
trip cause by its number (R55).
Part 0: the conditions of the unit, the trip cause set and first cause, the mix and the finished flag, the tuning budget,
the effective budget, the granted sum and the next sequence number. Part 1: plate, air, humidity and mass with their fault
marks, the record count, the chamber clock, the retired count and the dry run count. -/
def Obligations.StatusCarriesItsFields : Prop :=
  ∀ s : State, s.statusPart0.length = 14 ∧
    (byteAt s.statusPart0 0).getLsbD 0 = s.interlock.secured ∧
    (byteAt s.statusPart0 0).getLsbD 1 = s.interlock.lidClosed ∧
    (byteAt s.statusPart0 0).getLsbD 2 = s.interlock.binIn ∧
    (byteAt s.statusPart0 0).getLsbD 3 = decide (s.interlock.latchCommand = .release) ∧
    (byteAt s.statusPart0 0).getLsbD 4 = s.interlock.feedbackEngaged ∧
    (byteAt s.statusPart0 0).getLsbD 5 = s.interlock.haltLatch ∧
    (byteAt s.statusPart0 0).extractLsb' 6 2 = 0 ∧
    byteAt s.statusPart0 1 = s.interlock.causes.setWidth 8 ∧
    (∀ x ∈ causeCodes, (byteAt s.statusPart0 1).getLsbD (x.2.toNat - 1) = s.interlock.causes.has x.1) ∧
    (byteAt s.statusPart0 2 = 0 ↔ s.interlock.firstCause = none) ∧
    (∀ c, s.interlock.firstCause = some c → (c, byteAt s.statusPart0 2) ∈ causeCodes) ∧
    (byteAt s.statusPart0 3).getLsbD 7 = s.batch.finished ∧
    (s.batch.mix, (byteAt s.statusPart0 3).extractLsb' 0 2) ∈ mixCodes ∧
    (byteAt s.statusPart0 3).extractLsb' 2 5 = 0 ∧
    halfAt s.statusPart0 4 = BitVec.ofNat 16 (s.tuning.get 0) ∧
    halfAt s.statusPart0 6 = BitVec.ofNat 16 (s.tuning.get 0 - Table.reductions s.claims) ∧
    halfAt s.statusPart0 8 = BitVec.ofNat 16 (Table.grantedSum s.claims) ∧
    wordAt s.statusPart0 10 = s.batch.nextSeq ∧
    s.statusPart1.length = 14 ∧
    halfAt s.statusPart1 0 = BitVec.ofInt 16 s.sensors.plate.value ∧
    halfAt s.statusPart1 2 = BitVec.ofInt 16 s.sensors.air.value ∧
    byteAt s.statusPart1 4 = BitVec.ofNat 8 s.sensors.humidity ∧
    halfAt s.statusPart1 5 = BitVec.ofNat 16 s.sensors.mass ∧
    (byteAt s.statusPart1 7).getLsbD 0 = s.sensors.plate.faulted ∧
    (byteAt s.statusPart1 7).getLsbD 1 = s.sensors.air.faulted ∧
    (byteAt s.statusPart1 7).getLsbD 2 = s.sensors.humidityFault ∧
    (byteAt s.statusPart1 7).getLsbD 3 = s.sensors.loadFault ∧
    (byteAt s.statusPart1 7).extractLsb' 4 4 = BitVec.ofNat 4 s.batch.records.length ∧
    wordAt s.statusPart1 8 = s.sensors.clock ∧
    (s.batch.retired.length ≤ 6 → s.batch.dryRun ≤ 600 →
      (byteAt s.statusPart1 12).toNat = 16 * s.batch.retired.length + s.batch.dryRun / 256 ∧
      (byteAt s.statusPart1 13).toNat = s.batch.dryRun % 256)

/-- The data of the other replies carry their fields, each in its place: the three parts of CLAIM_READ, layout C among
them, the five of ROTOR_READ, the two of BATCH_READ, the three of a summary, the record of ACCESS_READ, and the levels and
the top notice of NOTICE_READ (R4, R84, R102, R139, R173). That an absent grant stamp is sent as zero is the model's
(log 36). -/
def Obligations.RepliesCarryTheirFields : Prop :=
  (∀ q : Params, q.IsCarried q.layoutC) ∧
  (∀ c : Claim,
    (c.state, byteAt c.part0 0) ∈ claimStateCodes ∧ CarriesOwner (byteAt c.part0 1) c.owner ∧
    (c.part0.drop 2).take 9 = c.active.layoutC.take 9 ∧ byteAt c.part0 11 = byteAt c.active.layoutC 13 ∧
    c.part0.length = 12 ∧
    halfAt c.part1 0 = BitVec.ofNat 16 c.active.duration ∧ halfAt c.part1 2 = BitVec.ofNat 16 c.active.deadline ∧
    halfAt c.part1 4 = BitVec.ofNat 16 c.remRun ∧ halfAt c.part1 6 = BitVec.ofNat 16 c.remDeadline ∧
    (c.outcome, byteAt c.part1 8) ∈ claimOutcomeCodes ∧ (byteAt c.part1 9).getLsbD 0 = c.grantStamp.isSome ∧
    (byteAt c.part1 9).getLsbD 1 = c.yielded ∧ (byteAt c.part1 9).extractLsb' 2 6 = 0 ∧
    (∀ w, c.grantStamp = some w → wordAt c.part1 10 = w) ∧ (c.grantStamp = none → wordAt c.part1 10 = 0) ∧
    c.part1.length = 14 ∧ c.part2 = c.staged.layoutC) ∧
  (∀ r : Rotor,
    (r.mode, (byteAt (r.part 0) 0).extractLsb' 0 2) ∈ driveModeCodes ∧ (byteAt (r.part 0) 0).extractLsb' 2 2 = 0 ∧
    (r.output, (byteAt (r.part 0) 0).extractLsb' 4 2) ∈ directionCodes ∧ (byteAt (r.part 0) 0).extractLsb' 6 2 = 0 ∧
    (r.jogPhase, (byteAt (r.part 0) 1).extractLsb' 0 3) ∈ jogPhaseCodes ∧
    (r.attempts ≤ 3 → (byteAt (r.part 0) 1).toNat / 16 = r.attempts) ∧
    byteAt (r.part 0) 2 = BitVec.ofNat 8 r.probeCount ∧
    (r.period = none → halfAt (r.part 0) 3 = 0xFFFF) ∧
    (∀ n, r.period = some n → halfAt (r.part 0) 3 = BitVec.ofNat 16 (if n / 1000 < 65535 then n / 1000 else 65534)) ∧
    (byteAt (r.part 0) 5).getLsbD 0 = r.atRest ∧ (byteAt (r.part 0) 5).getLsbD 1 = r.laboured ∧
    (byteAt (r.part 0) 5).getLsbD 2 = r.offPhaseDue ∧ (byteAt (r.part 0) 5).extractLsb' 3 5 = 0 ∧
    byteAt (r.part 0) 6 = BitVec.ofNat 8 r.ring.length ∧ wordAt (r.part 0) 7 = r.revolutions ∧
    (r.part 0).length = 11 ∧
    ∀ k : Fin 8,
      (∀ x, r.ring[k.val]? = some x →
        wordAt (r.part (1 + k.val / 2)) (5 * (k.val % 2)) = x.stamp ∧
        byteAt (r.part (1 + k.val / 2)) (5 * (k.val % 2) + 4) = x.ringByte) ∧
      (r.ring[k.val]? = none → ∀ j, j < 5 → byteAt (r.part (1 + k.val / 2)) (5 * (k.val % 2) + j) = 0)) ∧
  (∀ x : PulseRecord,
    (x.direction, x.ringByte.extractLsb' 0 2) ∈ directionCodes ∧ x.ringByte.extractLsb' 2 4 = 0 ∧
    x.ringByte.getLsbD 6 = true ∧ x.ringByte.getLsbD 7 = x.early) ∧
  (∀ (r : BatchRecord) (k : Nat), k ≤ 7 →
    wordAt (r.part0 k) 0 = r.seq ∧ ((byteAt (r.part0 k) 4).extractLsb' 0 3).toNat = k ∧
    (r.state, ((byteAt (r.part0 k) 4).extractLsb' 3 2).setWidth 8) ∈ batchStateCodes ∧
    (byteAt (r.part0 k) 4).getLsbD 5 = r.merged ∧ (byteAt (r.part0 k) 4).getLsbD 6 = r.doseOverride.isSome ∧
    (byteAt (r.part0 k) 4).getLsbD 7 = r.grindOverride.isSome ∧ CarriesMass (halfAt (r.part0 k) 5) r.mass ∧
    halfAt (r.part0 k) 7 = BitVec.ofNat 16 r.dose ∧ halfAt (r.part0 k) 9 = BitVec.ofNat 16 r.grind ∧
    byteAt (r.part0 k) 11 = r.openedAt.extractLsb' 16 8 ∧ halfAt (r.part0 k) 12 = r.openedAt.extractLsb' 0 16 ∧
    (r.part0 k).length = 14 ∧
    wordAt r.part1 0 = r.openedAt ∧ (∀ w, r.curedAt = some w → wordAt r.part1 4 = w) ∧
    (r.curedAt = none → wordAt r.part1 4 = 0) ∧ halfAt r.part1 8 = r.tag ∧
    (∀ v, r.doseOverride = some v → halfAt r.part1 10 = v) ∧ (r.doseOverride = none → halfAt r.part1 10 = 0) ∧
    (∀ v, r.grindOverride = some v → halfAt r.part1 12 = v) ∧ (r.grindOverride = none → halfAt r.part1 12 = 0) ∧
    r.part1.length = 14) ∧
  (∀ (x : Summary) (n : Nat),
    wordAt (x.part0 n) 0 = x.seq ∧ (byteAt (x.part0 n) 4).extractLsb' 0 2 = (if x.finished then 1 else 2) ∧
    (byteAt (x.part0 n) 4).getLsbD 4 = x.overrun ∧ (byteAt (x.part0 n) 4).getLsbD 5 = x.mass.isSome ∧
    (byteAt (x.part0 n) 4).extractLsb' 2 2 = 0 ∧ (byteAt (x.part0 n) 4).extractLsb' 6 2 = 0 ∧
    CarriesMass (halfAt (x.part0 n) 5) x.mass ∧ halfAt (x.part0 n) 7 = BitVec.ofNat 16 x.dose ∧
    halfAt (x.part0 n) 9 = BitVec.ofNat 16 x.grind ∧ byteAt (x.part0 n) 11 = BitVec.ofNat 8 n ∧
    (x.part0 n).length = 12 ∧
    wordAt x.part1 0 = x.seq ∧ wordAt x.part1 4 = x.openedAt ∧ wordAt x.part1 8 = x.retiredAt ∧ x.part1.length = 12 ∧
    wordAt x.part2 0 = x.seq ∧ (∀ w, x.curedAt = some w → wordAt x.part2 4 = w) ∧
    (x.curedAt = none → wordAt x.part2 4 = 0) ∧ halfAt x.part2 8 = x.tag ∧ x.part2.length = 10) ∧
  (∀ a : Access,
    a.bytes.length = 3 ∧ (byteAt a.bytes 0).getLsbD 0 = a.heater ∧ (byteAt a.bytes 0).getLsbD 1 = a.grinder ∧
    (byteAt a.bytes 0).getLsbD 2 = a.fan ∧ (byteAt a.bytes 0).getLsbD 3 = a.latch ∧
    (byteAt a.bytes 0).extractLsb' 4 4 = 0 ∧ (byteAt a.bytes 1).getLsbD 0 = a.curb ∧
    (byteAt a.bytes 1).getLsbD 1 = a.annotate ∧ (byteAt a.bytes 1).getLsbD 2 = a.tuning ∧
    (byteAt a.bytes 1).getLsbD 3 = a.haltClear ∧ (byteAt a.bytes 1).getLsbD 4 = a.access ∧
    (byteAt a.bytes 1).extractLsb' 5 3 = 0 ∧ byteAt a.bytes 2 = BitVec.ofNat 8 a.floor) ∧
  ∀ q : PortState,
    (q.cls, q.cls.code) ∈ classCodes ∧ q.levelBytes.length = 8 ∧
    (∀ k : Fin 8, (byteAt q.levelBytes k.val).toNat =
      16 * (q.levels.get ⟨2 * k.val, by omega⟩).val + (q.levels.get ⟨2 * k.val + 1, by omega⟩).val) ∧
    (q.topNotice = none → topNoticeCode q.topNotice = 0xFF) ∧
    ∀ n, q.topNotice = some n → (topNoticeCode q.topNotice).toNat = n.val

/-- R170: TUNING_READ of an entry answers OK, the index, the value as it stands, and the entry's range and default; an
index above 12 is refused with RANGE; it changes no state and posts no notice, at any port. -/
def Obligations.TuningReadAnswersTheEntry : Prop :=
  ∀ (p : Port) (req : List Byte) (s : State), s.Asks p 0x28 req →
    (∀ k : Fin 13, byteAt req 1 = BitVec.ofNat 8 k.val →
      exec (.tuningRead p) s = .next (s.replied p .ok 0x28
        ([BitVec.ofNat 8 k.val] ++ bytesOfHalf (BitVec.ofNat 16 (s.tuning.get k)) ++
          bytesOfHalf (BitVec.ofNat 16 (Config.tuningRows.get k).lowest) ++
          bytesOfHalf (BitVec.ofNat 16 (Config.tuningRows.get k).highest) ++
          bytesOfHalf (BitVec.ofNat 16 (Config.tuningRows.get k).default)))) ∧
    (12 < (byteAt req 1).toNat → exec (.tuningRead p) s = .next (s.replied p .range 0x28 []))

/-- NOTICE_CLEAR clears the named flags and NOTICE_LEVEL writes one level; both answer the pending set and the top notice
after it, and ATTN follows (R158, R159). A source or a level above 15 is refused with RANGE. The top notice is a pending
source of the lowest level below 15, and of the lowest number among those; there is none exactly when no pending source
has a level below 15; ATTN is asserted exactly at an enabled port with a top notice (R158). A notice is pending by the
number of its source (R157). -/
def Obligations.NoticeCommandsAndTheTopNotice : Prop :=
  (∀ (p : Port) (req : List Byte) (s : State),
    (s.Asks p 0x19 req → ∀ q : PortState, q = { s.port p with notices := (s.port p).notices &&& ~~~ halfAt req 2 } →
      exec (.noticeClear p) s = .next (s.withPort p { q with
        reply := ⟨.ok, 0x19, (bytesOfHalf q.notices ++ [topNoticeCode q.topNotice] ++ zeroData).take 14⟩
        consumed := false, flight := none, attn := q.attnWanted })) ∧
    (∀ n l : Fin 16, s.Asks p 0x1A req → byteAt req 1 = BitVec.ofNat 8 n.val → byteAt req 2 = BitVec.ofNat 8 l.val →
      ∀ q : PortState, q = { s.port p with levels := (s.port p).levels.set n l } →
      exec (.noticeLevel p) s = .next (s.withPort p { q with
        reply := ⟨.ok, 0x1A, (bytesOfHalf q.notices ++ [topNoticeCode q.topNotice] ++ zeroData).take 14⟩
        consumed := false, flight := none, attn := q.attnWanted })) ∧
    (s.Asks p 0x1A req → 15 < (byteAt req 1).toNat ∨ 15 < (byteAt req 2).toNat →
      exec (.noticeLevel p) s = .next (s.replied p .range 0x1A []))) ∧
  (∀ n, ∃ k, (n, k) ∈ sourceNumbers) ∧
  ∀ q : PortState,
    (∀ x ∈ sourceNumbers, q.isPending x.1.number = q.notices.getLsbD x.2) ∧
    (q.attnWanted = true ↔ q.cls ≠ .none ∧ q.topNotice ≠ none) ∧
    (q.topNotice = none ↔ ∀ n, q.isPending n = true → q.levels.get n = 15) ∧
    ∀ n, q.topNotice = some n →
      q.isPending n = true ∧ q.levels.get n ≠ 15 ∧
      ∀ m, q.isPending m = true →
        q.levels.get n < q.levels.get m ∨ (q.levels.get n = q.levels.get m ∧ n ≤ m)

/-- ACCESS_WRITE: DENIED without the ACCESS permission; RANGE for a port number above 2, a floor above 14 or a bit marked
zero that is set; else the whole record of the named port is replaced, no class, claim or other state changes, and the
reply carries the record as written (R153). -/
def Obligations.AccessWriteReplacesTheRecord : Prop :=
  ∀ (p : Port) (req : List Byte) (s : State), s.Asks p 0x31 req →
    ((s.port p).access.access = false → exec (.accessWrite p) s = .next (s.replied p .denied 0x31 [])) ∧
    ((s.port p).access.access = true →
      2 < (byteAt req 1).toNat ∨ 14 < (byteAt req 4).toNat ∨ 15 < (byteAt req 2).toNat ∨ 31 < (byteAt req 3).toNat →
      exec (.accessWrite p) s = .next (s.replied p .range 0x31 [])) ∧
    (∀ m : Port, (s.port p).access.access = true → byteAt req 1 = BitVec.ofNat 8 m.val → (byteAt req 4).toNat ≤ 14 →
      (byteAt req 2).toNat ≤ 15 → (byteAt req 3).toNat ≤ 31 →
      ∃ t, exec (.accessWrite p) s = .next t ∧ t = { s with ports := t.ports } ∧
        (t.port m).access =
          { heater := (byteAt req 2).getLsbD 0, grinder := (byteAt req 2).getLsbD 1, fan := (byteAt req 2).getLsbD 2
            latch := (byteAt req 2).getLsbD 3, curb := (byteAt req 3).getLsbD 0
            annotate := (byteAt req 3).getLsbD 1, tuning := (byteAt req 3).getLsbD 2
            haltClear := (byteAt req 3).getLsbD 3, access := (byteAt req 3).getLsbD 4
            floor := (byteAt req 4).toNat } ∧
        (∀ q, q ≠ m → (t.port q).access = (s.port q).access) ∧
        (∀ q, (t.port q).cls = (s.port q).cls ∧ (t.port q).notices = (s.port q).notices ∧
          (t.port q).levels = (s.port q).levels ∧ (t.port q).transaction = (s.port q).transaction) ∧
        (∀ q, q ≠ p → (t.port q).flight = (s.port q).flight ∧ (t.port q).reply = (s.port q).reply ∧
          (t.port q).consumed = (s.port q).consumed) ∧
        (t.port p).flight = none ∧ (t.port p).consumed = false ∧ (t.port p).reply.status = .ok ∧
        (t.port p).reply.data.take 5 = [byteAt req 1, (s.port m).cls.code, byteAt req 2, byteAt req 3, byteAt req 4])

/-- PORT_RESET: every entry of the port becomes FREE, its reservation NONE, its pending set empty and its ATTN not
asserted, its reply the empty reply; its class, access record and levels stand, other ports' entries and reservations
stand, and a pass follows (R25, R156). With the last GRANTED LATCH claim the command returns to ENGAGE and resumes the HELD
claims (R53, R61); no other notice is posted at another port (R157). -/
def Obligations.PortResetFreesAndClears : Prop :=
  ∀ (p : Port) (req : List Byte) (s : State), s.Asks p 0x3F req →
    ∃ t, exec (.portReset p) s = .next t ∧
      (∀ i, (s.claim i).owner = some p → t.claim i = Claim.free (s.claim i).arming) ∧
      s.OthersStand t (fun i => (s.claim i).owner == some p) ∧
      t.port p = { s.port p with
        notices := 0, reply := { status := .ok, echo := 0, data := zeroData }, consumed := false, flight := none
        attn := false } ∧
      (∀ q, q ≠ p → { t.port q with notices := 0, attn := false } = { s.port q with notices := 0, attn := false } ∧
        ∀ n, t.Posted n q ↔ s.Posted n q ∨ s.ResumeNotice t n q) ∧
      s.LatchFollowsLeaving t (fun i => (s.claim i).owner == some p) ∧
      t.batch = { s.batch with reservations := s.batch.reservations.set p .none } ∧
      t.arbiter.requests = s.arbiter.requests ∧ t.passDue = true ∧
      t.sensors = s.sensors ∧ t.tuning = s.tuning ∧ t.time = s.time ∧
      t.link = { s.link with touched := t.link.touched }

/-! ## The claim table -/

/-- DRAFT on a FREE entry or an entry of the port, or with index 255 on the lowest FREE entry: a FREE entry takes the port
as its owner and becomes DRAFT; the staged copy is written; nothing else of the part changes but the reply and the
last-touched latch, and no pass follows (R6, R7, R166). The fields are those that draftParams reads (log 18 for the bit that
it ignores). -/
def Obligations.DraftWritesTheStagedCopy : Prop :=
  ∀ (p : Port) (req : List Byte) (s : State) (i : ClaimIdx) (q : Params), s.Asks p 0x08 req →
    ((byteAt req 1 = BitVec.ofNat 8 i.val ∧ ((s.claim i).state = .free ∨ (s.claim i).owner = some p)) ∨
      (byteAt req 1 = 255 ∧ (s.claim i).state = .free ∧ ∀ j, j < i → (s.claim j).state ≠ .free)) →
    draftParams req = some q →
    ∃ t, exec (.draft p) s = .next t ∧
      ((s.claim i).state = .free →
        t.claim i = { s.claim i with owner := some p, state := .draft, staged := q } ∧
        t.link = { s.link with touched := some (.claim i) }) ∧
      ((s.claim i).state ≠ .free → t.claim i = { s.claim i with staged := q } ∧ t.link = s.link) ∧
      (∀ j, j ≠ i → t.claim j = s.claim j) ∧
      t = { s.replied p .ok 0x08 [BitVec.ofNat 8 i.val] with claims := t.claims, link := t.link }

/-- The fields that an accepted DRAFT stages are those that layout C carries, each read from its own bits (R173); a field
outside the range it has whatever the kind and actuator makes the request invalid (R6), and a request with every field in
its range is valid. Bit 3 of byte 10, which the layout does not use, is ignored (R173; log 18). -/
def Obligations.DraftReadsLayoutC : Prop :=
  ∀ (req : List Byte),
    (∀ q : Params, draftParams req = some q →
      (q.kind = .drive ↔ (byteAt req 2).extractLsb' 4 4 = 0) ∧
      (q.target = .heater ↔ (byteAt req 2).extractLsb' 0 4 = 0) ∧
      (q.target = .grinder ↔ (byteAt req 2).extractLsb' 0 4 = 1) ∧
      (q.target = .fan ↔ (byteAt req 2).extractLsb' 0 4 = 2) ∧
      (q.target = .latch ↔ (byteAt req 2).extractLsb' 0 4 = 3) ∧
      q.settingA = byteAt req 3 ∧ q.settingB = byteAt req 4 ++ byteAt req 5 ∧
      q.demand = (byteAt req 6).toNat * 256 + (byteAt req 7).toNat ∧
      q.reduction = (byteAt req 8).toNat * 256 + (byteAt req 9).toNat ∧ q.reduction ≤ 1800 ∧
      q.level.val = (byteAt req 10).toNat / 16 ∧
      q.bulk = (byteAt req 10).getLsbD 0 ∧ q.oneShot = (byteAt req 10).getLsbD 1 ∧
      q.singleTry = (byteAt req 10).getLsbD 2 ∧
      q.duration = (byteAt req 11).toNat * 256 + (byteAt req 12).toNat ∧ 1 ≤ q.duration ∧
      q.deadline = (byteAt req 13).toNat * 256 + (byteAt req 14).toNat ∧
      (q.followOn = none ↔ byteAt req 15 = 255) ∧
      ∀ t, q.followOn = some t → (byteAt req 15).toNat = t.val) ∧
    (draftParams req ≠ none ↔
      (byteAt req 2).toNat / 16 ≤ 1 ∧ (byteAt req 2).toNat % 16 ∈ [0, 1, 2, 3, 7] ∧
      (byteAt req 8).toNat * 256 + (byteAt req 9).toNat ≤ 1800 ∧
      1 ≤ (byteAt req 11).toNat * 256 + (byteAt req 12).toNat ∧
      ((byteAt req 15).toNat ≤ 15 ∨ byteAt req 15 = 255))

/-- A refused DRAFT, ARM, DISARM or ALTER changes nothing but the reply: the first check that fails gives the status (R6,
R8, R11, R12). Whether the fields of a DRAFT are in range is draftParams' answer (log 18 for the bit that it ignores). -/
def Obligations.ClaimRequestsAreRefusedInOrder : Prop :=
  ∀ (p : Port) (req : List Byte) (s : State),
    (s.Asks p 0x08 req →
      (15 < (byteAt req 1).toNat → byteAt req 1 ≠ 255 → exec (.draft p) s = .next (s.replied p .range 0x08 [])) ∧
      (byteAt req 1 = 255 → (∀ j, (s.claim j).state ≠ .free) →
        exec (.draft p) s = .next (s.replied p .full 0x08 [])) ∧
      (∀ i : ClaimIdx, byteAt req 1 = BitVec.ofNat 8 i.val → (s.claim i).state ≠ .free →
        (s.claim i).owner ≠ some p → exec (.draft p) s = .next (s.replied p .notOwner 0x08 [])) ∧
      (∀ i : ClaimIdx, byteAt req 1 = BitVec.ofNat 8 i.val →
        ((s.claim i).state = .free ∨ (s.claim i).owner = some p) → draftParams req = none →
        exec (.draft p) s = .next (s.replied p .range 0x08 [])) ∧
      (byteAt req 1 = 255 → (∃ j, (s.claim j).state = .free) → draftParams req = none →
        exec (.draft p) s = .next (s.replied p .range 0x08 []))) ∧
    (∀ c code, (c, code) ∈ ([(.arm p, 0x09), (.disarm p, 0x0A), (.alter p, 0x0B)] : List (Instr × Byte)) →
      s.Asks p code req →
      (15 < (byteAt req 1).toNat → exec c s = .next (s.replied p .range code [])) ∧
      ∀ i : ClaimIdx, byteAt req 1 = BitVec.ofNat 8 i.val →
        ((s.claim i).state = .free → exec c s = .next (s.replied p .state code [])) ∧
        ((s.claim i).state ≠ .free → (s.claim i).owner ≠ some p →
          exec c s = .next (s.replied p .notOwner code []))) ∧
    (∀ i : ClaimIdx, byteAt req 1 = BitVec.ofNat 8 i.val → (s.claim i).state ≠ .free → (s.claim i).owner = some p →
      (s.Asks p 0x09 req → (s.claim i).staged.consistent = false →
        exec (.arm p) s = .next (s.replied p .range 0x09 [])) ∧
      (s.Asks p 0x09 req → (s.claim i).staged.consistent = true →
        (s.port p).access.permits (s.claim i).staged = false →
        exec (.arm p) s = .next (s.replied p .denied 0x09 [])) ∧
      (s.Asks p 0x09 req → (s.claim i).staged.consistent = true →
        (s.port p).access.permits (s.claim i).staged = true →
        (s.claim i).staged.level.val < (s.port p).access.floor →
        exec (.arm p) s = .next (s.replied p .level 0x09 [])) ∧
      (∀ k, s.Asks p 0x09 req → (s.claim i).staged.consistent = true →
        (s.port p).access.permits (s.claim i).staged = true →
        (s.port p).access.floor ≤ (s.claim i).staged.level.val →
        (s.claim i).staged.followOn = some k → k ≤ i →
        exec (.arm p) s = .next (s.replied p .chain 0x09 [])) ∧
      (s.Asks p 0x0B req → ((byteAt req 2).extractLsb' 0 2 = 0 ∨ (byteAt req 2).extractLsb' 2 2 = 0 ∨
        (byteAt req 2).extractLsb' 4 2 = 0) → exec (.alter p) s = .next (s.replied p .range 0x0B [])))

/-- ARM that passes the checks of R8 puts the claim in force, from whatever state: the active copy is the staged copy, the
timers start afresh, outcome NONE, stamp absent, mark clear, one more arming, PENDING; no other entry changes but for a
resumption; the reply is OK, a pass is due, and no notice marks the arming (R9, R10). The ARM of the last GRANTED LATCH
claim returns the command to ENGAGE and resumes the HELD claims (R53, R61). -/
def Obligations.ArmPutsTheClaimInForce : Prop :=
  ∀ (p : Port) (req : List Byte) (s : State) (i : ClaimIdx), s.Asks p 0x09 req →
    byteAt req 1 = BitVec.ofNat 8 i.val → (s.claim i).state ≠ .free → (s.claim i).owner = some p →
    (s.claim i).staged.consistent = true → (s.port p).access.permits (s.claim i).staged = true →
    (s.port p).access.floor ≤ (s.claim i).staged.level.val → (∀ k, (s.claim i).staged.followOn = some k → i < k) →
    ∃ t, exec (.arm p) s = .next t ∧
      t.claim i = { s.claim i with
        active := (s.claim i).staged, remRun := (s.claim i).staged.duration
        remDeadline := (s.claim i).staged.deadline, outcome := .none, grantStamp := none, yielded := false
        arming := (s.claim i).arming + 1, state := .pending } ∧
      s.OthersStand t (· == i) ∧ (s.replied p .ok 0x09 []).PortsButNotices t ∧ s.BeyondTheTable t ∧
      s.PostsExactly t (s.ResumeNotice t) ∧ s.LatchFollowsLeaving t (· == i) ∧
      t.passDue = true ∧ t.arbiter.requests = s.arbiter.requests

/-- A DRIVE claim is consistent exactly when it names an actuator, its demand lies in the actuator's range, and its setting
is valid for it with the bits marked zero at zero; a LATCH claim lasts at most 600 seconds; a CURB claim is consistent
(R2, R3, R8, R173). An access record permits a DRIVE claim by its drive for the claim's actuator, and a CURB claim by its
CURB permission (R8, R152). -/
def Obligations.ConsistencyAndPermissionAreThoseOfTheClaim : Prop :=
  (∀ q : Params,
    (q.kind = .curb → q.consistent = true) ∧
    (q.kind = .drive → q.target = .none → q.consistent = false) ∧
    (q.kind = .drive → q.target = .heater →
      (q.consistent = true ↔ 100 ≤ q.demand ∧ q.demand ≤ 1200 ∧ 40 ≤ q.settingA.toNat ∧ q.settingA.toNat ≤ 160 ∧
        q.settingB = 0)) ∧
    (q.kind = .drive → q.target = .grinder →
      (q.consistent = true ↔ 50 ≤ q.demand ∧ q.demand ≤ 600 ∧ q.settingB.extractLsb' 10 4 = 0 ∧
        (q.settingB.getLsbD 14 = true →
          1 ≤ q.settingA.toNat ∧ q.settingA.toNat ≤ 60 ∧ 1 ≤ (q.settingB.extractLsb' 0 10).toNat ∧
          (q.settingB.extractLsb' 0 10).toNat ≤ 600))) ∧
    (q.kind = .drive → q.target = .fan →
      (q.consistent = true ↔ 5 ≤ q.demand ∧ q.demand ≤ 60 ∧ 10 ≤ q.settingA.toNat ∧ q.settingA.toNat ≤ 100 ∧
        q.settingB = 0)) ∧
    (q.kind = .drive → q.target = .latch →
      (q.consistent = true ↔ 5 ≤ q.demand ∧ q.demand ≤ 30 ∧ q.duration ≤ 600))) ∧
  ∀ (acc : Access) (q : Params),
    (q.kind = .curb → acc.permits q = acc.curb) ∧
    (q.kind = .drive →
      (q.target = .heater → acc.permits q = acc.heater) ∧ (q.target = .grinder → acc.permits q = acc.grinder) ∧
      (q.target = .fan → acc.permits q = acc.fan) ∧ (q.target = .latch → acc.permits q = acc.latch))

/-- DISARM: a claim in force ends WITHDRAWN with its ENDED notice and a pass; an entry in DRAFT or ENDED becomes FREE, with
no notice and no pass; no follow-on is taken (R11, R19). The end of the last GRANTED LATCH claim returns the command to
ENGAGE and resumes the HELD claims (R53, R61). -/
def Obligations.DisarmEndsOrFrees : Prop :=
  ∀ (p : Port) (req : List Byte) (s : State) (i : ClaimIdx), s.Asks p 0x0A req →
    byteAt req 1 = BitVec.ofNat 8 i.val → (s.claim i).owner = some p →
    (((s.claim i).state = .pending ∨ (s.claim i).state = .granted ∨ (s.claim i).state = .held) →
      ∃ t, exec (.disarm p) s = .next t ∧ t.claim i = (s.claim i).afterEnd .withdrawn ∧ s.OthersStand t (· == i) ∧
        t.Posted .ended p ∧ s.PostsExactly t (fun n q => (n = .ended ∧ q = p) ∨ s.ResumeNotice t n q) ∧
        s.LatchFollowsLeaving t (· == i) ∧ (s.replied p .ok 0x0A []).PortsButNotices t ∧ s.BeyondTheTable t ∧
        t.passDue = true ∧ t.arbiter.requests = s.arbiter.requests) ∧
    (((s.claim i).state = .draft ∨ (s.claim i).state = .ended) →
      ∃ t, exec (.disarm p) s = .next t ∧ t.claim i = Claim.free (s.claim i).arming ∧
        (∀ j, j ≠ i → t.claim j = s.claim j) ∧
        t = { s.replied p .ok 0x0A [] with
          claims := t.claims, link := { s.link with touched := some (.claim i) } })

/-- ALTER: each two-bit code clears (01), sets (10) or keeps (11) its flag in both copies; nothing else of the entry
changes; a pass is started exactly when the active BULK flag of a claim in force changes (R12, R46). -/
def Obligations.AlterChangesTheFlags : Prop :=
  ∀ (p : Port) (req : List Byte) (s : State) (i : ClaimIdx),
    s.Asks p 0x0B req → byteAt req 1 = BitVec.ofNat 8 i.val →
    (s.claim i).state ≠ .free → (s.claim i).owner = some p →
    (byteAt req 2).extractLsb' 0 2 ≠ 0 → (byteAt req 2).extractLsb' 2 2 ≠ 0 → (byteAt req 2).extractLsb' 4 2 ≠ 0 →
    ∃ t, exec (.alter p) s = .next t ∧
      t.claim i = { s.claim i with
        active := (s.claim i).active.alteredBy (byteAt req 2)
        staged := (s.claim i).staged.alteredBy (byteAt req 2) } ∧
      (∀ j, j ≠ i → t.claim j = s.claim j) ∧
      t = { s.replied p .ok 0x0B [] with claims := t.claims, arbiter := t.arbiter } ∧
      (((s.claim i).inForce = true ∧ (t.claim i).active.bulk ≠ (s.claim i).active.bulk) →
        t.passDue = true ∧ t.arbiter.requests = s.arbiter.requests) ∧
      (¬ ((s.claim i).inForce = true ∧ (t.claim i).active.bulk ≠ (s.claim i).active.bulk) → t.arbiter = s.arbiter)

/-- RUN_TIME_EXPIRY of a GRANTED claim with no run time left: it ends DONE. DEADLINE_EXPIRY of a PENDING claim with a
deadline that has reached 0: it ends LAPSED. The owner receives ENDED, a pass is due, and no other entry changes but for a
resumption and the chain step (R19, R22, R23). The chain step at an end DONE: the follow-on is armed from its staged fields
if it is of the same owner, in DRAFT or ENDED, and passes checks 4 to 7 of R8; otherwise it stands and CHAIN_BROKEN goes to
the owner (R20). The end of the last GRANTED LATCH claim returns the command to ENGAGE, judges the disagreement afresh and
resumes the HELD claims (R53, R61). The expiry apart from the increment is the model's (log 10). -/
def Obligations.TimersEndClaimsAndArmFollowOns : Prop :=
  (∀ (s : State) (i : ClaimIdx),
    ((s.claim i).state = .granted → (s.claim i).remRun = 0 → (s.claim i).active.followOn = none →
      ∃ t, exec (.runTimeExpiry i) s = .next t ∧ t.claim i = (s.claim i).afterEnd .done ∧
        s.OthersStand t (· == i) ∧ t.PostedToOwner .ended (s.claim i).owner ∧ s.PortsButNotices t ∧
        s.PostsExactly t (fun n q => (n = .ended ∧ (s.claim i).owner = some q) ∨ s.ResumeNotice t n q) ∧
        s.LatchFollowsLeaving t (· == i) ∧ s.BeyondTheTable t ∧ t.passDue = true) ∧
    ((s.claim i).state = .pending → (s.claim i).active.deadline ≠ 0 → (s.claim i).remDeadline = 0 →
      ∃ t, exec (.deadlineExpiry i) s = .next t ∧ t.claim i = (s.claim i).afterEnd .lapsed ∧
        s.OthersStand t (· == i) ∧ t.PostedToOwner .ended (s.claim i).owner ∧ s.PortsButNotices t ∧
        s.PostsExactly t (fun n q => (n = .ended ∧ (s.claim i).owner = some q) ∨ s.ResumeNotice t n q) ∧
        s.LatchFollowsLeaving t (· == i) ∧ s.BeyondTheTable t ∧ t.passDue = true)) ∧
  ∀ (s : State) (i k : ClaimIdx) (p : Port), (s.claim i).state = .granted → (s.claim i).remRun = 0 →
    (s.claim i).active.followOn = some k → i < k → (s.claim i).owner = some p →
    ∃ t, exec (.runTimeExpiry i) s = .next t ∧ t.claim i = (s.claim i).afterEnd .done ∧ t.Posted .ended p ∧
      s.OthersStand t (fun j => j == i || j == k) ∧ t.passDue = true ∧ s.PortsButNotices t ∧ s.BeyondTheTable t ∧
      s.LatchFollowsLeaving t (· == i) ∧
      s.PostsExactly t (fun n q => (n = .ended ∧ q = p) ∨
        (n = .chainBroken ∧ q = p ∧ (t.claim k).arming = (s.claim k).arming) ∨ s.ResumeNotice t n q) ∧
      (((s.claim k).owner = some p ∧ ((s.claim k).state = .draft ∨ (s.claim k).state = .ended) ∧
          (s.claim k).staged.consistent = true ∧ (s.port p).access.permits (s.claim k).staged = true ∧
          (s.port p).access.floor ≤ (s.claim k).staged.level.val ∧
          (∀ m, (s.claim k).staged.followOn = some m → k < m)) →
        t.claim k = { s.claim k with
          active := (s.claim k).staged, remRun := (s.claim k).staged.duration
          remDeadline := (s.claim k).staged.deadline, outcome := .none, grantStamp := none, yielded := false
          arming := (s.claim k).arming + 1, state := .pending }) ∧
      (((s.claim k).owner ≠ some p ∨ (s.claim k).inForce = true ∨ (s.claim k).staged.consistent = false ∨
          (s.port p).access.permits (s.claim k).staged = false ∨
          (s.claim k).staged.level.val < (s.port p).access.floor ∨
          (∃ m, (s.claim k).staged.followOn = some m ∧ m ≤ k)) →
        t.Posted .chainBroken p ∧ ((s.claim k).state ≠ .held → t.claim k = s.claim k))

/-- CHAMBER_CLOCK_INCREMENT: the clock adds 1 (wrapping), every GRANTED claim's run time and every PENDING claim's deadline
count down, every other entry stands, and each sixth increment makes a dose sample fall due; nothing else changes (R22,
R23, R75, R76; that a timer at 0 is ended by its own row and not by the increment is the model's, log 10).
LOAD_CELL_CONVERSION stores the mass and its fault mark, and changes nothing else (R74). -/
def Obligations.ClockAndLoadCellEvents : Prop :=
  (∀ s : State, ∃ t, exec .chamberClockIncrement s = .next t ∧
    t = { s with claims := t.claims, sensors := t.sensors } ∧
    (∀ i,
      ((s.claim i).state = .granted → t.claim i = { s.claim i with remRun := (s.claim i).remRun - 1 }) ∧
      ((s.claim i).state = .pending → (s.claim i).active.deadline ≠ 0 →
        t.claim i = { s.claim i with remDeadline := (s.claim i).remDeadline - 1 }) ∧
      ((s.claim i).state = .pending → (s.claim i).active.deadline = 0 → t.claim i = s.claim i) ∧
      ((s.claim i).state ≠ .granted → (s.claim i).state ≠ .pending → t.claim i = s.claim i)) ∧
    t.sensors = { s.sensors with
      clock := s.sensors.clock + 1
      divider := if s.sensors.divider = 5 then 0 else s.sensors.divider + 1
      samplesDue := if s.sensors.divider = 5 then s.sensors.samplesDue + 1 else s.sensors.samplesDue }) ∧
  ∀ (s : State) (g : Int),
    (0 ≤ g → g ≤ 20000 → exec (.loadCellConversion (.grams g)) s =
      .next { s with sensors := { s.sensors with mass := g.toNat, loadFault := false } }) ∧
    (g < 0 → exec (.loadCellConversion (.grams g)) s =
      .next { s with sensors := { s.sensors with mass := 0, loadFault := true } }) ∧
    (20000 < g → exec (.loadCellConversion (.grams g)) s =
      .next { s with sensors := { s.sensors with mass := 20000, loadFault := true } }) ∧
    exec (.loadCellConversion .failed) s = .next { s with sensors := { s.sensors with loadFault := true } }

/-- The last-touched latch follows the changes. An event that changes the state of claim entries leaves it on the highest
of them (R166; log 11). One that changes the state of batch records in their places leaves it on the youngest of them, with
its seq. One that changes no state, and is neither a write of an annotation nor the judging of a closure, leaves it as it
was (R166; RESET_RELEASE and the data frame of a POKE have statements of their own). -/
def Obligations.LastTouchedFollowsTheChanges : Prop :=
  ∀ (c : Instr) (s t : State), (∀ first, c ≠ .resetRelease first) → (∀ bits, c ≠ .pokeDataFrame bits) →
    exec c s = .next t →
    (∀ i, (t.claim i).state ≠ (s.claim i).state → (∀ j, i < j → (t.claim j).state = (s.claim j).state) →
      t.link.touched = some (.claim i)) ∧
    (∀ (k : Nat) (r r' : BatchRecord), s.batch.records[k]? = some r → t.batch.records[k]? = some r' →
      r'.state ≠ r.state →
      (∀ (j : Nat) (x x' : BatchRecord), k < j → s.batch.records[j]? = some x → t.batch.records[j]? = some x' →
        x'.state = x.state) →
      t.link.touched = some (.batch k r'.seq)) ∧
    ((∀ p, c ≠ .batchCommit p) → c ≠ .massAfterSettleEnd → (∀ i, (t.claim i).state = (s.claim i).state) →
      (∀ (k : Nat) (r r' : BatchRecord), s.batch.records[k]? = some r → t.batch.records[k]? = some r' →
        r'.state = r.state) →
      t.link.touched = s.link.touched)

/-! ## The interlock and trip unit -/

/-- The opening of the lid switch, the bin switch or the feedback in a secured chamber: secured lost, a hold of the HEATER
and GRINDER holders, both outputs off, and a secured lost handed to the batch unit; a bin removal too if it is the bin
(R48, R49, R50). LID_FORCED is raised exactly by a switch that opens while the command is ENGAGE (R60). An open lid makes
the disagreement timer idle, a feedback that reads RELEASED starts it while the command is ENGAGE (R61). The batch
unit's two lists are the model's (log 16). -/
def Obligations.SecuredLostHoldsTheHolders : Prop :=
  ∀ (s : State) (c : Instr), s.interlock.secured = true →
    ((c = .lidSwitchChange false ∧ s.interlock.lidClosed = true) ∨
      (c = .binSwitchChange false ∧ s.interlock.binIn = true) ∨
      (c = .latchFeedbackChange false ∧ s.interlock.feedbackEngaged = true)) →
    ∃ t, exec c s = .next t ∧ t.interlock.secured = false ∧ s.HoldTaken t (fun _ => false) ∧
      t.drives.heaterOn = false ∧ t.rotor.mode = .idle ∧
      t.batch = { s.batch with
        securedEvents := s.batch.securedEvents ++ [.lost]
        binEvents := s.batch.binEvents ++ (if c = .binSwitchChange false then [.removed] else []) } ∧
      s.PortsButNotices t ∧
      s.PostsExactly t (fun n q => s.HoldNotice (fun _ => false) n q ∨
        (n = .trip ∧ c ≠ .latchFeedbackChange false ∧ s.interlock.latchCommand = .engage ∧
          s.interlock.active.has .lidForced = false)) ∧
      t.sensors = s.sensors ∧ t.tuning = s.tuning ∧ t.time = s.time ∧
      t.arbiter.requests = s.arbiter.requests ∧
      (c ≠ .latchFeedbackChange false → s.interlock.latchCommand = .engage → s.interlock.active.has .lidForced = false →
        s.Tripped t .lidForced ∧ t.interlock.active.has .lidForced = true) ∧
      (c = .latchFeedbackChange false ∨ s.interlock.latchCommand = .release → s.HaltStands t) ∧
      (s.LatchFollows →
        (c = .lidSwitchChange false → t.interlock.disagreement = none) ∧
        (c = .binSwitchChange false → t.interlock.disagreement = s.interlock.disagreement) ∧
        (c = .latchFeedbackChange false → t.interlock.disagreement =
          if s.interlock.lidClosed = true ∧ s.interlock.latchCommand = .engage then
            some (s.interlock.disagreement.getD s.time)
          else none))

/-- The closing that completes the secured condition: secured gained, LID_FORCED no longer active, a pass due and a
secured gained handed to the batch unit; with the halt latch clear and the command ENGAGE every HELD claim returns to
GRANTED with the clock as its stamp, its heater judged at once and its grinder drive started (R16, R17, R80, R89, R90, R96),
and with the command RELEASE they stay HELD; the trip causes stand (R49, R51). The disagreement timer is judged
afresh at the lid and the feedback (R61). The batch unit's two lists are the model's (log 16). -/
def Obligations.SecuredGainedResumesTheHeld : Prop :=
  ∀ (s : State) (c : Instr), s.interlock.secured = false →
    ((c = .lidSwitchChange true ∧ s.interlock.lidClosed = false ∧ s.interlock.binIn = true ∧
        s.interlock.feedbackEngaged = true) ∨
      (c = .binSwitchChange true ∧ s.interlock.binIn = false ∧ s.interlock.lidClosed = true ∧
        s.interlock.feedbackEngaged = true) ∨
      (c = .latchFeedbackChange true ∧ s.interlock.feedbackEngaged = false ∧ s.interlock.lidClosed = true ∧
        s.interlock.binIn = true)) →
    ∃ t, exec c s = .next t ∧ t.interlock.secured = true ∧ t.interlock.active.has .lidForced = false ∧
      (s.interlock.haltLatch = false → s.interlock.latchCommand = .engage → ∀ i, (s.claim i).state = .held →
        s.Resumed t i) ∧
      (∀ i, (s.claim i).state ≠ .held → t.claim i = s.claim i) ∧
      (s.interlock.haltLatch = true → t.claims = s.claims) ∧
      (s.interlock.latchCommand = .release → s.LatchFollows → t.claims = s.claims) ∧
      (c ≠ .binSwitchChange true → s.LatchFollows → s.ClaimsLawful → t.interlock.disagreement =
        if s.interlock.latchCommand = .engage then none else some (s.interlock.disagreement.getD s.time)) ∧
      s.HaltStands t ∧ t.passDue = true ∧
      t.batch = { s.batch with
        securedEvents := s.batch.securedEvents ++ [.gained]
        binEvents := s.batch.binEvents ++ (if c = .binSwitchChange true then [.inserted] else []) } ∧
      s.PortsButNotices t ∧ s.PostsExactly t (s.ResumeNotice t) ∧ t.sensors = s.sensors ∧ t.tuning = s.tuning ∧
      t.time = s.time ∧ t.arbiter.requests = s.arbiter.requests

/-- A change of the lid switch or the bin switch in a chamber that is not secured and does not become so. An opening while
the command is ENGAGE raises LID_FORCED, if it is not active, and a closing or an opening while the command is RELEASE
raises nothing (R60). The bin's change is handed to the batch unit, whatever the command (R49). The lid's change judges the
disagreement afresh (R61). No secured event is handed on (R49). The batch unit's two lists are the
model's (log 16). -/
def Obligations.SwitchesOfAnUnsecuredChamber : Prop :=
  ∀ (s : State) (c : Instr) (closed : Bool), s.interlock.secured = false → s.LatchFollows →
    ((c = .lidSwitchChange closed ∧ s.interlock.lidClosed ≠ closed ∧
        (closed = true → s.interlock.binIn = false ∨ s.interlock.feedbackEngaged = false)) ∨
      (c = .binSwitchChange closed ∧ s.interlock.binIn ≠ closed ∧
        (closed = true → s.interlock.lidClosed = false ∨ s.interlock.feedbackEngaged = false))) →
    ∃ t, exec c s = .next t ∧
      t.interlock = { s.interlock with
        lidClosed := if c = .lidSwitchChange closed then closed else s.interlock.lidClosed
        binIn := if c = .binSwitchChange closed then closed else s.interlock.binIn
        disagreement :=
          if c = .binSwitchChange closed then s.interlock.disagreement
          else if closed = true ∧ s.interlock.Disagreeing then some (s.interlock.disagreement.getD s.time)
          else none
        active := t.interlock.active, causes := t.interlock.causes, firstCause := t.interlock.firstCause
        haltLatch := t.interlock.haltLatch } ∧
      (t.interlock.active.has .lidForced = true ↔
        s.interlock.active.has .lidForced = true ∨ (closed = false ∧ s.interlock.latchCommand = .engage)) ∧
      (t.interlock.active.has .latchFault = true ↔ s.interlock.active.has .latchFault = true ∧
        (c = .binSwitchChange closed ∨ s.interlock.Disagreeing)) ∧
      (∀ x, x ≠ .lidForced → x ≠ .latchFault → t.interlock.active.has x = s.interlock.active.has x) ∧
      (closed = false → s.interlock.latchCommand = .engage → s.interlock.active.has .lidForced = false →
        s.Tripped t .lidForced ∧ s.HoldTaken t (fun _ => false)) ∧
      (closed = true ∨ s.interlock.latchCommand = .release ∨ s.interlock.active.has .lidForced = true →
        s.HaltStands t ∧ t.claims = s.claims ∧ t.ports = s.ports ∧ t.arbiter = s.arbiter) ∧
      t.batch = { s.batch with
        binEvents := s.batch.binEvents ++
          (if c = .binSwitchChange true then [.inserted] else if c = .binSwitchChange false then [.removed] else []) } ∧
      s.PortsButNotices t ∧
      s.PostsExactly t (fun n q => closed = false ∧ s.interlock.latchCommand = .engage ∧
        s.interlock.active.has .lidForced = false ∧ (n = .trip ∨ s.HoldNotice (fun _ => false) n q)) ∧
      t.sensors = s.sensors ∧ t.tuning = s.tuning ∧ t.time = s.time ∧
      t.arbiter.requests = s.arbiter.requests ∧ t.link = { s.link with touched := t.link.touched }

/-- CUTOUT_CHANGE: the line that opens raises CUTOUT, the line that closes ends its active flag and leaves the set (R58).
DISAGREEMENT_TIMER_EXPIRY, with the timer at 1 second or more: the timer goes idle, and LATCH_FAULT is raised if it is not
active (R61). Each raising is a trip event with its hold (R56, R63).
A change of the latch feedback that does not complete a secured chamber starts the timer if the lid is closed and the
feedback disagrees, lets it run on, or makes it idle; LATCH_FAULT ceases to be active when the feedback agrees (R61).
A row is taken at or after its timer's end (the model's, log 3). -/
def Obligations.CutoutAndLatchFaultTrip : Prop :=
  (∀ s : State,
    (s.interlock.cutoutClosed = true → s.interlock.active.has .cutout = false →
      ∃ t, exec (.cutoutChange false) s = .next t ∧ s.Tripped t .cutout ∧ t.interlock.cutoutClosed = false ∧
        t.interlock.active.has .cutout = true ∧ s.HoldTaken t (fun _ => false) ∧ s.PortsButNotices t ∧
        s.PostsExactly t (fun n q => n = .trip ∨ s.HoldNotice (fun _ => false) n q) ∧ s.BeyondTheTable t) ∧
    (s.interlock.cutoutClosed = false →
      ∃ t, exec (.cutoutChange true) s = .next t ∧ s.HaltStands t ∧ t.interlock.cutoutClosed = true ∧
        t.interlock.active.has .cutout = false ∧ s.OthersStand t (fun _ => false) ∧ s.PortsButNotices t ∧
        s.PostsExactly t (s.ResumeNotice t) ∧ s.BeyondTheTable t) ∧
    (∀ since, s.interlock.disagreement = some since → since + 1000000 ≤ s.time → s.LatchFollows →
      (s.interlock.active.has .latchFault = false →
        ∃ t, exec .disagreementTimerExpiry s = .next t ∧ s.Tripped t .latchFault ∧
          t.interlock.disagreement = none ∧ t.interlock.active.has .latchFault = true ∧
          s.HoldTaken t (fun _ => false) ∧ s.PortsButNotices t ∧
          s.PostsExactly t (fun n q => n = .trip ∨ s.HoldNotice (fun _ => false) n q) ∧ s.BeyondTheTable t) ∧
      (s.interlock.active.has .latchFault = true →
        ∃ t, exec .disagreementTimerExpiry s = .next t ∧ t.interlock = { s.interlock with disagreement := none } ∧
          t.claims = s.claims ∧ t.ports = s.ports ∧ s.BeyondTheTable t))) ∧
  ∀ (s : State) (engaged : Bool), s.interlock.secured = false → s.LatchFollows →
    s.interlock.feedbackEngaged ≠ engaged →
    (engaged = true → s.interlock.lidClosed = false ∨ s.interlock.binIn = false) →
    ∃ t, exec (.latchFeedbackChange engaged) s = .next t ∧
      t.interlock = { s.interlock with
        feedbackEngaged := engaged
        disagreement :=
          if s.interlock.lidClosed = true ∧ (engaged = false ↔ s.interlock.latchCommand = .engage) then
            some (s.interlock.disagreement.getD s.time)
          else none
        active :=
          if engaged = false ↔ s.interlock.latchCommand = .engage then s.interlock.active
          else s.interlock.active.erase .latchFault } ∧
      t.claims = s.claims ∧ t.ports = s.ports ∧ s.BeyondTheTable t

/-- HALT_CLEAR: DENIED without the permission; OK and nothing else with the halt latch clear; ACTIVE_CAUSE with the active
causes in the data while a cause of the set is active; otherwise the set is emptied, the latch cleared, HALT_CLEARED
posted to every port, a pass due, and in a secured chamber with the command ENGAGE every HELD claim resumes, its heater
judged at once and its grinder drive started (R16, R17, R80, R89, R90, R96), while with the command RELEASE they stay HELD
(R67). The active causes are sent as they stand (log 32). -/
def Obligations.HaltClearEmptiesTheSet : Prop :=
  ∀ (p : Port) (req : List Byte) (s : State), s.Asks p 0x20 req →
    ((s.port p).access.haltClear = false → exec (.haltClear p) s = .next (s.replied p .denied 0x20 [])) ∧
    ((s.port p).access.haltClear = true → s.interlock.haltLatch = false →
      exec (.haltClear p) s = .next (s.replied p .ok 0x20 [])) ∧
    ((s.port p).access.haltClear = true → s.interlock.haltLatch = true →
      s.interlock.causes &&& s.interlock.active ≠ 0 →
      exec (.haltClear p) s = .next (s.replied p .activeCause 0x20 [s.interlock.active.setWidth 8])) ∧
    ((s.port p).access.haltClear = true → s.interlock.haltLatch = true →
      s.interlock.causes &&& s.interlock.active = 0 →
      ∃ t, exec (.haltClear p) s = .next t ∧ t.interlock.causes = 0 ∧ t.interlock.firstCause = none ∧
        t.interlock.haltLatch = false ∧ (∀ q, t.Posted .haltCleared q) ∧ t.passDue = true ∧
        (s.interlock.secured = true → s.interlock.latchCommand = .engage → ∀ i, (s.claim i).state = .held →
          s.Resumed t i) ∧
        (∀ i, (s.claim i).state ≠ .held → t.claim i = s.claim i) ∧
        (s.interlock.secured = false → t.claims = s.claims) ∧
        (s.interlock.latchCommand = .release → s.LatchFollows → t.claims = s.claims) ∧
        (s.replied p .ok 0x20 []).PortsButNotices t ∧
        s.PostsExactly t (fun n q => n = .haltCleared ∨ s.ResumeNotice t n q) ∧ s.BeyondTheTable t)

/-! ## The thermistor report -/

/-- THERMISTOR_REPORT, with readings in the converter's span: both conversions are stored with their fault marks, plate
below open limit is re-derived, THERMAL_SENSOR and OVERHEAT are raised and cease as R57 and R59 say, the heater is off on
a faulted plate, and a change of plate below open limit to yes starts a pass (R70, R72).
The recipients take it in the model's order (log 15). -/
def Obligations.ThermistorReportIsJudged : Prop :=
  ∀ (plate air : Int) (s : State), (-40 ≤ plate ∧ plate ≤ 300) → (-40 ≤ air ∧ air ≤ 300) →
    ∃ t, exec (.thermistorReport plate air) s = .next t ∧
      t.sensors = { s.sensors with
        plate := ⟨plate, !decide (-20 ≤ plate ∧ plate ≤ 250)⟩, air := ⟨air, !decide (-20 ≤ air ∧ air ≤ 250)⟩
        plateBelowOpen := decide ((-20 ≤ plate ∧ plate ≤ 250) ∧ plate < (s.tuning.get 10 : Int)) } ∧
      (t.sensors.plateBelowOpen = true → s.sensors.plateBelowOpen = false → t.passDue = true) ∧
      (t.sensors.plate.faulted = true → t.drives.heaterOn = false) ∧
      (t.sensors.plate.faulted = true ∨ t.sensors.air.faulted = true →
        t.interlock.active.has .thermalSensor = true ∧
        t.interlock.active.has .overheat = s.interlock.active.has .overheat ∧
        (s.interlock.active.has .thermalSensor = false → s.Tripped t .thermalSensor ∧ s.HoldTaken t (fun _ => false)) ∧
        (s.interlock.active.has .thermalSensor = true → s.HaltStands t)) ∧
      (t.sensors.plate.faulted = false → t.sensors.air.faulted = false →
        t.interlock.active.has .thermalSensor = false ∧
        ((s.tuning.get 8 : Int) < plate ∨ (s.tuning.get 9 : Int) < air →
          t.interlock.active.has .overheat = true ∧
          (s.interlock.active.has .overheat = false → s.Tripped t .overheat ∧ s.HoldTaken t (fun _ => false)) ∧
          (s.interlock.active.has .overheat = true → s.HaltStands t)) ∧
        (plate ≤ (s.tuning.get 8 : Int) → air ≤ (s.tuning.get 9 : Int) →
          s.HaltStands t ∧
          (plate ≤ (s.tuning.get 8 : Int) - 15 ∧ air ≤ (s.tuning.get 9 : Int) - 10 →
            t.interlock.active.has .overheat = false) ∧
          (¬ (plate ≤ (s.tuning.get 8 : Int) - 15 ∧ air ≤ (s.tuning.get 9 : Int) - 10) →
            t.interlock.active.has .overheat = s.interlock.active.has .overheat))) ∧
      s.PortsButNotices t ∧
      s.PostsExactly t (fun n q => s.ResumeNotice t n q ∨
        ((∃ c, c ∈ [Cause.thermalSensor, .overheat] ∧ t.interlock.active.has c = true ∧
            s.interlock.active.has c = false) ∧
          (n = .trip ∨ s.HoldNotice (fun _ => false) n q))) ∧
      t.batch = s.batch ∧ t.tuning = s.tuning ∧ t.time = s.time ∧
      t.arbiter.requests = s.arbiter.requests

/-- The heater output after a report that trips nothing, with a HEATER claim GRANTED in a secured chamber and the halt
latch clear: ON below the setpoint less 3 °C, OFF at or above the setpoint, as it was between (R78, R79). The fan duty
in a state that keeps the chamber law, as every step does, is 100 % while the halt latch is set and the plate is not below
the open limit; else the FAN holder's duty, 0 with no holder, and at least the lid-vent duty while the latch command is
RELEASE (R81). -/
def Obligations.HeaterAndFanFollowTheirHolders : Prop :=
  (∀ (plate air : Int) (s : State) (i : ClaimIdx),
    (-20 ≤ plate ∧ plate ≤ 250) → (-20 ≤ air ∧ air ≤ 250) →
    plate ≤ (s.tuning.get 8 : Int) → air ≤ (s.tuning.get 9 : Int) →
    (s.claim i).grantedOn .heater = true → (∀ j, (s.claim j).grantedOn .heater = true → j = i) →
    s.interlock.secured = true → s.interlock.haltLatch = false → s.interlock.latchCommand = .engage →
    ∃ t, exec (.thermistorReport plate air) s = .next t ∧
      (plate < ((s.claim i).active.settingA.toNat : Int) - 3 → t.drives.heaterOn = true) ∧
      (((s.claim i).active.settingA.toNat : Int) ≤ plate → t.drives.heaterOn = false) ∧
      (((s.claim i).active.settingA.toNat : Int) - 3 ≤ plate → plate < ((s.claim i).active.settingA.toNat : Int) →
        t.drives.heaterOn = s.drives.heaterOn)) ∧
  ∀ (s : State) (duty : Nat), s.ChamberLawful → s.arbiter.handover = none →
    (∀ i, (s.claim i).grantedOn .fan = true → duty = (s.claim i).active.settingA.toNat) →
    ((∀ i, (s.claim i).grantedOn .fan = false) → duty = 0) →
    (s.interlock.haltLatch = true → s.sensors.plateBelowOpen = false → s.drives.fanDuty = 100) ∧
    (s.interlock.haltLatch = false ∨ s.sensors.plateBelowOpen = true →
      (s.interlock.latchCommand = .release → s.drives.fanDuty = max duty (s.tuning.get 11)) ∧
      (s.interlock.latchCommand = .engage → s.drives.fanDuty = duty))

/-! ## The rotor monitor -/

/-- ROTOR_PULSE, an EARLY one that is not the fourth in a row: it is recorded and counted, and moves neither the period
nor the last accepted time (R83, R84, R85, R87). An ACCEPTED one: recorded, with the period, the early count, the grace,
the quarter count, the revolutions handed on, the laboured judgement and the probe as R83 to R88 and R94 give them.
The row comes when the line has stayed high for 200 microseconds, and the stamp and the last accepted time are those of the
rising edge (R83; that the row comes then is the model's, log 26). -/
def Obligations.PulsesAreJudged : Prop :=
  ∀ s : State, s.rotor.ring.length ≤ 8 →
    (s.PulseIsEarly → s.rotor.earlyCount < 3 →
      exec .rotorPulse s = .next { s with rotor := { s.rotor with
        ring := s.ringWith true, atRest := false, earlyCount := s.rotor.earlyCount + 1
        restTimer := if s.rotor.output = .off then some s.time else s.rotor.restTimer } }) ∧
    (s.PulseIsAccepted →
      ∃ t, exec .rotorPulse s = .next t ∧ t = { s with rotor := t.rotor, ports := t.ports } ∧ s.PortsButNotices t ∧
        s.PostsExactly t (fun n _ => n = .laboured ∧ s.rotor.laboured = false ∧ t.rotor.laboured = true) ∧
        t.rotor.ring = s.ringWith false ∧ t.rotor.lastAccepted = some (s.time - 200) ∧ t.rotor.earlyCount = 0 ∧
        t.rotor.grace = none ∧ t.rotor.atRest = false ∧ t.rotor.attempts = s.rotor.attempts ∧
        t.rotor.attemptClaim = s.rotor.attemptClaim ∧ t.rotor.setting = s.rotor.setting ∧
        (s.rotor.output = .off → t.rotor.restTimer = some s.time) ∧
        (s.rotor.output ≠ .off → t.rotor.output ≠ .off → t.rotor.restTimer = s.rotor.restTimer) ∧
        (s.rotor.period ≠ none →
          ∀ last, s.rotor.lastAccepted = some last → t.rotor.period = some (s.pulseInterval last)) ∧
        (s.rotor.period = none → s.rotor.grace ≠ none → t.rotor.period = some 250000) ∧
        (s.rotor.period = none → s.rotor.grace = none → t.rotor.period = none) ∧
        (s.rotor.Counts → s.rotor.quarterCount = 3 →
          t.rotor.quarterCount = 0 ∧ t.rotor.revolutions = s.rotor.revolutions + 1 ∧
          t.rotor.handed = s.rotor.handed + 1) ∧
        (s.rotor.Counts → s.rotor.quarterCount ≠ 3 →
          t.rotor.quarterCount = s.rotor.quarterCount + 1 ∧ t.rotor.revolutions = s.rotor.revolutions ∧
          t.rotor.handed = s.rotor.handed) ∧
        (¬ s.rotor.Counts →
          t.rotor.quarterCount = s.rotor.quarterCount ∧ t.rotor.revolutions = s.rotor.revolutions ∧
          t.rotor.handed = s.rotor.handed) ∧
        (s.rotor.mode ≠ .driving ∨ s.rotor.period = none →
          t.rotor.laboured = s.rotor.laboured ∧ t.rotor.aboveCount = s.rotor.aboveCount ∧
          t.rotor.belowCount = s.rotor.belowCount) ∧
        (s.rotor.mode = .driving → s.rotor.period ≠ none → ∀ last, s.rotor.lastAccepted = some last →
          ∀ above : Bool, (above = true ↔ s.tuning.get 12 * 1000 < s.pulseInterval last) →
          (s.rotor.laboured = false → above = false → t.rotor.laboured = false ∧ t.rotor.aboveCount = 0) ∧
          (s.rotor.laboured = false → above = true → s.rotor.aboveCount ≠ 9 →
            t.rotor.laboured = false ∧ t.rotor.aboveCount = s.rotor.aboveCount + 1) ∧
          (s.rotor.laboured = false → above = true → s.rotor.aboveCount = 9 →
            t.rotor.laboured = true ∧ t.rotor.aboveCount = 0 ∧ t.rotor.belowCount = 0 ∧ ∀ q, t.Posted .laboured q) ∧
          (s.rotor.laboured = true → above = true → t.rotor.laboured = true ∧ t.rotor.belowCount = 0) ∧
          (s.rotor.laboured = true → above = false → s.rotor.belowCount ≠ 9 →
            t.rotor.laboured = true ∧ t.rotor.belowCount = s.rotor.belowCount + 1) ∧
          (s.rotor.laboured = true → above = false → s.rotor.belowCount = 9 →
            t.rotor.laboured = false ∧ t.rotor.aboveCount = 0 ∧ t.rotor.belowCount = 0)) ∧
        (¬ (s.rotor.mode = .jogging ∧ s.rotor.jogPhase = .probe) →
          t.rotor.mode = s.rotor.mode ∧ t.rotor.jogPhase = s.rotor.jogPhase ∧ t.rotor.output = s.rotor.output ∧
          t.rotor.probeCount = s.rotor.probeCount ∧ t.rotor.cleanRun = s.rotor.cleanRun ∧
          t.rotor.pattern = s.rotor.pattern) ∧
        (s.rotor.mode = .jogging → s.rotor.jogPhase = .probe → s.rotor.probeCount ≠ 7 →
          t.rotor.mode = .jogging ∧ t.rotor.jogPhase = .probe ∧ t.rotor.output = s.rotor.output ∧
          t.rotor.probeCount = s.rotor.probeCount + 1) ∧
        (s.rotor.mode = .jogging → s.rotor.jogPhase = .probe → s.rotor.probeCount = 7 →
          s.rotor.offPhaseDue = false →
          t.rotor.mode = .driving ∧ t.rotor.jogPhase = .none ∧ t.rotor.output = s.rotor.output ∧
          t.rotor.cleanRun = some s.time) ∧
        (s.rotor.mode = .jogging → s.rotor.jogPhase = .probe → s.rotor.probeCount = 7 →
          s.rotor.offPhaseDue = true →
          t.rotor.mode = .offPhase ∧ t.rotor.jogPhase = .none ∧ t.rotor.output = .off ∧
          t.rotor.pattern = .off s.time ∧ t.rotor.offPhaseDue = false ∧ t.rotor.cleanRun = none))

/-- The fourth EARLY pulse in a row is a ROTOR_SENSOR trip: the early count returns to 0, the drive stops and the holders
are held (R85, R62, R63). The third failed probe is a JAM: the attempt count stays at 3, the drive stops, the GRINDER
holder ends JAMMED, and the HEATER holder is held (R94, R95, R18, R65).
A row is taken at or after its timer's end (the model's, log 3), and a pulse's row comes at the end of its 200 microseconds
and stamps it with its rising edge (R83; that the row comes then is the model's, log 26). The holder is the first entry that
holds the grinder (log 21). -/
def Obligations.RotorReportsTrip : Prop :=
  ∀ s : State,
    (s.rotor.ring.length ≤ 8 → s.PulseIsEarly → s.rotor.earlyCount = 3 →
      ∃ t, exec .rotorPulse s = .next t ∧ s.Tripped t .rotorSensor ∧ s.HoldTaken t (fun _ => false) ∧
        t.rotor.earlyCount = 0 ∧ t.rotor.ring = s.ringWith true ∧ t.rotor.period = s.rotor.period ∧
        t.rotor.lastAccepted = s.rotor.lastAccepted ∧ s.PortsButNotices t ∧
        s.PostsExactly t (fun n q => n = .trip ∨ s.HoldNotice (fun _ => false) n q) ∧ s.BeyondTheTable t ∧
        t.arbiter.requests = s.arbiter.requests) ∧
    ∀ (c : Instr) (i : ClaimIdx), s.FailsTheProbe c → s.rotor.attempts = 2 → s.HoldsTheGrinder i →
      ∃ t, exec c s = .next t ∧ s.Tripped t .jam ∧ s.HoldTaken t (· == i) ∧
        t.claim i = (s.claim i).afterEnd .jammed ∧ t.PostedToOwner .ended (s.claim i).owner ∧ t.passDue = true ∧
        t.rotor.attempts = 3 ∧ t.rotor.output = .off ∧ t.rotor.jogPhase = .none ∧ t.rotor.probeCount = 0 ∧
        t.rotor.grace = none ∧ t.rotor.pattern = .idle ∧ t.rotor.cleanRun = none ∧ t.rotor.ring = s.rotor.ring ∧
        s.PortsButNotices t ∧
        s.PostsExactly t (fun n q => n = .trip ∨ (n = .ended ∧ (s.claim i).owner = some q) ∨ s.HoldNotice (· == i) n q) ∧
        s.BeyondTheTable t ∧ t.arbiter.requests = s.arbiter.requests

/-- A STALL in DRIVING starts a jog, and so does the first or the second failure of a probe, which is one attempt more:
the mode is JOGGING in FIRST_STOP with the output OFF, and JOG goes to the owner of the GRINDER holder (R90, R91, R93,
R94), the first entry that holds the grinder (log 21).
A row is taken at or after its timer's end (the model's, log 3). -/
def Obligations.StallsStartJogs : Prop :=
  ∀ (s : State) (c : Instr) (attempts : Nat),
    (s.StallsTheDrive c ∧ attempts = s.rotor.attempts) ∨
      (s.FailsTheProbe c ∧ attempts = s.rotor.attempts + 1 ∧ attempts < 3) →
    ∃ t, exec c s = .next t ∧ t = { s with rotor := s.rotor.jogBegun s.time attempts, ports := t.ports } ∧
      (∀ i, s.HoldsTheGrinder i → t.PostedToOwner .jog (s.claim i).owner) ∧ s.PortsButNotices t ∧
      s.PostsExactly t (fun n q => n = .jog ∧ ∃ i, s.HoldsTheGrinder i ∧ (s.claim i).owner = some q)

/-- The rotor monitor's timers: the rotor comes to rest after 1 second (R87); the phases of a jog follow one another
(R93); the on time and the off time of a PULSED claim end (R92); the clean-run timer returns the attempts to 0 (R96).
A row is taken at or after its timer's end (the model's, log 3), and the clean-run timer is idle after it (the model's,
log 17). -/
def Obligations.RotorTimersRunOut : Prop :=
  ∀ s : State,
    (∀ since, s.rotor.restTimer = some since → since + 1000000 ≤ s.time →
      ∃ t, exec .rotorAtRest s = .next t ∧ t.passDue = true ∧ t.arbiter.requests = s.arbiter.requests ∧
        t = { s with
          rotor := { s.rotor with atRest := true, restTimer := none, period := none, earlyCount := 0 }
          arbiter := t.arbiter }) ∧
    (s.rotor.mode = .jogging →
      (s.rotor.jogPhase = .firstStop → s.rotor.phaseStart + 500000 ≤ s.time → s.rotor.output = .off →
        s.rotor.setting.direction ≠ .off →
        exec .jogPhaseEnd s = .next { s with rotor := { s.rotor with
          output := (if s.rotor.setting.direction = .forward then .reverse else .forward)
          restTimer := none, atRest := false, jogPhase := .reverse, phaseStart := s.time } }) ∧
      (s.rotor.jogPhase = .reverse → s.rotor.phaseStart + 1000000 ≤ s.time → s.rotor.output ≠ .off →
        exec .jogPhaseEnd s = .next { s with rotor := { s.rotor with
          output := .off, restTimer := some s.time, jogPhase := .secondStop, phaseStart := s.time } }) ∧
      (s.rotor.jogPhase = .secondStop → s.rotor.phaseStart + 500000 ≤ s.time → s.rotor.output = .off →
        s.rotor.setting.direction ≠ .off →
        exec .jogPhaseEnd s = .next { s with rotor := { s.rotor.applied s.time with
          jogPhase := .probe, phaseStart := s.time } })) ∧
    (∀ since, s.rotor.pattern = .on since → since + s.rotor.setting.onTime * 1000000 ≤ s.time →
      (s.rotor.mode = .driving → s.rotor.output ≠ .off →
        exec .onTimeEnd s = .next { s with rotor := s.rotor.offPhaseBegun s.time }) ∧
      (s.rotor.mode = .jogging →
        exec .onTimeEnd s = .next { s with rotor := { s.rotor with offPhaseDue := true, pattern := .idle } })) ∧
    (∀ since, s.rotor.pattern = .off since → since + s.rotor.setting.offTime * 1000000 ≤ s.time →
      s.rotor.mode = .offPhase → s.rotor.output = .off → s.rotor.setting.direction ≠ .off →
      exec .offTimeEnd s = .next { s with rotor := { s.rotor.applied s.time with
        mode := .driving, jogPhase := .none, cleanRun := some s.time
        pattern := if s.rotor.setting.pulsed then .on s.time else .idle } }) ∧
    (∀ since, s.rotor.cleanRun = some since → since + 30000000 ≤ s.time →
      exec .cleanRunTimerExpiry s =
        .next { s with rotor := { s.rotor with attempts := 0, cleanRun := none } })

/-! ## The batch unit -/

/-- DOSE_SAMPLE, one due: the humidity conversion is stored (R73); every record gains the dose of R118 and is judged for
cure (R123); the dry run counts or returns to 0 (R119); the mix dries with MIX_DRY (R120); the finished flag is that of
R128. Nothing else of the part changes (R117). GRIND_CREDIT, one revolution handed over: every record gains 1 of grind,
saturating at 65535, and is judged for cure; the finished flag is judged; the dry run count and the mix stand (R121). -/
def Obligations.DoseAndGrindReachEveryRecord : Prop :=
  (∀ (h : HumidityReading) (s : State), 0 < s.sensors.samplesDue →
    ∃ t, exec (.doseSample h) s = .next t ∧
      t = { s with
        sensors := t.sensors, batch := t.batch, ports := t.ports, link := { s.link with touched := t.link.touched } } ∧
      (∀ rh, h = .result rh → t.sensors = { s.sensors with
        samplesDue := s.sensors.samplesDue - 1, humidity := min rh 100, humidityFault := decide (100 < rh) }) ∧
      (h = .failed → t.sensors = { s.sensors with
        samplesDue := s.sensors.samplesDue - 1, humidityFault := true }) ∧
      t.batch = { s.batch with
        records := t.batch.records, dryRun := t.batch.dryRun, mix := t.batch.mix, finished := t.batch.finished } ∧
      (∀ gain : Nat,
        (s.interlock.secured = true → s.sensors.air.faulted = false → (s.tuning.get 2 : Int) ≤ s.sensors.air.value →
          (gain : Int) = s.sensors.air.value - (s.tuning.get 2 : Int)) →
        (s.interlock.secured = false ∨ s.sensors.air.faulted = true ∨ s.sensors.air.value < (s.tuning.get 2 : Int) →
          gain = 0) →
        t.batch.records = s.batch.records.map fun r => s.credited r (min (r.dose + gain) 65535) r.grind) ∧
      (∀ rh, h = .result rh → s.interlock.secured = true → rh ≤ 100 → rh ≤ s.tuning.get 5 →
        t.batch.dryRun = min (s.batch.dryRun + 1) 600) ∧
      (h = .failed ∨ s.interlock.secured = false ∨ (∃ rh, h = .result rh ∧ (100 < rh ∨ s.tuning.get 5 < rh)) →
        t.batch.dryRun = 0) ∧
      (s.batch.mix = .wet → s.tuning.get 6 ≤ t.batch.dryRun → t.batch.mix = .dry ∧ ∀ q, t.Posted .mixDry q) ∧
      (s.batch.mix ≠ .wet ∨ t.batch.dryRun < s.tuning.get 6 → t.batch.mix = s.batch.mix) ∧
      t.batch.FinishedFits ∧ s.CureNotices t ∧ s.PortsButNotices t ∧
      s.PostsExactly t (fun n _ =>
        s.CureNotice t n ∨ (n = .mixDry ∧ s.batch.mix = .wet ∧ s.tuning.get 6 ≤ t.batch.dryRun))) ∧
  ∀ s : State, 0 < s.rotor.handed →
    ∃ t, exec .grindCredit s = .next t ∧
      t = { s with
        rotor := { s.rotor with handed := s.rotor.handed - 1 }
        batch := { s.batch with
          records := s.batch.records.map fun r => s.credited r r.dose (min (r.grind + 1) 65535)
          finished := t.batch.finished }
        ports := t.ports, link := { s.link with touched := t.link.touched } } ∧
      t.batch.FinishedFits ∧ s.CureNotices t ∧ s.PortsButNotices t ∧ s.PostsExactly t (fun n _ => s.CureNotice t n)

/-- MASS_BEFORE_SAMPLE samples the mass before when the settle is IDLE, and returns the settle to IDLE otherwise (R105).
MASS_AFTER_SETTLE_START starts the settle, and its end with the chamber not secured leaves it CUT (R107). BIN_INSERTION
starts the tare settle, and its end samples the mass before if the bin is in (R106).
The events come from the model's two lists (log 16), and a row is taken at or after its timer's end (the model's,
log 3). -/
def Obligations.MassSamplesAndSettles : Prop :=
  ∀ s : State,
    (∀ rest, s.batch.securedEvents = .lost :: rest →
      (s.batch.settle = .idle → exec .massBeforeSample s = .next { s with batch := { s.batch with
        securedEvents := rest, massBefore := some ⟨s.sensors.mass, s.sensors.loadFault⟩ } }) ∧
      (s.batch.settle ≠ .idle → exec .massBeforeSample s = .next { s with batch := { s.batch with
        securedEvents := rest, settle := .idle } })) ∧
    (∀ rest, s.batch.securedEvents = .gained :: rest →
      exec .massAfterSettleStart s = .next { s with batch := { s.batch with
        securedEvents := rest, settle := .running s.time } }) ∧
    (∀ since, s.batch.settle = .running since → since + 2000000 ≤ s.time → s.interlock.secured = false →
      exec .massAfterSettleEnd s = .next { s with batch := { s.batch with settle := .cut } }) ∧
    (∀ rest, s.batch.binEvents = .inserted :: rest →
      exec .binInsertion s = .next { s with batch := { s.batch with
        binEvents := rest, tareSettle := some s.time } }) ∧
    (∀ since, s.batch.tareSettle = some since → since + 1000000 ≤ s.time →
      (s.interlock.binIn = true → exec .tareSettleEnd s = .next { s with batch := { s.batch with
        tareSettle := none, massBefore := some ⟨s.sensors.mass, s.sensors.loadFault⟩ } }) ∧
      (s.interlock.binIn = false → exec .tareSettleEnd s = .next { s with batch := { s.batch with
        tareSettle := none } }))

/-- MASS_AFTER_SETTLE_END in a secured chamber judges the closure: a delta below the load threshold is not a load; a
measured load opens a record, or merges into the youngest when no record may be opened; an unmeasured closure opens a
record with no mass on an empty table, and sets the youngest back otherwise (R107 to R112). A load re-wets the mix
(R109). A record that is cured at once posts BATCH_CURED (R124). The last-touched latch names the record opened, and the
record set back if its state has changed (R166).
A mass before that is absent is the model's reading of R113 (log 27), and the row is taken at or after the settle's end (the
model's, log 3). -/
def Obligations.ClosuresAreJudged : Prop :=
  ∀ s : State, s.ClosureIsJudged →
    (¬ s.ClosureUnmeasured → s.closureDelta < (s.tuning.get 7 : Int) →
      exec .massAfterSettleEnd s = .next { s with batch := { s.batch with settle := .idle } }) ∧
    (∀ mass : Option Nat,
      (s.ClosureUnmeasured ∧ s.batch.records = [] ∧ mass = none) ∨
        (¬ s.ClosureUnmeasured ∧ (s.tuning.get 7 : Int) ≤ s.closureDelta ∧ s.batch.records.length < 8 ∧
          (s.batch.nextSeq ≠ 0 ∨ s.batch.records = []) ∧ mass = some s.closureDelta.toNat) →
      ∃ t, exec .massAfterSettleEnd s = .next t ∧ s.BatchEvent t ∧ s.PortsButNotices t ∧
        t.batch = { s.batch with
          settle := .idle, records := s.batch.records ++ [s.credited (s.opened mass) 0 0]
          nextSeq := (s.opened mass).seq + 1, mix := .wet, dryRun := 0, finished := false } ∧
        t.link.touched = some (.batch s.batch.records.length (s.opened mass).seq) ∧ (∀ q, t.Posted .batchOpened q) ∧
        ((s.credited (s.opened mass) 0 0).state = .cured → ∀ q, t.Posted .batchCured q) ∧
        s.PostsExactly t (fun n _ =>
          n = .batchOpened ∨ (n = .batchCured ∧ (s.credited (s.opened mass) 0 0).state = .cured))) ∧
    (∀ (older : List BatchRecord) (y : BatchRecord) (mass : Option Nat), s.batch.records = older ++ [y] →
      (s.ClosureUnmeasured ∧ mass = y.mass) ∨
        (¬ s.ClosureUnmeasured ∧ (s.tuning.get 7 : Int) ≤ s.closureDelta ∧
          (8 ≤ s.batch.records.length ∨ s.batch.nextSeq = 0) ∧
          mass = y.mass.map fun g => min (g + s.closureDelta.toNat) 20000) →
      ∃ t, exec .massAfterSettleEnd s = .next t ∧ s.BatchEvent t ∧ s.PortsButNotices t ∧
        t.batch = { s.batch with
          settle := .idle
          records := older ++
            [s.credited { y with mass := mass, merged := true, state := .fresh, curedAt := none } 0 0]
          reservations := t.batch.reservations, mix := .wet, dryRun := 0, finished := false } ∧
        s.Breaks t (fun _ n => n == y.seq) (fun _ => false) ∧ (∀ q, t.Posted .batchMerged q) ∧
        (s.cureState y 0 0 = .cured → ∀ q, t.Posted .batchCured q) ∧
        s.PostsExactly t (fun n q =>
          n = .batchMerged ∨ (n = .batchCured ∧ s.cureState y 0 0 = .cured) ∨ s.LostNotice t n q) ∧
        t.link.touched =
          if y.state = .fresh ∧ s.cureState y 0 0 = .fresh then s.link.touched
          else some (.batch older.length y.seq))

/-- RETIREMENT: on an empty table nothing but the tare settle's end; otherwise the records become summaries, oldest first,
the six youngest summaries stay in the queue with the overrun flag on those that displaced another, the table and the
mix become empty, every INTACT reservation is broken, and RETIRED goes to every port (R106, R138, R139, R140).
The removal comes from the model's list (log 16). -/
def Obligations.RetirementEmptiesTheTable : Prop :=
  ∀ (s : State) (rest : List BinEvent), s.batch.binEvents = .removed :: rest →
    (s.batch.records = [] →
      exec .retirement s = .next { s with batch := { s.batch with binEvents := rest, tareSettle := none } }) ∧
    (s.batch.records ≠ [] → s.batch.retired.length ≤ 6 →
      ∃ t, exec .retirement s = .next t ∧ t = { s with batch := t.batch, ports := t.ports } ∧ s.PortsButNotices t ∧
        t.batch = { s.batch with
          binEvents := rest, tareSettle := none, records := [], mix := .empty, finished := false
          retired := s.queueAndSummaries.drop (s.queueAndSummaries.length - 6)
          reservations := t.batch.reservations } ∧
        s.Breaks t (fun _ _ => true) (fun _ => false) ∧ (∀ q, t.Posted .retired q) ∧
        s.PostsExactly t (fun n q => n = .retired ∨ s.LostNotice t n q))

/-- RETIRED_TAKE: DENIED without the ANNOTATE permission, EMPTY on an empty queue, CONFLICT for an expected seq that is
neither 0 nor the oldest summary's; otherwise the oldest summary leaves the queue, and the reply carries its part 0 with
the count after the removal (R142). -/
def Obligations.RetiredTakeRemovesTheOldest : Prop :=
  ∀ (p : Port) (req : List Byte) (s : State), s.Asks p 0x14 req →
    ((s.port p).access.annotate = false → exec (.retiredTake p) s = .next (s.replied p .denied 0x14 [])) ∧
    ((s.port p).access.annotate = true → s.batch.retired = [] →
      exec (.retiredTake p) s = .next (s.replied p .empty 0x14 [])) ∧
    ∀ (x : Summary) (rest : List Summary), (s.port p).access.annotate = true → s.batch.retired = x :: rest →
      (wordAt req 2 ≠ 0 → wordAt req 2 ≠ x.seq → exec (.retiredTake p) s = .next (s.replied p .conflict 0x14 [])) ∧
      (wordAt req 2 = 0 ∨ wordAt req 2 = x.seq →
        exec (.retiredTake p) s =
          .next (({ s with batch := { s.batch with retired := rest } } : State).replied p .ok 0x14
            (x.part0 rest.length)))

/-- BATCH_RESERVE makes the port's reservation INTACT on the seq and answers part 0 of its record (R133). BATCH_COMMIT
writes the annotation, ends the port's own reservation, breaks every other on that seq, and judges cure and the finished
flag (R131, R135); each is refused by the first check that fails (R133, R134). Bits 7
and 6 of byte 6 of BATCH_COMMIT, which the layout does not use, are ignored (R173; log 18). -/
def Obligations.ReservationsAndCommits : Prop :=
  ∀ (p : Port) (req : List Byte) (s : State),
    (s.Asks p 0x11 req →
      ((s.port p).access.annotate = false → exec (.batchReserve p) s = .next (s.replied p .denied 0x11 [])) ∧
      ((s.port p).access.annotate = true → byteAt req 1 ≠ 1 →
        exec (.batchReserve p) s = .next (s.replied p .range 0x11 [])) ∧
      ((s.port p).access.annotate = true → byteAt req 1 = 1 →
        (∀ r ∈ s.batch.records, r.seq ≠ wordAt req 3) →
        exec (.batchReserve p) s = .next (s.replied p .notFound 0x11 [])) ∧
      ∀ k r, (s.port p).access.annotate = true → byteAt req 1 = 1 → s.batch.Carries k r (wordAt req 3) →
        exec (.batchReserve p) s =
          .next (({ s with batch := { s.batch with
            reservations := s.batch.reservations.set p (.intact (wordAt req 3)) } } : State).replied p .ok 0x11
              (r.part0 k))) ∧
    (s.Asks p 0x12 req →
      ((s.port p).access.annotate = false → exec (.batchCommit p) s = .next (s.replied p .denied 0x12 [])) ∧
      ((s.port p).access.annotate = true → ¬ CommitCodesFit req →
        exec (.batchCommit p) s = .next (s.replied p .range 0x12 [])) ∧
      ((s.port p).access.annotate = true → CommitCodesFit req →
        (s.batch.reservations.get p ≠ .intact (wordAt req 2) → s.batch.reservations.get p ≠ .broken (wordAt req 2) →
          exec (.batchCommit p) s = .next (s.replied p .noReservation 0x12 [])) ∧
        (s.batch.reservations.get p = .broken (wordAt req 2) →
          exec (.batchCommit p) s = .next (s.replied p .lost 0x12 [])) ∧
        ∀ k r, s.batch.reservations.get p = .intact (wordAt req 2) → s.batch.Carries k r (wordAt req 2) →
          ∃ t, exec (.batchCommit p) s = .next t ∧ s.BatchEvent t ∧ s.Annotated t k (r.committed req) ∧
            t.batch.reservations.get p = .none ∧ s.Breaks t (fun _ n => n == wordAt req 2) (· == p) ∧
            s.CureNotices t ∧ s.PostsExactly t (fun n q => s.CureNotice t n ∨ s.LostNotice t n q) ∧
            (∀ r', t.batch.records[k]? = some r' → (s.replied p .ok 0x12 r'.part1).PortsButNotices t)))

/-! ## The tuning table -/

/-- The thirteen rows of the tuning table, each with its lowest and its highest value and its default (R169).
TUNING_WRITE, with no budget write of the port waiting: DENIED without the TUNING permission, RANGE for an index above
12 or a value out of the entry's range (R171); a budget is handed to the arbiter, last of those that wait
(log 14), and its request stays in flight (R172); every other entry takes its value, with a pass for the yield level, the
cure evaluation for a requirement and the fan duty for the lid-vent duty (R45, R126, R82, R169). -/
def Obligations.TuningWriteTakesEffect : Prop :=
  Config.tuningRows.toList.map (fun x => (x.lowest, x.highest, x.default)) =
    [(300, 1800, 900), (0, 16, 8), (50, 100, 70), (0, 65535, 6000), (0, 65535, 1500), (5, 60, 20), (1, 600, 50),
      (10, 500, 30), (120, 220, 190), (80, 150, 120), (30, 100, 70), (0, 100, 60), (100, 2000, 500)] ∧
  ∀ (p : Port) (req : List Byte) (s : State), s.Asks p 0x29 req → (∀ w ∈ s.arbiter.budgetWrites, w.1 ≠ p) →
    ((s.port p).access.tuning = false → exec (.tuningWrite p) s = .next (s.replied p .denied 0x29 [])) ∧
    ((s.port p).access.tuning = true →
      (12 < (byteAt req 1).toNat → exec (.tuningWrite p) s = .next (s.replied p .range 0x29 [])) ∧
      ∀ (k : Fin 13) (v : Nat) (w : State), byteAt req 1 = BitVec.ofNat 8 k.val → (halfAt req 2).toNat = v →
        w = { s with tuning := s.tuning.set k v } →
        (v < (Config.tuningRows.get k).lowest ∨ (Config.tuningRows.get k).highest < v →
          exec (.tuningWrite p) s = .next (s.replied p .range 0x29 [])) ∧
        ((Config.tuningRows.get k).lowest ≤ v → v ≤ (Config.tuningRows.get k).highest →
          (k = 0 → exec (.tuningWrite p) s =
            .next { s with arbiter := { s.arbiter with budgetWrites := s.arbiter.budgetWrites ++ [(p, v)] } }) ∧
          (k = 1 → ∃ t, exec (.tuningWrite p) s = .next t ∧ t.passDue = true ∧
            t.arbiter.requests = s.arbiter.requests ∧
            t = { w.replied p .ok 0x29 [byteAt req 1, byteAt req 2, byteAt req 3] with arbiter := t.arbiter }) ∧
          (k = 3 ∨ k = 4 → ∃ t, exec (.tuningWrite p) s = .next t ∧ w.BatchEvent t ∧
            t.batch = { s.batch with
              records := s.batch.records.map fun r => w.credited r r.dose r.grind, finished := t.batch.finished } ∧
            t.batch.FinishedFits ∧ s.CureNotices t ∧ s.PostsExactly t (fun n _ => s.CureNotice t n) ∧
            (s.replied p .ok 0x29 [byteAt req 1, byteAt req 2, byteAt req 3]).PortsButNotices t) ∧
          (k = 11 → exec (.tuningWrite p) s =
            .next (({ w with drives := { s.drives with fanDuty := w.fanDutyWanted } } : State).replied p .ok 0x29
              [byteAt req 1, byteAt req 2, byteAt req 3])) ∧
          (k ≠ 0 → k ≠ 1 → k ≠ 3 → k ≠ 4 → k ≠ 11 → exec (.tuningWrite p) s =
            .next (w.replied p .ok 0x29 [byteAt req 1, byteAt req 2, byteAt req 3]))))

/-! ## The service link -/

/-- The bits of a row wait with those before them until the 32nd ends the frame (R160). A frame is then taken by its
command: IDLE and an unknown command answer zero with SACK low for 1 period; PEEK answers the word addressed, from the
snapshot or live, with 2 periods; POKE records the address and enters DATA, with 3 periods; WATCH answers the state word
of the last-touched record and TOUCHED its address; CALL posts SERVICE_CALL to every port; RESYNC realigns the link. None
of them changes state outside the link but CALL's notices (R160 to R164, R166, R167). SDO gives the pending answer, most
significant bit first, and SACK is low for its first periods (R160, R161).
That a row brings bits, and does nothing when they end a frame of another kind, is the model's (log 2, log 20). The
snapshot is compared by table and entry (log 34). -/
def Obligations.ServiceFramesAnswer : Prop :=
  (∀ l : Link, l.sdo = l.answer.getLsbD (31 - l.sampled.length) ∧ (l.sackLow = true ↔ l.sampled.length < l.sack)) ∧
  (∀ (s : State) (bits : List Bool) (c : Instr) (run : Nat),
    c ∈ ([.idleFrame bits, .unknownCommandFrame bits, .pokeDataFrame bits, .verifyFrame bits, .watch bits, .touched bits,
      .call bits] : List Instr) →
    onesAfter s.link.onesRun bits = some run → s.link.sampled.length + bits.length < 32 →
    exec c s = .next { s with link := { s.link with sampled := s.link.sampled ++ bits, onesRun := run } }) ∧
  (∀ (s : State) (bits : List Bool) (frame : Word) (run : Nat), s.link.phase = .none → s.TakesFrame bits frame run →
    (frame.extractLsb' 28 4 = 0 → exec (.idleFrame bits) s = .next (s.framed run 0 1)) ∧
    (5 < (frame.extractLsb' 28 4).toNat → exec (.unknownCommandFrame bits) s = .next (s.framed run 0 1)) ∧
    (frame.extractLsb' 28 4 = 3 →
      (s.link.touched = none → exec (.watch bits) s = .next (s.framed run 0 1)) ∧
      (∀ i, s.link.touched = some (.claim i) →
        exec (.watch bits) s = .next (s.framed run ((s.claim i).words.getD 0 0) 1)) ∧
      (∀ k r, s.link.touched = some (.batch k r.seq) → s.batch.records[k]? = some r →
        exec (.watch bits) s = .next (s.framed run ((r.words k).getD 0 0) 1)) ∧
      (∀ k n, s.link.touched = some (.batch k n) → (∀ r, s.batch.records[k]? = some r → r.seq ≠ n) →
        exec (.watch bits) s = .next (s.framed run 0 1))) ∧
    (frame.extractLsb' 28 4 = 4 →
      (s.link.touched = none → exec (.touched bits) s = .next (s.framed run 0 1)) ∧
      (∀ i, s.link.touched = some (.claim i) → exec (.touched bits) s =
        .next (s.framed run (commandFrame 0 (addressBits 1 (BitVec.ofNat 8 i.val) 0 0)) 1)) ∧
      (∀ k n, s.link.touched = some (.batch k n) → exec (.touched bits) s =
        .next (s.framed run (commandFrame 0 (addressBits 2 (BitVec.ofNat 8 k) 0 0)) 1))) ∧
    (frame.extractLsb' 28 4 = 5 →
      ∃ t, exec (.call bits) s = .next t ∧ t = { s.framed run 0 1 with ports := t.ports } ∧
        (∀ q, t.Posted .serviceCall q) ∧ s.PortsButNotices t ∧
        s.PostsExactly t (fun n _ => n = .serviceCall)) ∧
    ∀ c command, (c, command) ∈ ([(.idleFrame bits, 0), (.watch bits, 3), (.touched bits, 4), (.call bits, 5)] :
        List (Instr × BitVec 4)) →
      frame.extractLsb' 28 4 ≠ command → exec c s = .next s) ∧
  (∀ (s : State) (table : BitVec 4) (entry w low : Byte) (run : Nat), s.link.phase = .none →
    (s.TakesFrame ((frameBits (commandFrame 1 (addressBits table entry w low))).drop s.link.sampled.length)
        (commandFrame 1 (addressBits table entry w low)) run →
      (w = 0 → exec (.peek table entry w low) s =
        .next (({ s with link := { s.link with
          snapshot :=
            if s.recordWords table.toNat entry.toNat = [] then none
            else some ⟨table.toNat, entry.toNat, s.recordWords table.toNat entry.toNat⟩ } } : State).framed run
          (s.readWord table.toNat entry.toNat 0) 2)) ∧
      (w ≠ 0 →
        (∀ x, s.link.snapshot = some x → x.table = table.toNat → x.entry = entry.toNat →
          exec (.peek table entry w low) s = .next (s.framed run (x.words.getD w.toNat 0) 2)) ∧
        ((∀ x, s.link.snapshot = some x → x.table ≠ table.toNat ∨ x.entry ≠ entry.toNat) →
          exec (.peek table entry w low) s =
            .next (s.framed run (s.readWord table.toNat entry.toNat w.toNat) 2)))) ∧
    (s.TakesFrame ((frameBits (commandFrame 2 (addressBits table entry w low))).drop s.link.sampled.length)
        (commandFrame 2 (addressBits table entry w low)) run →
      exec (.poke table entry w low) s =
        .next (({ s with link := { s.link with
          phase := .data table.toNat entry.toNat w.toNat
            (if table = 2 then s.batch.records[entry.toNat]?.map (·.seq) else none) } } : State).framed run
          (s.readWord table.toNat entry.toNat w.toNat) 3))) ∧
  ∀ s : State, s.link.sampled.length + (64 - s.link.onesRun) ≤ 32 →
    exec .resync s = .next { s with link := { s.link with
      sampled := [], onesRun := 0, snapshot := none, phase := .none, answer := 0, sack := 4 } }

/-- POKE_DATA_FRAME: a write of any address but a writable word, of a record that is not the one recorded, or of a value
that breaks the word's encoding or range, is refused and changes no state but the link's; an accepted write of a tuning
entry or of an annotation word takes effect as the owner's own, with a pass for the yield level, the cure evaluation for a
requirement and the fan duty for the lid-vent duty, and the answer is the value after it. VERIFY_FRAME ends the POKE with
SACK low for 3 periods or 1 (R45, R82, R126, R161, R164, R165, R174). An override word with the absent mark and other bits
is refused (log 19), an accepted write drops a snapshot of the same table and entry (log 34), and the bits of a row that
ends no frame of its kind do nothing (log 2, log 20): these are the model's. A budget write is stated for the arbiter
between passes with no other write waiting (the model's order with others is log 13; how it calls for a pass is log 8). -/
def Obligations.PokeWritesThroughTheOwner : Prop :=
  ∀ (s : State) (bits : List Bool) (run : Nat) (value : Word), s.TakesFrame bits value run →
    (s.link.phase = .none → exec (.pokeDataFrame bits) s = .next s ∧ exec (.verifyFrame bits) s = .next s) ∧
    (∀ accepted, s.link.phase = .verify accepted →
      exec (.verifyFrame bits) s =
        .next (({ s with link := { s.link with phase := .none } } : State).framed run 0 (if accepted then 3 else 1))) ∧
    (∀ table entry w seq, s.link.phase = .data table entry w seq →
      ((table ≠ 0 ∧ table ≠ 2) ∨ (table = 0 ∧ (w ≠ 0 ∨ 12 < entry ∨ value.extractLsb' 16 16 ≠ 0)) ∨
          (∃ k : Fin 13, table = 0 ∧ entry = k.val ∧
            (value.toNat < (Config.tuningRows.get k).lowest ∨ (Config.tuningRows.get k).highest < value.toNat)) ∨
          (table = 2 ∧ ∀ r, s.batch.records[entry]? = some r → seq ≠ some r.seq ∨ r.poked w value = none) →
        exec (.pokeDataFrame bits) s =
          .next { s with link := s.link.afterData run false (s.readWord table entry w) }) ∧
      (∀ (k : Fin 13) (x : State), table = 0 → entry = k.val → w = 0 →
        (Config.tuningRows.get k).lowest ≤ value.toNat → value.toNat ≤ (Config.tuningRows.get k).highest →
        x = { s with
          tuning := s.tuning.set k value.toNat
          link := { s.link.afterData run true value with snapshot := s.link.snapshotAfter 0 k.val } } →
        (k ≠ 0 → k ≠ 1 → k ≠ 3 → k ≠ 4 → k ≠ 11 → exec (.pokeDataFrame bits) s = .next x) ∧
        (k = 0 → s.arbiter.requests = [] → s.arbiter.budgetWrites = [] →
          (Table.grantedSum s.claims + Table.reductions s.claims ≤ value.toNat →
            exec (.pokeDataFrame bits) s =
              .next { x with arbiter := { s.arbiter with reports := s.arbiter.reports + 1 } }) ∧
          (value.toNat < Table.grantedSum s.claims + Table.reductions s.claims →
            exec (.pokeDataFrame bits) s =
              .next { s with link := s.link.afterData run false (s.readWord 0 0 0) })) ∧
        (k = 1 → ∃ t, exec (.pokeDataFrame bits) s = .next t ∧ t = { x with arbiter := t.arbiter } ∧
          t.passDue = true ∧ t.arbiter.requests = s.arbiter.requests) ∧
        (k = 3 ∨ k = 4 → ∃ t, exec (.pokeDataFrame bits) s = .next t ∧ x.BatchEvent t ∧
          t.batch = { s.batch with
            records := s.batch.records.map fun r => x.credited r r.dose r.grind, finished := t.batch.finished } ∧
          t.batch.FinishedFits ∧ s.CureNotices t ∧ s.PortsButNotices t ∧
          s.PostsExactly t (fun n _ => s.CureNotice t n)) ∧
        (k = 11 → exec (.pokeDataFrame bits) s =
          .next { x with drives := { s.drives with fanDuty := x.fanDutyWanted } })) ∧
      (∀ r x, table = 2 → s.batch.records[entry]? = some r → seq = some r.seq → r.poked w value = some x →
        ∃ t, exec (.pokeDataFrame bits) s = .next t ∧
          t = { s with batch := t.batch, ports := t.ports, link := t.link } ∧ s.Annotated t entry x ∧
          s.Breaks t (fun _ n => n == r.seq) (fun _ => false) ∧ s.CureNotices t ∧ s.PortsButNotices t ∧
          s.PostsExactly t (fun n q => s.CureNotice t n ∨ s.LostNotice t n q) ∧
          t.link = { s.link.afterData run true value with
            snapshot := s.link.snapshotAfter 2 entry, touched := some (.batch entry r.seq) }))

/-- The words of the records of the state image tables carry their fields, each in its place: the tuning value, the claim
entry, the batch record, the summary, the port, the chamber status, the rotor monitor and the ring (R162, R174). An address
with no record reads zero (R162). The kind and target of a claim's word 0 are those of the active copy (the model's,
log 35), and its word 10 is zero while the grant stamp is absent (the model's, log 36). The command in flight of a port is
zero while its flight is IDLE (the model's, log 37), and so are the bits that R174 assigns to no field (the model's,
log 38). -/
def Obligations.ImageWordsCarryTheirFields : Prop :=
  ∀ s : State,
    (∀ k : Fin 13, s.recordWords 0 k.val = [BitVec.ofNat 32 (s.tuning.get k)]) ∧
    (∀ (i : ClaimIdx) (c : Claim) (ws : List Word), s.claim i = c → s.recordWords 1 i.val = ws →
      ws.length = 12 ∧ ws = c.words ∧
      (c.state, (ws.getD 0 0).extractLsb' 24 8) ∈ claimStateCodes ∧
      CarriesOwner ((ws.getD 0 0).extractLsb' 16 8) c.owner ∧
      (c.outcome, (ws.getD 0 0).extractLsb' 8 8) ∈ claimOutcomeCodes ∧
      (c.active.kind, (ws.getD 0 0).extractLsb' 4 4) ∈ kindCodes ∧
      (c.active.target, (ws.getD 0 0).extractLsb' 0 4) ∈ targetCodes ∧
      (∀ j, j < 4 → ws.getD (1 + j) 0 = fourBytes c.active.layoutC j) ∧
      (∀ j, j < 4 → ws.getD (5 + j) 0 = fourBytes c.staged.layoutC j) ∧
      (ws.getD 9 0).extractLsb' 16 16 = BitVec.ofNat 16 c.remRun ∧
      (ws.getD 9 0).extractLsb' 0 16 = BitVec.ofNat 16 c.remDeadline ∧
      (∀ w, c.grantStamp = some w → ws.getD 10 0 = w) ∧ (c.grantStamp = none → ws.getD 10 0 = 0) ∧
      (ws.getD 11 0).getLsbD 0 = c.grantStamp.isSome ∧ (ws.getD 11 0).getLsbD 1 = c.yielded ∧
      (ws.getD 11 0).extractLsb' 2 30 = 0) ∧
    (∀ (k : Nat) (r : BatchRecord) (ws : List Word), k ≤ 7 → s.batch.records[k]? = some r → s.recordWords 2 k = ws →
      ws.length = 10 ∧ ws = r.words k ∧
      (r.state, (ws.getD 0 0).extractLsb' 24 8) ∈ batchStateCodes ∧
      (ws.getD 0 0).extractLsb' 0 24 = r.seq.extractLsb' 0 24 ∧ ws.getD 1 0 = r.seq ∧
      ws.getD 2 0 = r.tag.setWidth 32 ∧
      (r.doseOverride = none → ws.getD 3 0 = 0x80000000) ∧ (∀ v, r.doseOverride = some v → ws.getD 3 0 = v.setWidth 32) ∧
      (r.grindOverride = none → ws.getD 4 0 = 0x80000000) ∧
      (∀ v, r.grindOverride = some v → ws.getD 4 0 = v.setWidth 32) ∧
      (r.mass = none → ws.getD 5 0 = 0x80000000) ∧ (∀ g, r.mass = some g → ws.getD 5 0 = BitVec.ofNat 32 g) ∧
      (ws.getD 6 0).extractLsb' 16 16 = BitVec.ofNat 16 r.dose ∧
      (ws.getD 6 0).extractLsb' 0 16 = BitVec.ofNat 16 r.grind ∧ ws.getD 7 0 = r.openedAt ∧
      (∀ w, r.curedAt = some w → ws.getD 8 0 = w) ∧ (r.curedAt = none → ws.getD 8 0 = 0) ∧
      ((ws.getD 9 0).extractLsb' 0 8).toNat = k ∧ (ws.getD 9 0).getLsbD 8 = r.merged ∧
      (ws.getD 9 0).getLsbD 9 = r.curedAt.isSome ∧ (ws.getD 9 0).extractLsb' 10 22 = 0) ∧
    (∀ (k : Nat) (x : Summary) (ws : List Word), s.batch.retired[k]? = some x → s.recordWords 3 k = ws →
      ws.length = 7 ∧ ws.getD 0 0 = x.seq ∧
      (ws.getD 1 0).extractLsb' 24 8 = (if x.finished then 1 else 2) ∧ (ws.getD 1 0).getLsbD 16 = x.overrun ∧
      (ws.getD 1 0).extractLsb' 17 7 = 0 ∧ CarriesMass ((ws.getD 1 0).extractLsb' 0 16) x.mass ∧
      (ws.getD 2 0).extractLsb' 16 16 = BitVec.ofNat 16 x.dose ∧
      (ws.getD 2 0).extractLsb' 0 16 = BitVec.ofNat 16 x.grind ∧ ws.getD 3 0 = x.openedAt ∧
      (∀ w, x.curedAt = some w → ws.getD 4 0 = w) ∧ (x.curedAt = none → ws.getD 4 0 = 0) ∧
      ws.getD 5 0 = x.retiredAt ∧ ws.getD 6 0 = x.tag.setWidth 32) ∧
    (∀ (p : Port) (q : PortState) (ws : List Word), s.port p = q → s.recordWords 4 p.val = ws →
      ws.length = 5 ∧ (q.cls, (ws.getD 0 0).extractLsb' 24 8) ∈ classCodes ∧
      (ws.getD 0 0).getLsbD 16 = q.flight.isSome ∧ (ws.getD 0 0).extractLsb' 17 7 = 0 ∧
      (∀ req, q.flight = some req → (ws.getD 0 0).extractLsb' 8 8 = byteAt req 0) ∧
      (q.flight = none → (ws.getD 0 0).extractLsb' 8 8 = 0) ∧ (ws.getD 0 0).getLsbD 0 = q.attn ∧
      (ws.getD 0 0).extractLsb' 1 7 = 0 ∧ ws.getD 1 0 = fourBytes ([q.cls.code] ++ q.access.bytes) 0 ∧
      ws.getD 2 0 = q.notices.setWidth 32 ∧ ∀ j, j < 2 → ws.getD (3 + j) 0 = fourBytes q.levelBytes j) ∧
    (∀ ws : List Word, s.recordWords 5 0 = ws →
      ws.length = 9 ∧ (∀ j, j < 4 → ws.getD j 0 = fourBytes s.statusPart0 j) ∧
      (∀ j, j < 4 → ws.getD (4 + j) 0 = fourBytes s.statusPart1 j) ∧ (ws.getD 8 0).getLsbD 0 = s.drives.heaterOn ∧
      (ws.getD 8 0).extractLsb' 8 8 = BitVec.ofNat 8 s.drives.fanDuty ∧ (ws.getD 8 0).extractLsb' 1 7 = 0 ∧
      (ws.getD 8 0).extractLsb' 16 16 = 0) ∧
    (∀ ws : List Word, s.recordWords 6 0 = ws →
      ws.length = 4 ∧ ∀ j, j < 4 → ws.getD j 0 = fourBytes (s.rotor.part 0) j) ∧
    (∀ (k : Nat) (x : PulseRecord), k ≤ 7 → s.rotor.ring[k]? = some x →
      s.recordWords 6 (k + 1) = [x.stamp, fourBytes [x.ringByte] 0]) ∧
    (∀ table entry, 6 < table ∨ (table = 0 ∧ 12 < entry) ∨ (table = 1 ∧ 15 < entry) ∨
        (table = 2 ∧ s.batch.records.length ≤ entry) ∨ (table = 3 ∧ s.batch.retired.length ≤ entry) ∨
        (table = 4 ∧ 2 < entry) ∨ (table = 5 ∧ 0 < entry) ∨ (table = 6 ∧ (8 < entry ∨ s.rotor.ring.length < entry)) →
      s.recordWords table entry = []) ∧
    ∀ table entry w, (s.recordWords table entry).length ≤ w → s.readWord table entry w = 0

end
end

