-- ==== Sys2Proof/Laws/State.lean ====
section
/-! SUPPORT. One lemma per field per update of State, each true by rfl, so that no later proof unfolds a record update. -/

namespace Sys2Proof.Machine

/-! ### State.setClaim -/

@[simp] theorem State.setClaim_claims (s : State) (i : ClaimIdx) (c : Claim) : (s.setClaim i c).claims = s.claims.set i c := rfl
@[simp] theorem State.setClaim_arbiter (s : State) (i : ClaimIdx) (c : Claim) : (s.setClaim i c).arbiter = s.arbiter := rfl
@[simp] theorem State.setClaim_interlock (s : State) (i : ClaimIdx) (c : Claim) : (s.setClaim i c).interlock = s.interlock := rfl
@[simp] theorem State.setClaim_sensors (s : State) (i : ClaimIdx) (c : Claim) : (s.setClaim i c).sensors = s.sensors := rfl
@[simp] theorem State.setClaim_drives (s : State) (i : ClaimIdx) (c : Claim) : (s.setClaim i c).drives = s.drives := rfl
@[simp] theorem State.setClaim_rotor (s : State) (i : ClaimIdx) (c : Claim) : (s.setClaim i c).rotor = s.rotor := rfl
@[simp] theorem State.setClaim_batch (s : State) (i : ClaimIdx) (c : Claim) : (s.setClaim i c).batch = s.batch := rfl
@[simp] theorem State.setClaim_ports (s : State) (i : ClaimIdx) (c : Claim) : (s.setClaim i c).ports = s.ports := rfl
@[simp] theorem State.setClaim_tuning (s : State) (i : ClaimIdx) (c : Claim) : (s.setClaim i c).tuning = s.tuning := rfl
@[simp] theorem State.setClaim_link (s : State) (i : ClaimIdx) (c : Claim) : (s.setClaim i c).link = s.link := rfl
@[simp] theorem State.setClaim_time (s : State) (i : ClaimIdx) (c : Claim) : (s.setClaim i c).time = s.time := rfl
@[simp] theorem State.setClaim_pending (s : State) (i : ClaimIdx) (c : Claim) : (s.setClaim i c).pending = s.pending := rfl

/-! ### State.updPort -/

@[simp] theorem State.updPort_claims (s : State) (p : Port) (f : PortState → PortState) : (s.updPort p f).claims = s.claims := rfl
@[simp] theorem State.updPort_arbiter (s : State) (p : Port) (f : PortState → PortState) : (s.updPort p f).arbiter = s.arbiter := rfl
@[simp] theorem State.updPort_interlock (s : State) (p : Port) (f : PortState → PortState) : (s.updPort p f).interlock = s.interlock := rfl
@[simp] theorem State.updPort_sensors (s : State) (p : Port) (f : PortState → PortState) : (s.updPort p f).sensors = s.sensors := rfl
@[simp] theorem State.updPort_drives (s : State) (p : Port) (f : PortState → PortState) : (s.updPort p f).drives = s.drives := rfl
@[simp] theorem State.updPort_rotor (s : State) (p : Port) (f : PortState → PortState) : (s.updPort p f).rotor = s.rotor := rfl
@[simp] theorem State.updPort_batch (s : State) (p : Port) (f : PortState → PortState) : (s.updPort p f).batch = s.batch := rfl
@[simp] theorem State.updPort_ports (s : State) (p : Port) (f : PortState → PortState) : (s.updPort p f).ports = s.ports.set p (f (s.port p)).refresh := rfl
@[simp] theorem State.updPort_tuning (s : State) (p : Port) (f : PortState → PortState) : (s.updPort p f).tuning = s.tuning := rfl
@[simp] theorem State.updPort_link (s : State) (p : Port) (f : PortState → PortState) : (s.updPort p f).link = s.link := rfl
@[simp] theorem State.updPort_time (s : State) (p : Port) (f : PortState → PortState) : (s.updPort p f).time = s.time := rfl
@[simp] theorem State.updPort_pending (s : State) (p : Port) (f : PortState → PortState) : (s.updPort p f).pending = s.pending := rfl

/-! ### State.post -/

@[simp] theorem State.post_claims (s : State) (n : Source) (p : Port) : (s.post n p).claims = s.claims := rfl
@[simp] theorem State.post_arbiter (s : State) (n : Source) (p : Port) : (s.post n p).arbiter = s.arbiter := rfl
@[simp] theorem State.post_interlock (s : State) (n : Source) (p : Port) : (s.post n p).interlock = s.interlock := rfl
@[simp] theorem State.post_sensors (s : State) (n : Source) (p : Port) : (s.post n p).sensors = s.sensors := rfl
@[simp] theorem State.post_drives (s : State) (n : Source) (p : Port) : (s.post n p).drives = s.drives := rfl
@[simp] theorem State.post_rotor (s : State) (n : Source) (p : Port) : (s.post n p).rotor = s.rotor := rfl
@[simp] theorem State.post_batch (s : State) (n : Source) (p : Port) : (s.post n p).batch = s.batch := rfl
@[simp] theorem State.post_tuning (s : State) (n : Source) (p : Port) : (s.post n p).tuning = s.tuning := rfl
@[simp] theorem State.post_link (s : State) (n : Source) (p : Port) : (s.post n p).link = s.link := rfl
@[simp] theorem State.post_time (s : State) (n : Source) (p : Port) : (s.post n p).time = s.time := rfl
@[simp] theorem State.post_pending (s : State) (n : Source) (p : Port) : (s.post n p).pending = s.pending := rfl

/-! ### State.postAll -/

@[simp] theorem State.postAll_claims (s : State) (n : Source) : (s.postAll n).claims = s.claims := rfl
@[simp] theorem State.postAll_arbiter (s : State) (n : Source) : (s.postAll n).arbiter = s.arbiter := rfl
@[simp] theorem State.postAll_interlock (s : State) (n : Source) : (s.postAll n).interlock = s.interlock := rfl
@[simp] theorem State.postAll_sensors (s : State) (n : Source) : (s.postAll n).sensors = s.sensors := rfl
@[simp] theorem State.postAll_drives (s : State) (n : Source) : (s.postAll n).drives = s.drives := rfl
@[simp] theorem State.postAll_rotor (s : State) (n : Source) : (s.postAll n).rotor = s.rotor := rfl
@[simp] theorem State.postAll_batch (s : State) (n : Source) : (s.postAll n).batch = s.batch := rfl
@[simp] theorem State.postAll_tuning (s : State) (n : Source) : (s.postAll n).tuning = s.tuning := rfl
@[simp] theorem State.postAll_link (s : State) (n : Source) : (s.postAll n).link = s.link := rfl
@[simp] theorem State.postAll_time (s : State) (n : Source) : (s.postAll n).time = s.time := rfl
@[simp] theorem State.postAll_pending (s : State) (n : Source) : (s.postAll n).pending = s.pending := rfl

/-! ### State.answer -/

@[simp] theorem State.answer_claims (s : State) (p : Port) (st : Status) (data : List Byte) : (s.answer p st data).claims = s.claims := rfl
@[simp] theorem State.answer_arbiter (s : State) (p : Port) (st : Status) (data : List Byte) : (s.answer p st data).arbiter = s.arbiter := rfl
@[simp] theorem State.answer_interlock (s : State) (p : Port) (st : Status) (data : List Byte) : (s.answer p st data).interlock = s.interlock := rfl
@[simp] theorem State.answer_sensors (s : State) (p : Port) (st : Status) (data : List Byte) : (s.answer p st data).sensors = s.sensors := rfl
@[simp] theorem State.answer_drives (s : State) (p : Port) (st : Status) (data : List Byte) : (s.answer p st data).drives = s.drives := rfl
@[simp] theorem State.answer_rotor (s : State) (p : Port) (st : Status) (data : List Byte) : (s.answer p st data).rotor = s.rotor := rfl
@[simp] theorem State.answer_batch (s : State) (p : Port) (st : Status) (data : List Byte) : (s.answer p st data).batch = s.batch := rfl
@[simp] theorem State.answer_tuning (s : State) (p : Port) (st : Status) (data : List Byte) : (s.answer p st data).tuning = s.tuning := rfl
@[simp] theorem State.answer_link (s : State) (p : Port) (st : Status) (data : List Byte) : (s.answer p st data).link = s.link := rfl
@[simp] theorem State.answer_time (s : State) (p : Port) (st : Status) (data : List Byte) : (s.answer p st data).time = s.time := rfl
@[simp] theorem State.answer_pending (s : State) (p : Port) (st : Status) (data : List Byte) : (s.answer p st data).pending = s.pending := rfl

/-! ### State.refuse -/

@[simp] theorem State.refuse_claims (s : State) (p : Port) (st : Status) : (s.refuse p st).claims = s.claims := rfl
@[simp] theorem State.refuse_arbiter (s : State) (p : Port) (st : Status) : (s.refuse p st).arbiter = s.arbiter := rfl
@[simp] theorem State.refuse_interlock (s : State) (p : Port) (st : Status) : (s.refuse p st).interlock = s.interlock := rfl
@[simp] theorem State.refuse_sensors (s : State) (p : Port) (st : Status) : (s.refuse p st).sensors = s.sensors := rfl
@[simp] theorem State.refuse_drives (s : State) (p : Port) (st : Status) : (s.refuse p st).drives = s.drives := rfl
@[simp] theorem State.refuse_rotor (s : State) (p : Port) (st : Status) : (s.refuse p st).rotor = s.rotor := rfl
@[simp] theorem State.refuse_batch (s : State) (p : Port) (st : Status) : (s.refuse p st).batch = s.batch := rfl
@[simp] theorem State.refuse_tuning (s : State) (p : Port) (st : Status) : (s.refuse p st).tuning = s.tuning := rfl
@[simp] theorem State.refuse_link (s : State) (p : Port) (st : Status) : (s.refuse p st).link = s.link := rfl
@[simp] theorem State.refuse_time (s : State) (p : Port) (st : Status) : (s.refuse p st).time = s.time := rfl
@[simp] theorem State.refuse_pending (s : State) (p : Port) (st : Status) : (s.refuse p st).pending = s.pending := rfl

/-! ### State.writeAccess -/

@[simp] theorem State.writeAccess_claims (s : State) (m : Port) (acc : Access) : (s.writeAccess m acc).claims = s.claims := rfl
@[simp] theorem State.writeAccess_arbiter (s : State) (m : Port) (acc : Access) : (s.writeAccess m acc).arbiter = s.arbiter := rfl
@[simp] theorem State.writeAccess_interlock (s : State) (m : Port) (acc : Access) : (s.writeAccess m acc).interlock = s.interlock := rfl
@[simp] theorem State.writeAccess_sensors (s : State) (m : Port) (acc : Access) : (s.writeAccess m acc).sensors = s.sensors := rfl
@[simp] theorem State.writeAccess_drives (s : State) (m : Port) (acc : Access) : (s.writeAccess m acc).drives = s.drives := rfl
@[simp] theorem State.writeAccess_rotor (s : State) (m : Port) (acc : Access) : (s.writeAccess m acc).rotor = s.rotor := rfl
@[simp] theorem State.writeAccess_batch (s : State) (m : Port) (acc : Access) : (s.writeAccess m acc).batch = s.batch := rfl
@[simp] theorem State.writeAccess_tuning (s : State) (m : Port) (acc : Access) : (s.writeAccess m acc).tuning = s.tuning := rfl
@[simp] theorem State.writeAccess_link (s : State) (m : Port) (acc : Access) : (s.writeAccess m acc).link = s.link := rfl
@[simp] theorem State.writeAccess_time (s : State) (m : Port) (acc : Access) : (s.writeAccess m acc).time = s.time := rfl
@[simp] theorem State.writeAccess_pending (s : State) (m : Port) (acc : Access) : (s.writeAccess m acc).pending = s.pending := rfl

/-! ### State.activate -/

@[simp] theorem State.activate_claims (s : State) (c : Cause) : (s.activate c).claims = s.claims := rfl
@[simp] theorem State.activate_arbiter (s : State) (c : Cause) : (s.activate c).arbiter = s.arbiter := rfl
@[simp] theorem State.activate_sensors (s : State) (c : Cause) : (s.activate c).sensors = s.sensors := rfl
@[simp] theorem State.activate_drives (s : State) (c : Cause) : (s.activate c).drives = s.drives := rfl
@[simp] theorem State.activate_rotor (s : State) (c : Cause) : (s.activate c).rotor = s.rotor := rfl
@[simp] theorem State.activate_batch (s : State) (c : Cause) : (s.activate c).batch = s.batch := rfl
@[simp] theorem State.activate_ports (s : State) (c : Cause) : (s.activate c).ports = s.ports := rfl
@[simp] theorem State.activate_tuning (s : State) (c : Cause) : (s.activate c).tuning = s.tuning := rfl
@[simp] theorem State.activate_link (s : State) (c : Cause) : (s.activate c).link = s.link := rfl
@[simp] theorem State.activate_time (s : State) (c : Cause) : (s.activate c).time = s.time := rfl
@[simp] theorem State.activate_pending (s : State) (c : Cause) : (s.activate c).pending = s.pending := rfl

/-! ### State.deactivate -/

@[simp] theorem State.deactivate_claims (s : State) (c : Cause) : (s.deactivate c).claims = s.claims := rfl
@[simp] theorem State.deactivate_arbiter (s : State) (c : Cause) : (s.deactivate c).arbiter = s.arbiter := rfl
@[simp] theorem State.deactivate_sensors (s : State) (c : Cause) : (s.deactivate c).sensors = s.sensors := rfl
@[simp] theorem State.deactivate_drives (s : State) (c : Cause) : (s.deactivate c).drives = s.drives := rfl
@[simp] theorem State.deactivate_rotor (s : State) (c : Cause) : (s.deactivate c).rotor = s.rotor := rfl
@[simp] theorem State.deactivate_batch (s : State) (c : Cause) : (s.deactivate c).batch = s.batch := rfl
@[simp] theorem State.deactivate_ports (s : State) (c : Cause) : (s.deactivate c).ports = s.ports := rfl
@[simp] theorem State.deactivate_tuning (s : State) (c : Cause) : (s.deactivate c).tuning = s.tuning := rfl
@[simp] theorem State.deactivate_link (s : State) (c : Cause) : (s.deactivate c).link = s.link := rfl
@[simp] theorem State.deactivate_time (s : State) (c : Cause) : (s.deactivate c).time = s.time := rfl
@[simp] theorem State.deactivate_pending (s : State) (c : Cause) : (s.deactivate c).pending = s.pending := rfl

/-! ### State.judgeDisagreement -/

@[simp] theorem State.judgeDisagreement_claims (s : State) : (s.judgeDisagreement).claims = s.claims := rfl
@[simp] theorem State.judgeDisagreement_arbiter (s : State) : (s.judgeDisagreement).arbiter = s.arbiter := rfl
@[simp] theorem State.judgeDisagreement_interlock (s : State) : (s.judgeDisagreement).interlock = s.interlock.judgeDisagreement s.time := rfl
@[simp] theorem State.judgeDisagreement_sensors (s : State) : (s.judgeDisagreement).sensors = s.sensors := rfl
@[simp] theorem State.judgeDisagreement_drives (s : State) : (s.judgeDisagreement).drives = s.drives := rfl
@[simp] theorem State.judgeDisagreement_rotor (s : State) : (s.judgeDisagreement).rotor = s.rotor := rfl
@[simp] theorem State.judgeDisagreement_batch (s : State) : (s.judgeDisagreement).batch = s.batch := rfl
@[simp] theorem State.judgeDisagreement_ports (s : State) : (s.judgeDisagreement).ports = s.ports := rfl
@[simp] theorem State.judgeDisagreement_tuning (s : State) : (s.judgeDisagreement).tuning = s.tuning := rfl
@[simp] theorem State.judgeDisagreement_link (s : State) : (s.judgeDisagreement).link = s.link := rfl
@[simp] theorem State.judgeDisagreement_time (s : State) : (s.judgeDisagreement).time = s.time := rfl
@[simp] theorem State.judgeDisagreement_pending (s : State) : (s.judgeDisagreement).pending = s.pending := rfl

/-! ### State.judgeHeater -/

@[simp] theorem State.judgeHeater_claims (s : State) : (s.judgeHeater).claims = s.claims := rfl
@[simp] theorem State.judgeHeater_arbiter (s : State) : (s.judgeHeater).arbiter = s.arbiter := rfl
@[simp] theorem State.judgeHeater_interlock (s : State) : (s.judgeHeater).interlock = s.interlock := rfl
@[simp] theorem State.judgeHeater_sensors (s : State) : (s.judgeHeater).sensors = s.sensors := rfl
@[simp] theorem State.judgeHeater_rotor (s : State) : (s.judgeHeater).rotor = s.rotor := rfl
@[simp] theorem State.judgeHeater_batch (s : State) : (s.judgeHeater).batch = s.batch := rfl
@[simp] theorem State.judgeHeater_ports (s : State) : (s.judgeHeater).ports = s.ports := rfl
@[simp] theorem State.judgeHeater_tuning (s : State) : (s.judgeHeater).tuning = s.tuning := rfl
@[simp] theorem State.judgeHeater_link (s : State) : (s.judgeHeater).link = s.link := rfl
@[simp] theorem State.judgeHeater_time (s : State) : (s.judgeHeater).time = s.time := rfl
@[simp] theorem State.judgeHeater_pending (s : State) : (s.judgeHeater).pending = s.pending := rfl

/-! ### State.followFan -/

@[simp] theorem State.followFan_claims (s : State) : (s.followFan).claims = s.claims := rfl
@[simp] theorem State.followFan_arbiter (s : State) : (s.followFan).arbiter = s.arbiter := rfl
@[simp] theorem State.followFan_interlock (s : State) : (s.followFan).interlock = s.interlock := rfl
@[simp] theorem State.followFan_sensors (s : State) : (s.followFan).sensors = s.sensors := rfl
@[simp] theorem State.followFan_rotor (s : State) : (s.followFan).rotor = s.rotor := rfl
@[simp] theorem State.followFan_batch (s : State) : (s.followFan).batch = s.batch := rfl
@[simp] theorem State.followFan_ports (s : State) : (s.followFan).ports = s.ports := rfl
@[simp] theorem State.followFan_tuning (s : State) : (s.followFan).tuning = s.tuning := rfl
@[simp] theorem State.followFan_link (s : State) : (s.followFan).link = s.link := rfl
@[simp] theorem State.followFan_time (s : State) : (s.followFan).time = s.time := rfl
@[simp] theorem State.followFan_pending (s : State) : (s.followFan).pending = s.pending := rfl

/-! ### State.touchClaims -/

@[simp] theorem State.touchClaims_claims (s : State) (old : Table) : (s.touchClaims old).claims = s.claims := rfl
@[simp] theorem State.touchClaims_arbiter (s : State) (old : Table) : (s.touchClaims old).arbiter = s.arbiter := rfl
@[simp] theorem State.touchClaims_interlock (s : State) (old : Table) : (s.touchClaims old).interlock = s.interlock := rfl
@[simp] theorem State.touchClaims_sensors (s : State) (old : Table) : (s.touchClaims old).sensors = s.sensors := rfl
@[simp] theorem State.touchClaims_drives (s : State) (old : Table) : (s.touchClaims old).drives = s.drives := rfl
@[simp] theorem State.touchClaims_rotor (s : State) (old : Table) : (s.touchClaims old).rotor = s.rotor := rfl
@[simp] theorem State.touchClaims_batch (s : State) (old : Table) : (s.touchClaims old).batch = s.batch := rfl
@[simp] theorem State.touchClaims_ports (s : State) (old : Table) : (s.touchClaims old).ports = s.ports := rfl
@[simp] theorem State.touchClaims_tuning (s : State) (old : Table) : (s.touchClaims old).tuning = s.tuning := rfl
@[simp] theorem State.touchClaims_time (s : State) (old : Table) : (s.touchClaims old).time = s.time := rfl
@[simp] theorem State.touchClaims_pending (s : State) (old : Table) : (s.touchClaims old).pending = s.pending := rfl

/-! ### State.handSecured -/

@[simp] theorem State.handSecured_claims (s : State) (e : SecuredEvent) : (s.handSecured e).claims = s.claims := rfl
@[simp] theorem State.handSecured_arbiter (s : State) (e : SecuredEvent) : (s.handSecured e).arbiter = s.arbiter := rfl
@[simp] theorem State.handSecured_interlock (s : State) (e : SecuredEvent) : (s.handSecured e).interlock = s.interlock := rfl
@[simp] theorem State.handSecured_sensors (s : State) (e : SecuredEvent) : (s.handSecured e).sensors = s.sensors := rfl
@[simp] theorem State.handSecured_drives (s : State) (e : SecuredEvent) : (s.handSecured e).drives = s.drives := rfl
@[simp] theorem State.handSecured_rotor (s : State) (e : SecuredEvent) : (s.handSecured e).rotor = s.rotor := rfl
@[simp] theorem State.handSecured_ports (s : State) (e : SecuredEvent) : (s.handSecured e).ports = s.ports := rfl
@[simp] theorem State.handSecured_tuning (s : State) (e : SecuredEvent) : (s.handSecured e).tuning = s.tuning := rfl
@[simp] theorem State.handSecured_link (s : State) (e : SecuredEvent) : (s.handSecured e).link = s.link := rfl
@[simp] theorem State.handSecured_time (s : State) (e : SecuredEvent) : (s.handSecured e).time = s.time := rfl
@[simp] theorem State.handSecured_pending (s : State) (e : SecuredEvent) : (s.handSecured e).pending = s.pending := rfl

/-! ### State.handBin -/

@[simp] theorem State.handBin_claims (s : State) (e : BinEvent) : (s.handBin e).claims = s.claims := rfl
@[simp] theorem State.handBin_arbiter (s : State) (e : BinEvent) : (s.handBin e).arbiter = s.arbiter := rfl
@[simp] theorem State.handBin_interlock (s : State) (e : BinEvent) : (s.handBin e).interlock = s.interlock := rfl
@[simp] theorem State.handBin_sensors (s : State) (e : BinEvent) : (s.handBin e).sensors = s.sensors := rfl
@[simp] theorem State.handBin_drives (s : State) (e : BinEvent) : (s.handBin e).drives = s.drives := rfl
@[simp] theorem State.handBin_rotor (s : State) (e : BinEvent) : (s.handBin e).rotor = s.rotor := rfl
@[simp] theorem State.handBin_ports (s : State) (e : BinEvent) : (s.handBin e).ports = s.ports := rfl
@[simp] theorem State.handBin_tuning (s : State) (e : BinEvent) : (s.handBin e).tuning = s.tuning := rfl
@[simp] theorem State.handBin_link (s : State) (e : BinEvent) : (s.handBin e).link = s.link := rfl
@[simp] theorem State.handBin_time (s : State) (e : BinEvent) : (s.handBin e).time = s.time := rfl
@[simp] theorem State.handBin_pending (s : State) (e : BinEvent) : (s.handBin e).pending = s.pending := rfl

/-! ### State.setRecords -/

@[simp] theorem State.setRecords_claims (s : State) (records : List BatchRecord) : (s.setRecords records).claims = s.claims := rfl
@[simp] theorem State.setRecords_arbiter (s : State) (records : List BatchRecord) : (s.setRecords records).arbiter = s.arbiter := rfl
@[simp] theorem State.setRecords_interlock (s : State) (records : List BatchRecord) : (s.setRecords records).interlock = s.interlock := rfl
@[simp] theorem State.setRecords_sensors (s : State) (records : List BatchRecord) : (s.setRecords records).sensors = s.sensors := rfl
@[simp] theorem State.setRecords_drives (s : State) (records : List BatchRecord) : (s.setRecords records).drives = s.drives := rfl
@[simp] theorem State.setRecords_rotor (s : State) (records : List BatchRecord) : (s.setRecords records).rotor = s.rotor := rfl
@[simp] theorem State.setRecords_ports (s : State) (records : List BatchRecord) : (s.setRecords records).ports = s.ports := rfl
@[simp] theorem State.setRecords_tuning (s : State) (records : List BatchRecord) : (s.setRecords records).tuning = s.tuning := rfl
@[simp] theorem State.setRecords_link (s : State) (records : List BatchRecord) : (s.setRecords records).link = s.link := rfl
@[simp] theorem State.setRecords_time (s : State) (records : List BatchRecord) : (s.setRecords records).time = s.time := rfl
@[simp] theorem State.setRecords_pending (s : State) (records : List BatchRecord) : (s.setRecords records).pending = s.pending := rfl

/-! ### State.setReservation -/

@[simp] theorem State.setReservation_claims (s : State) (p : Port) (v : Reservation) : (s.setReservation p v).claims = s.claims := rfl
@[simp] theorem State.setReservation_arbiter (s : State) (p : Port) (v : Reservation) : (s.setReservation p v).arbiter = s.arbiter := rfl
@[simp] theorem State.setReservation_interlock (s : State) (p : Port) (v : Reservation) : (s.setReservation p v).interlock = s.interlock := rfl
@[simp] theorem State.setReservation_sensors (s : State) (p : Port) (v : Reservation) : (s.setReservation p v).sensors = s.sensors := rfl
@[simp] theorem State.setReservation_drives (s : State) (p : Port) (v : Reservation) : (s.setReservation p v).drives = s.drives := rfl
@[simp] theorem State.setReservation_rotor (s : State) (p : Port) (v : Reservation) : (s.setReservation p v).rotor = s.rotor := rfl
@[simp] theorem State.setReservation_ports (s : State) (p : Port) (v : Reservation) : (s.setReservation p v).ports = s.ports := rfl
@[simp] theorem State.setReservation_tuning (s : State) (p : Port) (v : Reservation) : (s.setReservation p v).tuning = s.tuning := rfl
@[simp] theorem State.setReservation_link (s : State) (p : Port) (v : Reservation) : (s.setReservation p v).link = s.link := rfl
@[simp] theorem State.setReservation_time (s : State) (p : Port) (v : Reservation) : (s.setReservation p v).time = s.time := rfl
@[simp] theorem State.setReservation_pending (s : State) (p : Port) (v : Reservation) : (s.setReservation p v).pending = s.pending := rfl

/-! ### State.setSettle -/

@[simp] theorem State.setSettle_claims (s : State) (v : Settle) : (s.setSettle v).claims = s.claims := rfl
@[simp] theorem State.setSettle_arbiter (s : State) (v : Settle) : (s.setSettle v).arbiter = s.arbiter := rfl
@[simp] theorem State.setSettle_interlock (s : State) (v : Settle) : (s.setSettle v).interlock = s.interlock := rfl
@[simp] theorem State.setSettle_sensors (s : State) (v : Settle) : (s.setSettle v).sensors = s.sensors := rfl
@[simp] theorem State.setSettle_drives (s : State) (v : Settle) : (s.setSettle v).drives = s.drives := rfl
@[simp] theorem State.setSettle_rotor (s : State) (v : Settle) : (s.setSettle v).rotor = s.rotor := rfl
@[simp] theorem State.setSettle_ports (s : State) (v : Settle) : (s.setSettle v).ports = s.ports := rfl
@[simp] theorem State.setSettle_tuning (s : State) (v : Settle) : (s.setSettle v).tuning = s.tuning := rfl
@[simp] theorem State.setSettle_link (s : State) (v : Settle) : (s.setSettle v).link = s.link := rfl
@[simp] theorem State.setSettle_time (s : State) (v : Settle) : (s.setSettle v).time = s.time := rfl
@[simp] theorem State.setSettle_pending (s : State) (v : Settle) : (s.setSettle v).pending = s.pending := rfl

/-! ### State.creditDose -/

@[simp] theorem State.creditDose_claims (s : State) : (s.creditDose).claims = s.claims := rfl
@[simp] theorem State.creditDose_arbiter (s : State) : (s.creditDose).arbiter = s.arbiter := rfl
@[simp] theorem State.creditDose_interlock (s : State) : (s.creditDose).interlock = s.interlock := rfl
@[simp] theorem State.creditDose_sensors (s : State) : (s.creditDose).sensors = s.sensors := rfl
@[simp] theorem State.creditDose_drives (s : State) : (s.creditDose).drives = s.drives := rfl
@[simp] theorem State.creditDose_rotor (s : State) : (s.creditDose).rotor = s.rotor := rfl
@[simp] theorem State.creditDose_ports (s : State) : (s.creditDose).ports = s.ports := rfl
@[simp] theorem State.creditDose_tuning (s : State) : (s.creditDose).tuning = s.tuning := rfl
@[simp] theorem State.creditDose_link (s : State) : (s.creditDose).link = s.link := rfl
@[simp] theorem State.creditDose_time (s : State) : (s.creditDose).time = s.time := rfl
@[simp] theorem State.creditDose_pending (s : State) : (s.creditDose).pending = s.pending := rfl

/-! ### State.judgeDryRun -/

@[simp] theorem State.judgeDryRun_claims (s : State) (h : HumidityReading) : (s.judgeDryRun h).claims = s.claims := rfl
@[simp] theorem State.judgeDryRun_arbiter (s : State) (h : HumidityReading) : (s.judgeDryRun h).arbiter = s.arbiter := rfl
@[simp] theorem State.judgeDryRun_interlock (s : State) (h : HumidityReading) : (s.judgeDryRun h).interlock = s.interlock := rfl
@[simp] theorem State.judgeDryRun_sensors (s : State) (h : HumidityReading) : (s.judgeDryRun h).sensors = s.sensors := rfl
@[simp] theorem State.judgeDryRun_drives (s : State) (h : HumidityReading) : (s.judgeDryRun h).drives = s.drives := rfl
@[simp] theorem State.judgeDryRun_rotor (s : State) (h : HumidityReading) : (s.judgeDryRun h).rotor = s.rotor := rfl
@[simp] theorem State.judgeDryRun_ports (s : State) (h : HumidityReading) : (s.judgeDryRun h).ports = s.ports := rfl
@[simp] theorem State.judgeDryRun_tuning (s : State) (h : HumidityReading) : (s.judgeDryRun h).tuning = s.tuning := rfl
@[simp] theorem State.judgeDryRun_link (s : State) (h : HumidityReading) : (s.judgeDryRun h).link = s.link := rfl
@[simp] theorem State.judgeDryRun_time (s : State) (h : HumidityReading) : (s.judgeDryRun h).time = s.time := rfl
@[simp] theorem State.judgeDryRun_pending (s : State) (h : HumidityReading) : (s.judgeDryRun h).pending = s.pending := rfl

/-! ### State.retireRecords -/

@[simp] theorem State.retireRecords_claims (s : State) : (s.retireRecords).claims = s.claims := rfl
@[simp] theorem State.retireRecords_arbiter (s : State) : (s.retireRecords).arbiter = s.arbiter := rfl
@[simp] theorem State.retireRecords_interlock (s : State) : (s.retireRecords).interlock = s.interlock := rfl
@[simp] theorem State.retireRecords_sensors (s : State) : (s.retireRecords).sensors = s.sensors := rfl
@[simp] theorem State.retireRecords_drives (s : State) : (s.retireRecords).drives = s.drives := rfl
@[simp] theorem State.retireRecords_rotor (s : State) : (s.retireRecords).rotor = s.rotor := rfl
@[simp] theorem State.retireRecords_ports (s : State) : (s.retireRecords).ports = s.ports := rfl
@[simp] theorem State.retireRecords_tuning (s : State) : (s.retireRecords).tuning = s.tuning := rfl
@[simp] theorem State.retireRecords_link (s : State) : (s.retireRecords).link = s.link := rfl
@[simp] theorem State.retireRecords_time (s : State) : (s.retireRecords).time = s.time := rfl
@[simp] theorem State.retireRecords_pending (s : State) : (s.retireRecords).pending = s.pending := rfl

/-! ### State.dropSummary -/

@[simp] theorem State.dropSummary_claims (s : State) : (s.dropSummary).claims = s.claims := rfl
@[simp] theorem State.dropSummary_arbiter (s : State) : (s.dropSummary).arbiter = s.arbiter := rfl
@[simp] theorem State.dropSummary_interlock (s : State) : (s.dropSummary).interlock = s.interlock := rfl
@[simp] theorem State.dropSummary_sensors (s : State) : (s.dropSummary).sensors = s.sensors := rfl
@[simp] theorem State.dropSummary_drives (s : State) : (s.dropSummary).drives = s.drives := rfl
@[simp] theorem State.dropSummary_rotor (s : State) : (s.dropSummary).rotor = s.rotor := rfl
@[simp] theorem State.dropSummary_ports (s : State) : (s.dropSummary).ports = s.ports := rfl
@[simp] theorem State.dropSummary_tuning (s : State) : (s.dropSummary).tuning = s.tuning := rfl
@[simp] theorem State.dropSummary_link (s : State) : (s.dropSummary).link = s.link := rfl
@[simp] theorem State.dropSummary_time (s : State) : (s.dropSummary).time = s.time := rfl
@[simp] theorem State.dropSummary_pending (s : State) : (s.dropSummary).pending = s.pending := rfl

/-! ### State.dropRequest -/

@[simp] theorem State.dropRequest_claims (s : State) : (s.dropRequest).claims = s.claims := rfl
@[simp] theorem State.dropRequest_interlock (s : State) : (s.dropRequest).interlock = s.interlock := rfl
@[simp] theorem State.dropRequest_sensors (s : State) : (s.dropRequest).sensors = s.sensors := rfl
@[simp] theorem State.dropRequest_drives (s : State) : (s.dropRequest).drives = s.drives := rfl
@[simp] theorem State.dropRequest_rotor (s : State) : (s.dropRequest).rotor = s.rotor := rfl
@[simp] theorem State.dropRequest_batch (s : State) : (s.dropRequest).batch = s.batch := rfl
@[simp] theorem State.dropRequest_ports (s : State) : (s.dropRequest).ports = s.ports := rfl
@[simp] theorem State.dropRequest_tuning (s : State) : (s.dropRequest).tuning = s.tuning := rfl
@[simp] theorem State.dropRequest_link (s : State) : (s.dropRequest).link = s.link := rfl
@[simp] theorem State.dropRequest_time (s : State) : (s.dropRequest).time = s.time := rfl
@[simp] theorem State.dropRequest_pending (s : State) : (s.dropRequest).pending = s.pending := rfl

/-! ### State.beginHandover -/

@[simp] theorem State.beginHandover_claims (s : State) (c : Claim) : (s.beginHandover c).claims = s.claims := rfl
@[simp] theorem State.beginHandover_interlock (s : State) (c : Claim) : (s.beginHandover c).interlock = s.interlock := rfl
@[simp] theorem State.beginHandover_sensors (s : State) (c : Claim) : (s.beginHandover c).sensors = s.sensors := rfl
@[simp] theorem State.beginHandover_drives (s : State) (c : Claim) : (s.beginHandover c).drives = s.drives := rfl
@[simp] theorem State.beginHandover_rotor (s : State) (c : Claim) : (s.beginHandover c).rotor = if c.active.target = .grinder then s.rotor.handOver s.time else s.rotor := rfl
@[simp] theorem State.beginHandover_batch (s : State) (c : Claim) : (s.beginHandover c).batch = s.batch := rfl
@[simp] theorem State.beginHandover_ports (s : State) (c : Claim) : (s.beginHandover c).ports = s.ports := rfl
@[simp] theorem State.beginHandover_tuning (s : State) (c : Claim) : (s.beginHandover c).tuning = s.tuning := rfl
@[simp] theorem State.beginHandover_link (s : State) (c : Claim) : (s.beginHandover c).link = s.link := rfl
@[simp] theorem State.beginHandover_time (s : State) (c : Claim) : (s.beginHandover c).time = s.time := rfl
@[simp] theorem State.beginHandover_pending (s : State) (c : Claim) : (s.beginHandover c).pending = s.pending := rfl

/-! ### State.handBudget -/

@[simp] theorem State.handBudget_claims (s : State) (p : Port) (v : Nat) : (s.handBudget p v).claims = s.claims := rfl
@[simp] theorem State.handBudget_interlock (s : State) (p : Port) (v : Nat) : (s.handBudget p v).interlock = s.interlock := rfl
@[simp] theorem State.handBudget_sensors (s : State) (p : Port) (v : Nat) : (s.handBudget p v).sensors = s.sensors := rfl
@[simp] theorem State.handBudget_drives (s : State) (p : Port) (v : Nat) : (s.handBudget p v).drives = s.drives := rfl
@[simp] theorem State.handBudget_rotor (s : State) (p : Port) (v : Nat) : (s.handBudget p v).rotor = s.rotor := rfl
@[simp] theorem State.handBudget_batch (s : State) (p : Port) (v : Nat) : (s.handBudget p v).batch = s.batch := rfl
@[simp] theorem State.handBudget_ports (s : State) (p : Port) (v : Nat) : (s.handBudget p v).ports = s.ports := rfl
@[simp] theorem State.handBudget_tuning (s : State) (p : Port) (v : Nat) : (s.handBudget p v).tuning = s.tuning := rfl
@[simp] theorem State.handBudget_link (s : State) (p : Port) (v : Nat) : (s.handBudget p v).link = s.link := rfl
@[simp] theorem State.handBudget_time (s : State) (p : Port) (v : Nat) : (s.handBudget p v).time = s.time := rfl
@[simp] theorem State.handBudget_pending (s : State) (p : Port) (v : Nat) : (s.handBudget p v).pending = s.pending := rfl

/-! ### State.setTuning -/

@[simp] theorem State.setTuning_claims (s : State) (k : Fin 13) (v : Nat) : (s.setTuning k v).claims = s.claims := rfl
@[simp] theorem State.setTuning_arbiter (s : State) (k : Fin 13) (v : Nat) : (s.setTuning k v).arbiter = s.arbiter := rfl
@[simp] theorem State.setTuning_interlock (s : State) (k : Fin 13) (v : Nat) : (s.setTuning k v).interlock = s.interlock := rfl
@[simp] theorem State.setTuning_sensors (s : State) (k : Fin 13) (v : Nat) : (s.setTuning k v).sensors = s.sensors := rfl
@[simp] theorem State.setTuning_drives (s : State) (k : Fin 13) (v : Nat) : (s.setTuning k v).drives = s.drives := rfl
@[simp] theorem State.setTuning_rotor (s : State) (k : Fin 13) (v : Nat) : (s.setTuning k v).rotor = s.rotor := rfl
@[simp] theorem State.setTuning_batch (s : State) (k : Fin 13) (v : Nat) : (s.setTuning k v).batch = s.batch := rfl
@[simp] theorem State.setTuning_ports (s : State) (k : Fin 13) (v : Nat) : (s.setTuning k v).ports = s.ports := rfl
@[simp] theorem State.setTuning_tuning (s : State) (k : Fin 13) (v : Nat) : (s.setTuning k v).tuning = s.tuning.set k v := rfl
@[simp] theorem State.setTuning_link (s : State) (k : Fin 13) (v : Nat) : (s.setTuning k v).link = s.link := rfl
@[simp] theorem State.setTuning_time (s : State) (k : Fin 13) (v : Nat) : (s.setTuning k v).time = s.time := rfl
@[simp] theorem State.setTuning_pending (s : State) (k : Fin 13) (v : Nat) : (s.setTuning k v).pending = s.pending := rfl

/-! ### State.storeReport -/

@[simp] theorem State.storeReport_claims (s : State) (plate air : Int) : (s.storeReport plate air).claims = s.claims := rfl
@[simp] theorem State.storeReport_arbiter (s : State) (plate air : Int) : (s.storeReport plate air).arbiter = s.arbiter := rfl
@[simp] theorem State.storeReport_interlock (s : State) (plate air : Int) : (s.storeReport plate air).interlock = s.interlock := rfl
@[simp] theorem State.storeReport_drives (s : State) (plate air : Int) : (s.storeReport plate air).drives = s.drives := rfl
@[simp] theorem State.storeReport_rotor (s : State) (plate air : Int) : (s.storeReport plate air).rotor = s.rotor := rfl
@[simp] theorem State.storeReport_batch (s : State) (plate air : Int) : (s.storeReport plate air).batch = s.batch := rfl
@[simp] theorem State.storeReport_ports (s : State) (plate air : Int) : (s.storeReport plate air).ports = s.ports := rfl
@[simp] theorem State.storeReport_tuning (s : State) (plate air : Int) : (s.storeReport plate air).tuning = s.tuning := rfl
@[simp] theorem State.storeReport_link (s : State) (plate air : Int) : (s.storeReport plate air).link = s.link := rfl
@[simp] theorem State.storeReport_time (s : State) (plate air : Int) : (s.storeReport plate air).time = s.time := rfl
@[simp] theorem State.storeReport_pending (s : State) (plate air : Int) : (s.storeReport plate air).pending = s.pending := rfl

/-! ### State.derivePlateBelow -/

@[simp] theorem State.derivePlateBelow_claims (s : State) : (s.derivePlateBelow).claims = s.claims := rfl
@[simp] theorem State.derivePlateBelow_arbiter (s : State) : (s.derivePlateBelow).arbiter = s.arbiter := rfl
@[simp] theorem State.derivePlateBelow_interlock (s : State) : (s.derivePlateBelow).interlock = s.interlock := rfl
@[simp] theorem State.derivePlateBelow_drives (s : State) : (s.derivePlateBelow).drives = s.drives := rfl
@[simp] theorem State.derivePlateBelow_rotor (s : State) : (s.derivePlateBelow).rotor = s.rotor := rfl
@[simp] theorem State.derivePlateBelow_batch (s : State) : (s.derivePlateBelow).batch = s.batch := rfl
@[simp] theorem State.derivePlateBelow_ports (s : State) : (s.derivePlateBelow).ports = s.ports := rfl
@[simp] theorem State.derivePlateBelow_tuning (s : State) : (s.derivePlateBelow).tuning = s.tuning := rfl
@[simp] theorem State.derivePlateBelow_link (s : State) : (s.derivePlateBelow).link = s.link := rfl
@[simp] theorem State.derivePlateBelow_time (s : State) : (s.derivePlateBelow).time = s.time := rfl
@[simp] theorem State.derivePlateBelow_pending (s : State) : (s.derivePlateBelow).pending = s.pending := rfl

/-! ### State.setSnapshot -/

@[simp] theorem State.setSnapshot_claims (s : State) (x : Option Snapshot) : (s.setSnapshot x).claims = s.claims := rfl
@[simp] theorem State.setSnapshot_arbiter (s : State) (x : Option Snapshot) : (s.setSnapshot x).arbiter = s.arbiter := rfl
@[simp] theorem State.setSnapshot_interlock (s : State) (x : Option Snapshot) : (s.setSnapshot x).interlock = s.interlock := rfl
@[simp] theorem State.setSnapshot_sensors (s : State) (x : Option Snapshot) : (s.setSnapshot x).sensors = s.sensors := rfl
@[simp] theorem State.setSnapshot_drives (s : State) (x : Option Snapshot) : (s.setSnapshot x).drives = s.drives := rfl
@[simp] theorem State.setSnapshot_rotor (s : State) (x : Option Snapshot) : (s.setSnapshot x).rotor = s.rotor := rfl
@[simp] theorem State.setSnapshot_batch (s : State) (x : Option Snapshot) : (s.setSnapshot x).batch = s.batch := rfl
@[simp] theorem State.setSnapshot_ports (s : State) (x : Option Snapshot) : (s.setSnapshot x).ports = s.ports := rfl
@[simp] theorem State.setSnapshot_tuning (s : State) (x : Option Snapshot) : (s.setSnapshot x).tuning = s.tuning := rfl
@[simp] theorem State.setSnapshot_link (s : State) (x : Option Snapshot) : (s.setSnapshot x).link = { s.link with snapshot := x } := rfl
@[simp] theorem State.setSnapshot_time (s : State) (x : Option Snapshot) : (s.setSnapshot x).time = s.time := rfl
@[simp] theorem State.setSnapshot_pending (s : State) (x : Option Snapshot) : (s.setSnapshot x).pending = s.pending := rfl

/-! ### State.setPhase -/

@[simp] theorem State.setPhase_claims (s : State) (x : PokePhase) : (s.setPhase x).claims = s.claims := rfl
@[simp] theorem State.setPhase_arbiter (s : State) (x : PokePhase) : (s.setPhase x).arbiter = s.arbiter := rfl
@[simp] theorem State.setPhase_interlock (s : State) (x : PokePhase) : (s.setPhase x).interlock = s.interlock := rfl
@[simp] theorem State.setPhase_sensors (s : State) (x : PokePhase) : (s.setPhase x).sensors = s.sensors := rfl
@[simp] theorem State.setPhase_drives (s : State) (x : PokePhase) : (s.setPhase x).drives = s.drives := rfl
@[simp] theorem State.setPhase_rotor (s : State) (x : PokePhase) : (s.setPhase x).rotor = s.rotor := rfl
@[simp] theorem State.setPhase_batch (s : State) (x : PokePhase) : (s.setPhase x).batch = s.batch := rfl
@[simp] theorem State.setPhase_ports (s : State) (x : PokePhase) : (s.setPhase x).ports = s.ports := rfl
@[simp] theorem State.setPhase_tuning (s : State) (x : PokePhase) : (s.setPhase x).tuning = s.tuning := rfl
@[simp] theorem State.setPhase_link (s : State) (x : PokePhase) : (s.setPhase x).link = { s.link with phase := x } := rfl
@[simp] theorem State.setPhase_time (s : State) (x : PokePhase) : (s.setPhase x).time = s.time := rfl
@[simp] theorem State.setPhase_pending (s : State) (x : PokePhase) : (s.setPhase x).pending = s.pending := rfl

/-! ### State.reply -/

@[simp] theorem State.reply_claims (s : State) (a : Word) (n : Nat) : (s.reply a n).claims = s.claims := rfl
@[simp] theorem State.reply_arbiter (s : State) (a : Word) (n : Nat) : (s.reply a n).arbiter = s.arbiter := rfl
@[simp] theorem State.reply_interlock (s : State) (a : Word) (n : Nat) : (s.reply a n).interlock = s.interlock := rfl
@[simp] theorem State.reply_sensors (s : State) (a : Word) (n : Nat) : (s.reply a n).sensors = s.sensors := rfl
@[simp] theorem State.reply_drives (s : State) (a : Word) (n : Nat) : (s.reply a n).drives = s.drives := rfl
@[simp] theorem State.reply_rotor (s : State) (a : Word) (n : Nat) : (s.reply a n).rotor = s.rotor := rfl
@[simp] theorem State.reply_batch (s : State) (a : Word) (n : Nat) : (s.reply a n).batch = s.batch := rfl
@[simp] theorem State.reply_ports (s : State) (a : Word) (n : Nat) : (s.reply a n).ports = s.ports := rfl
@[simp] theorem State.reply_tuning (s : State) (a : Word) (n : Nat) : (s.reply a n).tuning = s.tuning := rfl
@[simp] theorem State.reply_link (s : State) (a : Word) (n : Nat) : (s.reply a n).link = { s.link with answer := a, sack := n } := rfl
@[simp] theorem State.reply_time (s : State) (a : Word) (n : Nat) : (s.reply a n).time = s.time := rfl
@[simp] theorem State.reply_pending (s : State) (a : Word) (n : Nat) : (s.reply a n).pending = s.pending := rfl

/-! ### State.sampledBits -/

@[simp] theorem State.sampledBits_claims (s : State) (bits : List Bool) (run : Nat) : (s.sampledBits bits run).claims = s.claims := rfl
@[simp] theorem State.sampledBits_arbiter (s : State) (bits : List Bool) (run : Nat) : (s.sampledBits bits run).arbiter = s.arbiter := rfl
@[simp] theorem State.sampledBits_interlock (s : State) (bits : List Bool) (run : Nat) : (s.sampledBits bits run).interlock = s.interlock := rfl
@[simp] theorem State.sampledBits_sensors (s : State) (bits : List Bool) (run : Nat) : (s.sampledBits bits run).sensors = s.sensors := rfl
@[simp] theorem State.sampledBits_drives (s : State) (bits : List Bool) (run : Nat) : (s.sampledBits bits run).drives = s.drives := rfl
@[simp] theorem State.sampledBits_rotor (s : State) (bits : List Bool) (run : Nat) : (s.sampledBits bits run).rotor = s.rotor := rfl
@[simp] theorem State.sampledBits_batch (s : State) (bits : List Bool) (run : Nat) : (s.sampledBits bits run).batch = s.batch := rfl
@[simp] theorem State.sampledBits_ports (s : State) (bits : List Bool) (run : Nat) : (s.sampledBits bits run).ports = s.ports := rfl
@[simp] theorem State.sampledBits_tuning (s : State) (bits : List Bool) (run : Nat) : (s.sampledBits bits run).tuning = s.tuning := rfl
@[simp] theorem State.sampledBits_link (s : State) (bits : List Bool) (run : Nat) : (s.sampledBits bits run).link = { s.link with sampled := bits, onesRun := run } := rfl
@[simp] theorem State.sampledBits_time (s : State) (bits : List Bool) (run : Nat) : (s.sampledBits bits run).time = s.time := rfl
@[simp] theorem State.sampledBits_pending (s : State) (bits : List Bool) (run : Nat) : (s.sampledBits bits run).pending = s.pending := rfl

/-! ### State.withPending -/

@[simp] theorem State.withPending_claims (s : State) (queue : List Instr) : (s.withPending queue).claims = s.claims := rfl
@[simp] theorem State.withPending_arbiter (s : State) (queue : List Instr) : (s.withPending queue).arbiter = s.arbiter := rfl
@[simp] theorem State.withPending_interlock (s : State) (queue : List Instr) : (s.withPending queue).interlock = s.interlock := rfl
@[simp] theorem State.withPending_sensors (s : State) (queue : List Instr) : (s.withPending queue).sensors = s.sensors := rfl
@[simp] theorem State.withPending_drives (s : State) (queue : List Instr) : (s.withPending queue).drives = s.drives := rfl
@[simp] theorem State.withPending_rotor (s : State) (queue : List Instr) : (s.withPending queue).rotor = s.rotor := rfl
@[simp] theorem State.withPending_batch (s : State) (queue : List Instr) : (s.withPending queue).batch = s.batch := rfl
@[simp] theorem State.withPending_ports (s : State) (queue : List Instr) : (s.withPending queue).ports = s.ports := rfl
@[simp] theorem State.withPending_tuning (s : State) (queue : List Instr) : (s.withPending queue).tuning = s.tuning := rfl
@[simp] theorem State.withPending_link (s : State) (queue : List Instr) : (s.withPending queue).link = s.link := rfl
@[simp] theorem State.withPending_time (s : State) (queue : List Instr) : (s.withPending queue).time = s.time := rfl
@[simp] theorem State.withPending_pending (s : State) (queue : List Instr) : (s.withPending queue).pending = queue := rfl

/-! ### State.tick -/

@[simp] theorem State.tick_claims (s : State) : (s.tick).claims = s.claims := rfl
@[simp] theorem State.tick_arbiter (s : State) : (s.tick).arbiter = s.arbiter := rfl
@[simp] theorem State.tick_interlock (s : State) : (s.tick).interlock = s.interlock := rfl
@[simp] theorem State.tick_sensors (s : State) : (s.tick).sensors = s.sensors := rfl
@[simp] theorem State.tick_drives (s : State) : (s.tick).drives = s.drives := rfl
@[simp] theorem State.tick_rotor (s : State) : (s.tick).rotor = s.rotor := rfl
@[simp] theorem State.tick_batch (s : State) : (s.tick).batch = s.batch := rfl
@[simp] theorem State.tick_ports (s : State) : (s.tick).ports = s.ports := rfl
@[simp] theorem State.tick_tuning (s : State) : (s.tick).tuning = s.tuning := rfl
@[simp] theorem State.tick_link (s : State) : (s.tick).link = s.link := rfl
@[simp] theorem State.tick_time (s : State) : (s.tick).time = s.time + 1 := rfl
@[simp] theorem State.tick_pending (s : State) : (s.tick).pending = s.pending := rfl

end Sys2Proof.Machine
end

