-- ==== Sys2Proof/Laws/Table.lean ====
section
/-! SUPPORT. Reading one entry or one port after a write of another, the members of the two index lists, and what a fold
over entries or ports keeps. -/

namespace Sys2Proof.Machine

/-- An entry after one entry is replaced. -/
theorem State.claim_setClaim (s : State) (i j : ClaimIdx) (c : Claim) :
    (s.setClaim i c).claim j = if i = j then c else s.claim j := by
  show (s.claims.set (i : Nat) c i.isLt)[(j : Nat)] = if i = j then c else s.claims[(j : Nat)]
  rw [Vector.getElem_set]
  simp only [Fin.ext_iff]

@[simp] theorem State.claim_setClaim_self (s : State) (i : ClaimIdx) (c : Claim) : (s.setClaim i c).claim i = c := by
  simp [State.claim_setClaim]

/-- A port after one port is changed. -/
theorem State.port_updPort (s : State) (p q : Port) (f : PortState → PortState) :
    (s.updPort p f).port q = if p = q then (f (s.port p)).refresh else s.port q := by
  show (s.ports.set (p : Nat) (f (s.port p)).refresh p.isLt)[(q : Nat)] = if p = q then _ else s.ports[(q : Nat)]
  rw [Vector.getElem_set]
  simp only [Fin.ext_iff]

@[simp] theorem State.port_updPort_self (s : State) (p : Port) (f : PortState → PortState) :
    (s.updPort p f).port p = (f (s.port p)).refresh := by
  simp [State.port_updPort]

/-- An entry depends on the claim table alone. -/
theorem State.claim_congr {s t : State} (h : s.claims = t.claims) (i : ClaimIdx) : s.claim i = t.claim i := by
  unfold State.claim; rw [h]

/-- A port depends on the ports alone. -/
theorem State.port_congr {s t : State} (h : s.ports = t.ports) (p : Port) : s.port p = t.port p := by
  unfold State.port; rw [h]

/-- Every entry index is in the list of the numbers 0 to 15. -/
theorem mem_all16 (i : Fin 16) : i ∈ all16 := by revert i; decide

/-- Every port is in the list of ports. -/
theorem mem_allPorts (p : Port) : p ∈ allPorts := by revert p; decide

/-- A fold keeps what each of its steps keeps. -/
theorem foldl_keeps {α β : Type} (proj : State → β) (f : State → α → State) (h : ∀ s a, proj (f s a) = proj s)
    (l : List α) (s : State) : proj (l.foldl f s) = proj s := by
  induction l generalizing s with
  | nil => rfl
  | cons a l ih => rw [List.foldl_cons, ih, h]

/-- A fold keeps an invariant that each of its steps keeps. -/
theorem foldl_invariant {α : Type} (P : State → Prop) (f : State → α → State) (h : ∀ s a, P s → P (f s a))
    (l : List α) (s : State) (hs : P s) : P (l.foldl f s) := by
  induction l generalizing s with
  | nil => exact hs
  | cons a l ih => exact ih _ (h s a hs)

end Sys2Proof.Machine
end

