-- ==== Sys2Proof/Laws/Arbiter.lean ====
section
/-! SUPPORT. What each function of an arbitration pass says, once: the order of candidates, the yield list, the walk of
admission, and what a turn leaves alone. -/

namespace Sys2Proof.Machine

/-! ## The two index lists -/

theorem pairwise_all16 : all16.Pairwise (· < ·) := by decide

theorem pairwise_down16 : down16.Pairwise (fun a b => b < a) := by decide

theorem mem_down16 (i : Fin 16) : i ∈ down16 := by simp [down16, mem_all16]

/-- The first of a rising list of numbers that passes a test, if there is one. -/
theorem find_all16 (q : Fin 16 → Bool) (i : Fin 16) :
    all16.find? q = some i ↔ q i = true ∧ ∀ j, q j = true → i ≤ j := by
  rw [List.find?_eq_some_iff_append]
  constructor
  · rintro ⟨hq, a, b, hl, ha⟩
    refine ⟨hq, fun j hj => ?_⟩
    have hm := mem_all16 j
    have hp := pairwise_all16
    rw [hl] at hm hp
    rcases List.mem_append.1 hm with hm | hm
    · have := ha j hm
      simp [hj] at this
    · rcases List.mem_cons.1 hm with hm | hm
      · exact le_of_eq hm.symm
      · exact le_of_lt ((List.pairwise_cons.1 (List.pairwise_append.1 hp).2.1).1 j hm)
  · rintro ⟨hq, hmin⟩
    obtain ⟨a, b, hl⟩ := List.append_of_mem (mem_all16 i)
    refine ⟨hq, a, b, hl, fun j hj => ?_⟩
    have hp := pairwise_all16
    rw [hl] at hp
    have hlt : j < i := (List.pairwise_append.1 hp).2.2 j hj i (by simp)
    cases hqj : q j with
    | false => rfl
    | true => exact absurd (hmin j hqj) (not_le.2 hlt)

/-! ## Order (R40) -/

/-- The next turn is that of a candidate to which no other candidate is prior by level and then by index. -/
theorem Reckoning.next_eq_some (v : Reckoning) (i : ClaimIdx) :
    v.next = some i ↔ v.candidate i = true ∧ ∀ j, v.candidate j = true →
      (v.claim i).active.level < (v.claim j).active.level ∨
        ((v.claim i).active.level = (v.claim j).active.level ∧ i ≤ j) := by
  unfold Reckoning.next
  rw [List.findSome?_eq_some_iff]
  constructor
  · rintro ⟨a, l, b, hl, hi, ha⟩
    obtain ⟨hc, hmin⟩ := (find_all16 _ i).1 hi
    simp only [Bool.and_eq_true, decide_eq_true_eq] at hc hmin
    refine ⟨hc.2, fun j hj => ?_⟩
    have hm := mem_all16 (v.claim j).active.level
    have hp := pairwise_all16
    rw [hl] at hm hp
    rcases List.mem_append.1 hm with hm | hm
    · have := List.find?_eq_none.1 (ha _ hm) j (mem_all16 j)
      simp [hj] at this
    · rcases List.mem_cons.1 hm with hm | hm
      · exact .inr ⟨by rw [hc.1, hm], hmin j ⟨hm, hj⟩⟩
      · exact .inl (by rw [hc.1]; exact (List.pairwise_cons.1 (List.pairwise_append.1 hp).2.1).1 _ hm)
  · rintro ⟨hc, hmin⟩
    obtain ⟨a, b, hl⟩ := List.append_of_mem (mem_all16 (v.claim i).active.level)
    refine ⟨a, _, b, hl, (find_all16 _ i).2 ⟨by simp [hc], fun j hj => ?_⟩, fun l hla => ?_⟩
    · simp only [Bool.and_eq_true, decide_eq_true_eq] at hj
      rcases hmin j hj.2 with h | h
      · exact absurd hj.1 (ne_of_gt h)
      · exact h.2
    · have hp := pairwise_all16
      rw [hl] at hp
      have hlt : l < (v.claim i).active.level := (List.pairwise_append.1 hp).2.2 l hla _ (by simp)
      refine List.find?_eq_none.2 fun j _ => ?_
      simp only [Bool.and_eq_true, decide_eq_true_eq, not_and, Bool.not_eq_true]
      intro hj
      cases hcj : v.candidate j with
      | false => rfl
      | true =>
        rcases hmin j hcj with h | h
        · exact absurd (hj ▸ h) (not_lt.2 (le_of_lt hlt))
        · exact absurd (h.1.trans hj) (ne_of_gt hlt)

/-- No turn is left exactly when there is no candidate. -/
theorem Reckoning.next_eq_none (v : Reckoning) : v.next = none ↔ ∀ i, v.candidate i = false := by
  simp only [Reckoning.next, List.findSome?_eq_none_iff, List.find?_eq_none, Bool.and_eq_true, decide_eq_true_eq,
    not_and, Bool.not_eq_true]
  exact ⟨fun h i => h _ (mem_all16 _) i (mem_all16 i) rfl, fun h _ _ i _ _ => h i⟩

/-! ## The yield list (R41) -/

/-- What stands on the yield list. -/
theorem Reckoning.mem_yieldList (v : Reckoning) (l : Fin 16) (counted : List ClaimIdx) (h : ClaimIdx) :
    h ∈ v.yieldList l counted ↔ (v.claim h).isHolder = true ∧ (v.claim h).active.bulk = true ∧
      l < (v.claim h).active.level ∧ h ∉ counted := by
  simp only [Reckoning.yieldList, List.mem_flatMap, List.mem_filter, Bool.and_eq_true, decide_eq_true_eq,
    Bool.not_eq_true', List.contains_eq_mem, decide_eq_false_iff_not]
  constructor
  · rintro ⟨m, -, -, ⟨⟨⟨h1, h2⟩, h3⟩, h4⟩, h5⟩
    exact ⟨h1, h2, h3 ▸ h4, h5⟩
  · rintro ⟨h1, h2, h3, h4⟩
    exact ⟨_, mem_down16 _, mem_down16 h, ⟨⟨⟨h1, h2⟩, rfl⟩, h3⟩, h4⟩

/-- The order of the yield list: least urgent first, and among equal levels the highest index first. -/
theorem Reckoning.pairwise_yieldList (v : Reckoning) (l : Fin 16) (counted : List ClaimIdx) :
    (v.yieldList l counted).Pairwise fun a b => (v.claim b).active.level < (v.claim a).active.level ∨
      ((v.claim b).active.level = (v.claim a).active.level ∧ b < a) := by
  unfold Reckoning.yieldList
  rw [List.pairwise_flatMap]
  constructor
  · intro m _
    refine (pairwise_down16.sublist List.filter_sublist).imp_of_mem fun {a b} ha hb hlt => .inr ⟨?_, hlt⟩
    simp only [List.mem_filter, Bool.and_eq_true, decide_eq_true_eq] at ha hb
    rw [ha.2.1.1.2, hb.2.1.1.2]
  · refine pairwise_down16.imp fun {m n} hlt a ha b hb => .inl ?_
    simp only [List.mem_filter, Bool.and_eq_true, decide_eq_true_eq] at ha hb
    rw [ha.2.1.1.2, hb.2.1.1.2]
    exact hlt

/-! ## The walk of admission (R41 to R43) -/

/-- What holders walked so far add to the freed amount. -/
def Reckoning.freedBy (v : Reckoning) (l : List ClaimIdx) : Nat := (l.map fun h => (v.claim h).active.demand).sum

/-- The walk takes the shortest front part of the list with which the test holds. -/
theorem Reckoning.walk_eq_some (v : Reckoning) (test : Nat → Bool) (l : List ClaimIdx) : ∀ (freed : Nat) (w : List ClaimIdx),
    v.walk test freed l = some w ↔ ∃ k, k ≤ l.length ∧ w = l.take k ∧ test (freed + v.freedBy (l.take k)) = true ∧
      ∀ j, j < k → test (freed + v.freedBy (l.take j)) = false := by
  induction l with
  | nil =>
    intro freed w
    by_cases ht : test freed = true <;> simp [Reckoning.walk, Reckoning.freedBy, ht, eq_comm]
  | cons h rest ih =>
    intro freed w
    have hsum : ∀ k, freed + v.freedBy ((h :: rest).take (k + 1)) =
        freed + (v.claim h).active.demand + v.freedBy (rest.take k) := by
      intro k; simp [Reckoning.freedBy, Nat.add_assoc]
    have hzero : freed + v.freedBy ((h :: rest).take 0) = freed := by simp [Reckoning.freedBy]
    by_cases ht : test freed = true
    · simp only [Reckoning.walk, ht, if_true, Option.some.injEq]
      constructor
      · rintro rfl
        exact ⟨0, by simp, by simp, by rw [hzero]; exact ht, by simp⟩
      · rintro ⟨k, -, hw, -, hj⟩
        cases k with
        | zero => simpa using hw.symm
        | succ k => have := hj 0 (by simp); rw [hzero, ht] at this; simp at this
    · simp only [Reckoning.walk, if_neg ht, Option.map_eq_some_iff, ih]
      constructor
      · rintro ⟨a, ⟨k, hk, rfl, hkt, hj⟩, rfl⟩
        refine ⟨k + 1, by simpa using hk, by simp, by rw [hsum]; exact hkt, fun j hjk => ?_⟩
        cases j with
        | zero => rw [hzero]; simpa using ht
        | succ j => rw [hsum]; exact hj j (by omega)
      · rintro ⟨k, hk, rfl, hkt, hj⟩
        cases k with
        | zero => rw [hzero] at hkt; exact absurd hkt ht
        | succ k =>
          refine ⟨rest.take k, ⟨k, by simpa using hk, rfl, by rw [← hsum]; exact hkt, fun j hjk => ?_⟩, by simp⟩
          rw [← hsum]; exact hj (j + 1) (by omega)

/-- The walk finds nothing exactly when the test fails with every front part of the list. -/
theorem Reckoning.walk_eq_none (v : Reckoning) (test : Nat → Bool) (l : List ClaimIdx) : ∀ freed : Nat,
    v.walk test freed l = none ↔ ∀ k, k ≤ l.length → test (freed + v.freedBy (l.take k)) = false := by
  induction l with
  | nil =>
    intro freed
    by_cases ht : test freed = true <;> simp [Reckoning.walk, Reckoning.freedBy, ht]
  | cons h rest ih =>
    intro freed
    by_cases ht : test freed = true
    · simp only [Reckoning.walk, ht, if_true, reduceCtorEq, false_iff, not_forall]
      exact ⟨0, by simp, by simp [Reckoning.freedBy, ht]⟩
    · simp only [Reckoning.walk, if_neg ht, Option.map_eq_none_iff, ih]
      constructor
      · intro H k hk
        cases k with
        | zero => simpa [Reckoning.freedBy] using ht
        | succ k => simpa [Reckoning.freedBy, Nat.add_assoc] using H k (by simpa using hk)
      · intro H k hk
        simpa [Reckoning.freedBy, Nat.add_assoc] using H (k + 1) (by simpa using hk)

/-! ## What a turn leaves alone (R30, R40) -/

/-- Everything of the reckoning but its claims, the turns taken and the requests issued stands. -/
def Reckoning.SameReading (v w : Reckoning) : Prop :=
  w.secured = v.secured ∧ w.halted = v.halted ∧ w.atRest = v.atRest ∧ w.plateBelow = v.plateBelow ∧
    w.budget = v.budget ∧ w.yieldLevel = v.yieldLevel

theorem Reckoning.SameReading.trans {u v w : Reckoning} (h : u.SameReading v) (k : v.SameReading w) :
    u.SameReading w := by
  simp_all [Reckoning.SameReading]

/-- The yields of a list, issued one after the other. -/
def Reckoning.doYields (v : Reckoning) (i : ClaimIdx) (l : List ClaimIdx) : Reckoning := l.foldl (fun v h => v.doYield i h) v

/-- Yields leave the reading and the turns taken alone. -/
theorem Reckoning.doYields_sameReading (i : ClaimIdx) (l : List ClaimIdx) : ∀ v : Reckoning,
    v.SameReading (v.doYields i l) ∧ (v.doYields i l).turned = v.turned := by
  induction l with
  | nil => intro v; exact ⟨⟨rfl, rfl, rfl, rfl, rfl, rfl⟩, rfl⟩
  | cons h l ih =>
    intro v
    obtain ⟨h1, h2⟩ := ih (v.doYield i h)
    exact ⟨.trans ⟨rfl, rfl, rfl, rfl, rfl, rfl⟩ h1, h2⟩

/-- A turn leaves the reading alone and is noted as taken. -/
theorem Reckoning.turn_sameReading (v : Reckoning) (i : ClaimIdx) :
    v.SameReading (v.turn i) ∧ (v.turn i).turned = i :: v.turned := by
  unfold Reckoning.turn
  simp only
  split
  · exact ⟨⟨rfl, rfl, rfl, rfl, rfl, rfl⟩, rfl⟩
  · split
    · rename_i l _
      exact Reckoning.doYields_sameReading i l { v with turned := i :: v.turned }
    · exact ⟨⟨rfl, rfl, rfl, rfl, rfl, rfl⟩, rfl⟩

/-- A claim that has had its turn is no candidate any more. -/
theorem Reckoning.candidate_of_turned (v : Reckoning) (i : ClaimIdx) (h : i ∈ v.turned) : v.candidate i = false := by
  simp [Reckoning.candidate, h]

/-- An entry of the reckoning after a yield. -/
theorem Reckoning.claim_doYield (v : Reckoning) (i h j : ClaimIdx) :
    (v.doYield i h).claim j = if h = j then (v.claim h).afterYield else v.claim j := by
  show (v.claims.set (h : Nat) (v.claim h).afterYield h.isLt)[(j : Nat)] = if h = j then _ else v.claims[(j : Nat)]
  rw [Vector.getElem_set]
  simp only [Fin.ext_iff]

/-- An entry of the reckoning after a grant. -/
theorem Reckoning.claim_doGrant (v : Reckoning) (i j : ClaimIdx) :
    (v.doGrant i).claim j = if i = j then { v.claim i with state := .granted } else v.claim j := by
  show (v.claims.set (i : Nat) { v.claim i with state := .granted } i.isLt)[(j : Nat)] =
    if i = j then _ else v.claims[(j : Nat)]
  rw [Vector.getElem_set]
  simp only [Fin.ext_iff]

end Sys2Proof.Machine
end

