-- ==== Sys2Proof/Laws/Ops.lean ====
section
/-! SUPPORT. Frames: what the shared operations of the claim table, the unit, the drives and the arbiter leave alone: one lemma per operation and field. -/

namespace Sys2Proof.Machine

/-! ### State.postOwner -/

@[simp] theorem State.postOwner_claims (s : State) (n : Source) (o : Option Port) : (s.postOwner n o).claims = s.claims :=
    by cases o <;> simp [State.postOwner]
@[simp] theorem State.postOwner_arbiter (s : State) (n : Source) (o : Option Port) : (s.postOwner n o).arbiter = s.arbiter :=
    by cases o <;> simp [State.postOwner]
@[simp] theorem State.postOwner_interlock (s : State) (n : Source) (o : Option Port) : (s.postOwner n o).interlock = s.interlock :=
    by cases o <;> simp [State.postOwner]
@[simp] theorem State.postOwner_sensors (s : State) (n : Source) (o : Option Port) : (s.postOwner n o).sensors = s.sensors :=
    by cases o <;> simp [State.postOwner]
@[simp] theorem State.postOwner_drives (s : State) (n : Source) (o : Option Port) : (s.postOwner n o).drives = s.drives :=
    by cases o <;> simp [State.postOwner]
@[simp] theorem State.postOwner_rotor (s : State) (n : Source) (o : Option Port) : (s.postOwner n o).rotor = s.rotor :=
    by cases o <;> simp [State.postOwner]
@[simp] theorem State.postOwner_batch (s : State) (n : Source) (o : Option Port) : (s.postOwner n o).batch = s.batch :=
    by cases o <;> simp [State.postOwner]
@[simp] theorem State.postOwner_tuning (s : State) (n : Source) (o : Option Port) : (s.postOwner n o).tuning = s.tuning :=
    by cases o <;> simp [State.postOwner]
@[simp] theorem State.postOwner_link (s : State) (n : Source) (o : Option Port) : (s.postOwner n o).link = s.link :=
    by cases o <;> simp [State.postOwner]
@[simp] theorem State.postOwner_time (s : State) (n : Source) (o : Option Port) : (s.postOwner n o).time = s.time :=
    by cases o <;> simp [State.postOwner]
@[simp] theorem State.postOwner_pending (s : State) (n : Source) (o : Option Port) : (s.postOwner n o).pending = s.pending :=
    by cases o <;> simp [State.postOwner]

/-! ### State.reportPass -/

@[simp] theorem State.reportPass_claims (s : State) : (s.reportPass).claims = s.claims :=
    by unfold State.reportPass; (repeat' split) <;> simp
@[simp] theorem State.reportPass_interlock (s : State) : (s.reportPass).interlock = s.interlock :=
    by unfold State.reportPass; (repeat' split) <;> simp
@[simp] theorem State.reportPass_sensors (s : State) : (s.reportPass).sensors = s.sensors :=
    by unfold State.reportPass; (repeat' split) <;> simp
@[simp] theorem State.reportPass_drives (s : State) : (s.reportPass).drives = s.drives :=
    by unfold State.reportPass; (repeat' split) <;> simp
@[simp] theorem State.reportPass_rotor (s : State) : (s.reportPass).rotor = s.rotor :=
    by unfold State.reportPass; (repeat' split) <;> simp
@[simp] theorem State.reportPass_batch (s : State) : (s.reportPass).batch = s.batch :=
    by unfold State.reportPass; (repeat' split) <;> simp
@[simp] theorem State.reportPass_ports (s : State) : (s.reportPass).ports = s.ports :=
    by unfold State.reportPass; (repeat' split) <;> simp
@[simp] theorem State.reportPass_tuning (s : State) : (s.reportPass).tuning = s.tuning :=
    by unfold State.reportPass; (repeat' split) <;> simp
@[simp] theorem State.reportPass_link (s : State) : (s.reportPass).link = s.link :=
    by unfold State.reportPass; (repeat' split) <;> simp
@[simp] theorem State.reportPass_time (s : State) : (s.reportPass).time = s.time :=
    by unfold State.reportPass; (repeat' split) <;> simp
@[simp] theorem State.reportPass_pending (s : State) : (s.reportPass).pending = s.pending :=
    by unfold State.reportPass; (repeat' split) <;> simp

/-! ### State.setLatchCommand -/

@[simp] theorem State.setLatchCommand_claims (s : State) (k : LatchCommand) : (s.setLatchCommand k).claims = s.claims :=
    by unfold State.setLatchCommand; (repeat' split) <;> simp
@[simp] theorem State.setLatchCommand_arbiter (s : State) (k : LatchCommand) : (s.setLatchCommand k).arbiter = s.arbiter :=
    by unfold State.setLatchCommand; (repeat' split) <;> simp
@[simp] theorem State.setLatchCommand_sensors (s : State) (k : LatchCommand) : (s.setLatchCommand k).sensors = s.sensors :=
    by unfold State.setLatchCommand; (repeat' split) <;> simp
@[simp] theorem State.setLatchCommand_drives (s : State) (k : LatchCommand) : (s.setLatchCommand k).drives = s.drives :=
    by unfold State.setLatchCommand; (repeat' split) <;> simp
@[simp] theorem State.setLatchCommand_rotor (s : State) (k : LatchCommand) : (s.setLatchCommand k).rotor = s.rotor :=
    by unfold State.setLatchCommand; (repeat' split) <;> simp
@[simp] theorem State.setLatchCommand_batch (s : State) (k : LatchCommand) : (s.setLatchCommand k).batch = s.batch :=
    by unfold State.setLatchCommand; (repeat' split) <;> simp
@[simp] theorem State.setLatchCommand_ports (s : State) (k : LatchCommand) : (s.setLatchCommand k).ports = s.ports :=
    by unfold State.setLatchCommand; (repeat' split) <;> simp
@[simp] theorem State.setLatchCommand_tuning (s : State) (k : LatchCommand) : (s.setLatchCommand k).tuning = s.tuning :=
    by unfold State.setLatchCommand; (repeat' split) <;> simp
@[simp] theorem State.setLatchCommand_link (s : State) (k : LatchCommand) : (s.setLatchCommand k).link = s.link :=
    by unfold State.setLatchCommand; (repeat' split) <;> simp
@[simp] theorem State.setLatchCommand_time (s : State) (k : LatchCommand) : (s.setLatchCommand k).time = s.time :=
    by unfold State.setLatchCommand; (repeat' split) <;> simp
@[simp] theorem State.setLatchCommand_pending (s : State) (k : LatchCommand) : (s.setLatchCommand k).pending = s.pending :=
    by unfold State.setLatchCommand; (repeat' split) <;> simp

/-! ### State.enterGranted -/

@[simp] theorem State.enterGranted_arbiter (s : State) (i : ClaimIdx) : (s.enterGranted i).arbiter = s.arbiter := by
  unfold State.enterGranted
  simp only
  split <;> simp
@[simp] theorem State.enterGranted_interlock (s : State) (i : ClaimIdx) : (s.enterGranted i).interlock = s.interlock := by
  unfold State.enterGranted
  simp only
  split <;> simp
@[simp] theorem State.enterGranted_sensors (s : State) (i : ClaimIdx) : (s.enterGranted i).sensors = s.sensors := by
  unfold State.enterGranted
  simp only
  split <;> simp
@[simp] theorem State.enterGranted_batch (s : State) (i : ClaimIdx) : (s.enterGranted i).batch = s.batch := by
  unfold State.enterGranted
  simp only
  split <;> simp
@[simp] theorem State.enterGranted_tuning (s : State) (i : ClaimIdx) : (s.enterGranted i).tuning = s.tuning := by
  unfold State.enterGranted
  simp only
  split <;> simp
@[simp] theorem State.enterGranted_link (s : State) (i : ClaimIdx) : (s.enterGranted i).link = s.link := by
  unfold State.enterGranted
  simp only
  split <;> simp
@[simp] theorem State.enterGranted_time (s : State) (i : ClaimIdx) : (s.enterGranted i).time = s.time := by
  unfold State.enterGranted
  simp only
  split <;> simp
@[simp] theorem State.enterGranted_pending (s : State) (i : ClaimIdx) : (s.enterGranted i).pending = s.pending := by
  unfold State.enterGranted
  simp only
  split <;> simp

/-! ### State.resumeOne -/

@[simp] theorem State.resumeOne_arbiter (s : State) (i : ClaimIdx) : (s.resumeOne i).arbiter = s.arbiter :=
    by unfold State.resumeOne; (repeat' split) <;> simp
@[simp] theorem State.resumeOne_interlock (s : State) (i : ClaimIdx) : (s.resumeOne i).interlock = s.interlock :=
    by unfold State.resumeOne; (repeat' split) <;> simp
@[simp] theorem State.resumeOne_sensors (s : State) (i : ClaimIdx) : (s.resumeOne i).sensors = s.sensors :=
    by unfold State.resumeOne; (repeat' split) <;> simp
@[simp] theorem State.resumeOne_batch (s : State) (i : ClaimIdx) : (s.resumeOne i).batch = s.batch :=
    by unfold State.resumeOne; (repeat' split) <;> simp
@[simp] theorem State.resumeOne_tuning (s : State) (i : ClaimIdx) : (s.resumeOne i).tuning = s.tuning :=
    by unfold State.resumeOne; (repeat' split) <;> simp
@[simp] theorem State.resumeOne_link (s : State) (i : ClaimIdx) : (s.resumeOne i).link = s.link :=
    by unfold State.resumeOne; (repeat' split) <;> simp
@[simp] theorem State.resumeOne_time (s : State) (i : ClaimIdx) : (s.resumeOne i).time = s.time :=
    by unfold State.resumeOne; (repeat' split) <;> simp
@[simp] theorem State.resumeOne_pending (s : State) (i : ClaimIdx) : (s.resumeOne i).pending = s.pending :=
    by unfold State.resumeOne; (repeat' split) <;> simp

/-! ### State.resumeAll -/

@[simp] theorem State.resumeAll_arbiter (s : State) : (s.resumeAll).arbiter = s.arbiter :=
    foldl_keeps (·.arbiter) _ (fun s i => by simp) _ s
@[simp] theorem State.resumeAll_interlock (s : State) : (s.resumeAll).interlock = s.interlock :=
    foldl_keeps (·.interlock) _ (fun s i => by simp) _ s
@[simp] theorem State.resumeAll_sensors (s : State) : (s.resumeAll).sensors = s.sensors :=
    foldl_keeps (·.sensors) _ (fun s i => by simp) _ s
@[simp] theorem State.resumeAll_batch (s : State) : (s.resumeAll).batch = s.batch :=
    foldl_keeps (·.batch) _ (fun s i => by simp) _ s
@[simp] theorem State.resumeAll_tuning (s : State) : (s.resumeAll).tuning = s.tuning :=
    foldl_keeps (·.tuning) _ (fun s i => by simp) _ s
@[simp] theorem State.resumeAll_link (s : State) : (s.resumeAll).link = s.link :=
    foldl_keeps (·.link) _ (fun s i => by simp) _ s
@[simp] theorem State.resumeAll_time (s : State) : (s.resumeAll).time = s.time :=
    foldl_keeps (·.time) _ (fun s i => by simp) _ s
@[simp] theorem State.resumeAll_pending (s : State) : (s.resumeAll).pending = s.pending :=
    foldl_keeps (·.pending) _ (fun s i => by simp) _ s

/-! ### State.followLatch -/

@[simp] theorem State.followLatch_arbiter (s : State) : (s.followLatch).arbiter = s.arbiter := by
  unfold State.followLatch
  simp only
  (repeat' split) <;> simp
@[simp] theorem State.followLatch_sensors (s : State) : (s.followLatch).sensors = s.sensors := by
  unfold State.followLatch
  simp only
  (repeat' split) <;> simp
@[simp] theorem State.followLatch_batch (s : State) : (s.followLatch).batch = s.batch := by
  unfold State.followLatch
  simp only
  (repeat' split) <;> simp
@[simp] theorem State.followLatch_tuning (s : State) : (s.followLatch).tuning = s.tuning := by
  unfold State.followLatch
  simp only
  (repeat' split) <;> simp
@[simp] theorem State.followLatch_link (s : State) : (s.followLatch).link = s.link := by
  unfold State.followLatch
  simp only
  (repeat' split) <;> simp
@[simp] theorem State.followLatch_time (s : State) : (s.followLatch).time = s.time := by
  unfold State.followLatch
  simp only
  (repeat' split) <;> simp
@[simp] theorem State.followLatch_pending (s : State) : (s.followLatch).pending = s.pending := by
  unfold State.followLatch
  simp only
  (repeat' split) <;> simp

/-! ### State.followRotor -/

@[simp] theorem State.followRotor_claims (s : State) : (s.followRotor).claims = s.claims :=
    by unfold State.followRotor; (repeat' split) <;> simp
@[simp] theorem State.followRotor_arbiter (s : State) : (s.followRotor).arbiter = s.arbiter :=
    by unfold State.followRotor; (repeat' split) <;> simp
@[simp] theorem State.followRotor_interlock (s : State) : (s.followRotor).interlock = s.interlock :=
    by unfold State.followRotor; (repeat' split) <;> simp
@[simp] theorem State.followRotor_sensors (s : State) : (s.followRotor).sensors = s.sensors :=
    by unfold State.followRotor; (repeat' split) <;> simp
@[simp] theorem State.followRotor_drives (s : State) : (s.followRotor).drives = s.drives :=
    by unfold State.followRotor; (repeat' split) <;> simp
@[simp] theorem State.followRotor_batch (s : State) : (s.followRotor).batch = s.batch :=
    by unfold State.followRotor; (repeat' split) <;> simp
@[simp] theorem State.followRotor_ports (s : State) : (s.followRotor).ports = s.ports :=
    by unfold State.followRotor; (repeat' split) <;> simp
@[simp] theorem State.followRotor_tuning (s : State) : (s.followRotor).tuning = s.tuning :=
    by unfold State.followRotor; (repeat' split) <;> simp
@[simp] theorem State.followRotor_link (s : State) : (s.followRotor).link = s.link :=
    by unfold State.followRotor; (repeat' split) <;> simp
@[simp] theorem State.followRotor_time (s : State) : (s.followRotor).time = s.time :=
    by unfold State.followRotor; (repeat' split) <;> simp
@[simp] theorem State.followRotor_pending (s : State) : (s.followRotor).pending = s.pending :=
    by unfold State.followRotor; (repeat' split) <;> simp

/-! ### State.followHeater -/

@[simp] theorem State.followHeater_claims (s : State) : (s.followHeater).claims = s.claims :=
    by unfold State.followHeater; (repeat' split) <;> simp
@[simp] theorem State.followHeater_arbiter (s : State) : (s.followHeater).arbiter = s.arbiter :=
    by unfold State.followHeater; (repeat' split) <;> simp
@[simp] theorem State.followHeater_interlock (s : State) : (s.followHeater).interlock = s.interlock :=
    by unfold State.followHeater; (repeat' split) <;> simp
@[simp] theorem State.followHeater_sensors (s : State) : (s.followHeater).sensors = s.sensors :=
    by unfold State.followHeater; (repeat' split) <;> simp
@[simp] theorem State.followHeater_rotor (s : State) : (s.followHeater).rotor = s.rotor :=
    by unfold State.followHeater; (repeat' split) <;> simp
@[simp] theorem State.followHeater_batch (s : State) : (s.followHeater).batch = s.batch :=
    by unfold State.followHeater; (repeat' split) <;> simp
@[simp] theorem State.followHeater_ports (s : State) : (s.followHeater).ports = s.ports :=
    by unfold State.followHeater; (repeat' split) <;> simp
@[simp] theorem State.followHeater_tuning (s : State) : (s.followHeater).tuning = s.tuning :=
    by unfold State.followHeater; (repeat' split) <;> simp
@[simp] theorem State.followHeater_link (s : State) : (s.followHeater).link = s.link :=
    by unfold State.followHeater; (repeat' split) <;> simp
@[simp] theorem State.followHeater_time (s : State) : (s.followHeater).time = s.time :=
    by unfold State.followHeater; (repeat' split) <;> simp
@[simp] theorem State.followHeater_pending (s : State) : (s.followHeater).pending = s.pending :=
    by unfold State.followHeater; (repeat' split) <;> simp

/-! ### State.settleOutputs -/

@[simp] theorem State.settleOutputs_arbiter (s : State) : (s.settleOutputs).arbiter = s.arbiter :=
    by simp [State.settleOutputs]
@[simp] theorem State.settleOutputs_sensors (s : State) : (s.settleOutputs).sensors = s.sensors :=
    by simp [State.settleOutputs]
@[simp] theorem State.settleOutputs_batch (s : State) : (s.settleOutputs).batch = s.batch :=
    by simp [State.settleOutputs]
@[simp] theorem State.settleOutputs_tuning (s : State) : (s.settleOutputs).tuning = s.tuning :=
    by simp [State.settleOutputs]
@[simp] theorem State.settleOutputs_link (s : State) : (s.settleOutputs).link = s.link :=
    by simp [State.settleOutputs]
@[simp] theorem State.settleOutputs_time (s : State) : (s.settleOutputs).time = s.time :=
    by simp [State.settleOutputs]
@[simp] theorem State.settleOutputs_pending (s : State) : (s.settleOutputs).pending = s.pending :=
    by simp [State.settleOutputs]

/-! ### State.conclude -/

@[simp] theorem State.conclude_arbiter (s : State) (old : State) : (s.conclude old).arbiter = s.arbiter :=
    by simp [State.conclude]
@[simp] theorem State.conclude_sensors (s : State) (old : State) : (s.conclude old).sensors = s.sensors :=
    by simp [State.conclude]
@[simp] theorem State.conclude_batch (s : State) (old : State) : (s.conclude old).batch = s.batch :=
    by simp [State.conclude]
@[simp] theorem State.conclude_tuning (s : State) (old : State) : (s.conclude old).tuning = s.tuning :=
    by simp [State.conclude]
@[simp] theorem State.conclude_time (s : State) (old : State) : (s.conclude old).time = s.time :=
    by simp [State.conclude]
@[simp] theorem State.conclude_pending (s : State) (old : State) : (s.conclude old).pending = s.pending :=
    by simp [State.conclude]

/-! ### State.chainStep -/

@[simp] theorem State.chainStep_arbiter (s : State) (o : Option Port) (t : Option ClaimIdx) : (s.chainStep o t).arbiter = s.arbiter := by
  unfold State.chainStep
  (repeat' split) <;> simp
@[simp] theorem State.chainStep_interlock (s : State) (o : Option Port) (t : Option ClaimIdx) : (s.chainStep o t).interlock = s.interlock := by
  unfold State.chainStep
  (repeat' split) <;> simp
@[simp] theorem State.chainStep_sensors (s : State) (o : Option Port) (t : Option ClaimIdx) : (s.chainStep o t).sensors = s.sensors := by
  unfold State.chainStep
  (repeat' split) <;> simp
@[simp] theorem State.chainStep_drives (s : State) (o : Option Port) (t : Option ClaimIdx) : (s.chainStep o t).drives = s.drives := by
  unfold State.chainStep
  (repeat' split) <;> simp
@[simp] theorem State.chainStep_rotor (s : State) (o : Option Port) (t : Option ClaimIdx) : (s.chainStep o t).rotor = s.rotor := by
  unfold State.chainStep
  (repeat' split) <;> simp
@[simp] theorem State.chainStep_batch (s : State) (o : Option Port) (t : Option ClaimIdx) : (s.chainStep o t).batch = s.batch := by
  unfold State.chainStep
  (repeat' split) <;> simp
@[simp] theorem State.chainStep_tuning (s : State) (o : Option Port) (t : Option ClaimIdx) : (s.chainStep o t).tuning = s.tuning := by
  unfold State.chainStep
  (repeat' split) <;> simp
@[simp] theorem State.chainStep_link (s : State) (o : Option Port) (t : Option ClaimIdx) : (s.chainStep o t).link = s.link := by
  unfold State.chainStep
  (repeat' split) <;> simp
@[simp] theorem State.chainStep_time (s : State) (o : Option Port) (t : Option ClaimIdx) : (s.chainStep o t).time = s.time := by
  unfold State.chainStep
  (repeat' split) <;> simp
@[simp] theorem State.chainStep_pending (s : State) (o : Option Port) (t : Option ClaimIdx) : (s.chainStep o t).pending = s.pending := by
  unfold State.chainStep
  (repeat' split) <;> simp

/-! ### State.endClaim -/

@[simp] theorem State.endClaim_arbiter (s : State) (i : ClaimIdx) (why : ClaimOutcome) : (s.endClaim i why).arbiter = s.arbiter := by
  unfold State.endClaim
  simp only
  (repeat' split) <;> simp
@[simp] theorem State.endClaim_interlock (s : State) (i : ClaimIdx) (why : ClaimOutcome) : (s.endClaim i why).interlock = s.interlock := by
  unfold State.endClaim
  simp only
  (repeat' split) <;> simp
@[simp] theorem State.endClaim_sensors (s : State) (i : ClaimIdx) (why : ClaimOutcome) : (s.endClaim i why).sensors = s.sensors := by
  unfold State.endClaim
  simp only
  (repeat' split) <;> simp
@[simp] theorem State.endClaim_drives (s : State) (i : ClaimIdx) (why : ClaimOutcome) : (s.endClaim i why).drives = s.drives := by
  unfold State.endClaim
  simp only
  (repeat' split) <;> simp
@[simp] theorem State.endClaim_rotor (s : State) (i : ClaimIdx) (why : ClaimOutcome) : (s.endClaim i why).rotor = s.rotor := by
  unfold State.endClaim
  simp only
  (repeat' split) <;> simp
@[simp] theorem State.endClaim_batch (s : State) (i : ClaimIdx) (why : ClaimOutcome) : (s.endClaim i why).batch = s.batch := by
  unfold State.endClaim
  simp only
  (repeat' split) <;> simp
@[simp] theorem State.endClaim_tuning (s : State) (i : ClaimIdx) (why : ClaimOutcome) : (s.endClaim i why).tuning = s.tuning := by
  unfold State.endClaim
  simp only
  (repeat' split) <;> simp
@[simp] theorem State.endClaim_link (s : State) (i : ClaimIdx) (why : ClaimOutcome) : (s.endClaim i why).link = s.link := by
  unfold State.endClaim
  simp only
  (repeat' split) <;> simp
@[simp] theorem State.endClaim_time (s : State) (i : ClaimIdx) (why : ClaimOutcome) : (s.endClaim i why).time = s.time := by
  unfold State.endClaim
  simp only
  (repeat' split) <;> simp
@[simp] theorem State.endClaim_pending (s : State) (i : ClaimIdx) (why : ClaimOutcome) : (s.endClaim i why).pending = s.pending := by
  unfold State.endClaim
  simp only
  (repeat' split) <;> simp

/-! ### State.endAndReport -/

@[simp] theorem State.endAndReport_interlock (s : State) (i : ClaimIdx) (why : ClaimOutcome) : (s.endAndReport i why).interlock = s.interlock :=
    by simp [State.endAndReport]
@[simp] theorem State.endAndReport_sensors (s : State) (i : ClaimIdx) (why : ClaimOutcome) : (s.endAndReport i why).sensors = s.sensors :=
    by simp [State.endAndReport]
@[simp] theorem State.endAndReport_drives (s : State) (i : ClaimIdx) (why : ClaimOutcome) : (s.endAndReport i why).drives = s.drives :=
    by simp [State.endAndReport]
@[simp] theorem State.endAndReport_rotor (s : State) (i : ClaimIdx) (why : ClaimOutcome) : (s.endAndReport i why).rotor = s.rotor :=
    by simp [State.endAndReport]
@[simp] theorem State.endAndReport_batch (s : State) (i : ClaimIdx) (why : ClaimOutcome) : (s.endAndReport i why).batch = s.batch :=
    by simp [State.endAndReport]
@[simp] theorem State.endAndReport_tuning (s : State) (i : ClaimIdx) (why : ClaimOutcome) : (s.endAndReport i why).tuning = s.tuning :=
    by simp [State.endAndReport]
@[simp] theorem State.endAndReport_link (s : State) (i : ClaimIdx) (why : ClaimOutcome) : (s.endAndReport i why).link = s.link :=
    by simp [State.endAndReport]
@[simp] theorem State.endAndReport_time (s : State) (i : ClaimIdx) (why : ClaimOutcome) : (s.endAndReport i why).time = s.time :=
    by simp [State.endAndReport]
@[simp] theorem State.endAndReport_pending (s : State) (i : ClaimIdx) (why : ClaimOutcome) : (s.endAndReport i why).pending = s.pending :=
    by simp [State.endAndReport]

/-! ### State.holdOne -/

@[simp] theorem State.holdOne_interlock (s : State) (i : ClaimIdx) : (s.holdOne i).interlock = s.interlock := by
  unfold State.holdOne
  simp only
  (repeat' split) <;> simp
@[simp] theorem State.holdOne_sensors (s : State) (i : ClaimIdx) : (s.holdOne i).sensors = s.sensors := by
  unfold State.holdOne
  simp only
  (repeat' split) <;> simp
@[simp] theorem State.holdOne_drives (s : State) (i : ClaimIdx) : (s.holdOne i).drives = s.drives := by
  unfold State.holdOne
  simp only
  (repeat' split) <;> simp
@[simp] theorem State.holdOne_rotor (s : State) (i : ClaimIdx) : (s.holdOne i).rotor = s.rotor := by
  unfold State.holdOne
  simp only
  (repeat' split) <;> simp
@[simp] theorem State.holdOne_batch (s : State) (i : ClaimIdx) : (s.holdOne i).batch = s.batch := by
  unfold State.holdOne
  simp only
  (repeat' split) <;> simp
@[simp] theorem State.holdOne_tuning (s : State) (i : ClaimIdx) : (s.holdOne i).tuning = s.tuning := by
  unfold State.holdOne
  simp only
  (repeat' split) <;> simp
@[simp] theorem State.holdOne_link (s : State) (i : ClaimIdx) : (s.holdOne i).link = s.link := by
  unfold State.holdOne
  simp only
  (repeat' split) <;> simp
@[simp] theorem State.holdOne_time (s : State) (i : ClaimIdx) : (s.holdOne i).time = s.time := by
  unfold State.holdOne
  simp only
  (repeat' split) <;> simp
@[simp] theorem State.holdOne_pending (s : State) (i : ClaimIdx) : (s.holdOne i).pending = s.pending := by
  unfold State.holdOne
  simp only
  (repeat' split) <;> simp

/-! ### State.holdAll -/

@[simp] theorem State.holdAll_interlock (s : State) : (s.holdAll).interlock = s.interlock :=
    foldl_keeps (·.interlock) _ (fun s i => by simp) _ s
@[simp] theorem State.holdAll_sensors (s : State) : (s.holdAll).sensors = s.sensors :=
    foldl_keeps (·.sensors) _ (fun s i => by simp) _ s
@[simp] theorem State.holdAll_drives (s : State) : (s.holdAll).drives = s.drives :=
    foldl_keeps (·.drives) _ (fun s i => by simp) _ s
@[simp] theorem State.holdAll_rotor (s : State) : (s.holdAll).rotor = s.rotor :=
    foldl_keeps (·.rotor) _ (fun s i => by simp) _ s
@[simp] theorem State.holdAll_batch (s : State) : (s.holdAll).batch = s.batch :=
    foldl_keeps (·.batch) _ (fun s i => by simp) _ s
@[simp] theorem State.holdAll_tuning (s : State) : (s.holdAll).tuning = s.tuning :=
    foldl_keeps (·.tuning) _ (fun s i => by simp) _ s
@[simp] theorem State.holdAll_link (s : State) : (s.holdAll).link = s.link :=
    foldl_keeps (·.link) _ (fun s i => by simp) _ s
@[simp] theorem State.holdAll_time (s : State) : (s.holdAll).time = s.time :=
    foldl_keeps (·.time) _ (fun s i => by simp) _ s
@[simp] theorem State.holdAll_pending (s : State) : (s.holdAll).pending = s.pending :=
    foldl_keeps (·.pending) _ (fun s i => by simp) _ s

/-! ### State.jamEnd -/

@[simp] theorem State.jamEnd_interlock (s : State) : (s.jamEnd).interlock = s.interlock :=
    by unfold State.jamEnd; (repeat' split) <;> simp
@[simp] theorem State.jamEnd_sensors (s : State) : (s.jamEnd).sensors = s.sensors :=
    by unfold State.jamEnd; (repeat' split) <;> simp
@[simp] theorem State.jamEnd_drives (s : State) : (s.jamEnd).drives = s.drives :=
    by unfold State.jamEnd; (repeat' split) <;> simp
@[simp] theorem State.jamEnd_rotor (s : State) : (s.jamEnd).rotor = s.rotor :=
    by unfold State.jamEnd; (repeat' split) <;> simp
@[simp] theorem State.jamEnd_batch (s : State) : (s.jamEnd).batch = s.batch :=
    by unfold State.jamEnd; (repeat' split) <;> simp
@[simp] theorem State.jamEnd_tuning (s : State) : (s.jamEnd).tuning = s.tuning :=
    by unfold State.jamEnd; (repeat' split) <;> simp
@[simp] theorem State.jamEnd_link (s : State) : (s.jamEnd).link = s.link :=
    by unfold State.jamEnd; (repeat' split) <;> simp
@[simp] theorem State.jamEnd_time (s : State) : (s.jamEnd).time = s.time :=
    by unfold State.jamEnd; (repeat' split) <;> simp
@[simp] theorem State.jamEnd_pending (s : State) : (s.jamEnd).pending = s.pending :=
    by unfold State.jamEnd; (repeat' split) <;> simp

/-! ### State.tripEvent -/

@[simp] theorem State.tripEvent_sensors (s : State) (c : Cause) : (s.tripEvent c).sensors = s.sensors := by
  unfold State.tripEvent
  simp only
  (repeat' split) <;> simp
@[simp] theorem State.tripEvent_drives (s : State) (c : Cause) : (s.tripEvent c).drives = s.drives := by
  unfold State.tripEvent
  simp only
  (repeat' split) <;> simp
@[simp] theorem State.tripEvent_rotor (s : State) (c : Cause) : (s.tripEvent c).rotor = s.rotor := by
  unfold State.tripEvent
  simp only
  (repeat' split) <;> simp
@[simp] theorem State.tripEvent_batch (s : State) (c : Cause) : (s.tripEvent c).batch = s.batch := by
  unfold State.tripEvent
  simp only
  (repeat' split) <;> simp
@[simp] theorem State.tripEvent_tuning (s : State) (c : Cause) : (s.tripEvent c).tuning = s.tuning := by
  unfold State.tripEvent
  simp only
  (repeat' split) <;> simp
@[simp] theorem State.tripEvent_link (s : State) (c : Cause) : (s.tripEvent c).link = s.link := by
  unfold State.tripEvent
  simp only
  (repeat' split) <;> simp
@[simp] theorem State.tripEvent_time (s : State) (c : Cause) : (s.tripEvent c).time = s.time := by
  unfold State.tripEvent
  simp only
  (repeat' split) <;> simp
@[simp] theorem State.tripEvent_pending (s : State) (c : Cause) : (s.tripEvent c).pending = s.pending := by
  unfold State.tripEvent
  simp only
  (repeat' split) <;> simp

/-! ### State.raise -/

@[simp] theorem State.raise_sensors (s : State) (c : Cause) : (s.raise c).sensors = s.sensors :=
    by unfold State.raise; (repeat' split) <;> simp
@[simp] theorem State.raise_drives (s : State) (c : Cause) : (s.raise c).drives = s.drives :=
    by unfold State.raise; (repeat' split) <;> simp
@[simp] theorem State.raise_rotor (s : State) (c : Cause) : (s.raise c).rotor = s.rotor :=
    by unfold State.raise; (repeat' split) <;> simp
@[simp] theorem State.raise_batch (s : State) (c : Cause) : (s.raise c).batch = s.batch :=
    by unfold State.raise; (repeat' split) <;> simp
@[simp] theorem State.raise_tuning (s : State) (c : Cause) : (s.raise c).tuning = s.tuning :=
    by unfold State.raise; (repeat' split) <;> simp
@[simp] theorem State.raise_link (s : State) (c : Cause) : (s.raise c).link = s.link :=
    by unfold State.raise; (repeat' split) <;> simp
@[simp] theorem State.raise_time (s : State) (c : Cause) : (s.raise c).time = s.time :=
    by unfold State.raise; (repeat' split) <;> simp
@[simp] theorem State.raise_pending (s : State) (c : Cause) : (s.raise c).pending = s.pending :=
    by unfold State.raise; (repeat' split) <;> simp

/-! ### State.securedLost -/

@[simp] theorem State.securedLost_sensors (s : State) : (s.securedLost).sensors = s.sensors :=
    by simp [State.securedLost]
@[simp] theorem State.securedLost_drives (s : State) : (s.securedLost).drives = s.drives :=
    by simp [State.securedLost]
@[simp] theorem State.securedLost_rotor (s : State) : (s.securedLost).rotor = s.rotor :=
    by simp [State.securedLost]
@[simp] theorem State.securedLost_tuning (s : State) : (s.securedLost).tuning = s.tuning :=
    by simp [State.securedLost]
@[simp] theorem State.securedLost_link (s : State) : (s.securedLost).link = s.link :=
    by simp [State.securedLost]
@[simp] theorem State.securedLost_time (s : State) : (s.securedLost).time = s.time :=
    by simp [State.securedLost]
@[simp] theorem State.securedLost_pending (s : State) : (s.securedLost).pending = s.pending :=
    by simp [State.securedLost]

/-! ### State.securedGained -/

@[simp] theorem State.securedGained_sensors (s : State) : (s.securedGained).sensors = s.sensors := by
  unfold State.securedGained
  simp only
  (repeat' split) <;> simp
@[simp] theorem State.securedGained_tuning (s : State) : (s.securedGained).tuning = s.tuning := by
  unfold State.securedGained
  simp only
  (repeat' split) <;> simp
@[simp] theorem State.securedGained_link (s : State) : (s.securedGained).link = s.link := by
  unfold State.securedGained
  simp only
  (repeat' split) <;> simp
@[simp] theorem State.securedGained_time (s : State) : (s.securedGained).time = s.time := by
  unfold State.securedGained
  simp only
  (repeat' split) <;> simp
@[simp] theorem State.securedGained_pending (s : State) : (s.securedGained).pending = s.pending := by
  unfold State.securedGained
  simp only
  (repeat' split) <;> simp

/-! ### State.deriveSecured -/

@[simp] theorem State.deriveSecured_sensors (s : State) : (s.deriveSecured).sensors = s.sensors :=
    by unfold State.deriveSecured; (repeat' split) <;> simp
@[simp] theorem State.deriveSecured_tuning (s : State) : (s.deriveSecured).tuning = s.tuning :=
    by unfold State.deriveSecured; (repeat' split) <;> simp
@[simp] theorem State.deriveSecured_link (s : State) : (s.deriveSecured).link = s.link :=
    by unfold State.deriveSecured; (repeat' split) <;> simp
@[simp] theorem State.deriveSecured_time (s : State) : (s.deriveSecured).time = s.time :=
    by unfold State.deriveSecured; (repeat' split) <;> simp
@[simp] theorem State.deriveSecured_pending (s : State) : (s.deriveSecured).pending = s.pending :=
    by unfold State.deriveSecured; (repeat' split) <;> simp

/-! ### State.judgeForced -/

@[simp] theorem State.judgeForced_sensors (s : State) (opened : Bool) : (s.judgeForced opened).sensors = s.sensors :=
    by unfold State.judgeForced; (repeat' split) <;> simp
@[simp] theorem State.judgeForced_drives (s : State) (opened : Bool) : (s.judgeForced opened).drives = s.drives :=
    by unfold State.judgeForced; (repeat' split) <;> simp
@[simp] theorem State.judgeForced_rotor (s : State) (opened : Bool) : (s.judgeForced opened).rotor = s.rotor :=
    by unfold State.judgeForced; (repeat' split) <;> simp
@[simp] theorem State.judgeForced_batch (s : State) (opened : Bool) : (s.judgeForced opened).batch = s.batch :=
    by unfold State.judgeForced; (repeat' split) <;> simp
@[simp] theorem State.judgeForced_tuning (s : State) (opened : Bool) : (s.judgeForced opened).tuning = s.tuning :=
    by unfold State.judgeForced; (repeat' split) <;> simp
@[simp] theorem State.judgeForced_link (s : State) (opened : Bool) : (s.judgeForced opened).link = s.link :=
    by unfold State.judgeForced; (repeat' split) <;> simp
@[simp] theorem State.judgeForced_time (s : State) (opened : Bool) : (s.judgeForced opened).time = s.time :=
    by unfold State.judgeForced; (repeat' split) <;> simp
@[simp] theorem State.judgeForced_pending (s : State) (opened : Bool) : (s.judgeForced opened).pending = s.pending :=
    by unfold State.judgeForced; (repeat' split) <;> simp

/-! ### State.takeGrant -/

@[simp] theorem State.takeGrant_sensors (s : State) (i : ClaimIdx) (arming : Word) : (s.takeGrant i arming).sensors = s.sensors := by
  unfold State.takeGrant
  simp only
  (repeat' split) <;> simp
@[simp] theorem State.takeGrant_batch (s : State) (i : ClaimIdx) (arming : Word) : (s.takeGrant i arming).batch = s.batch := by
  unfold State.takeGrant
  simp only
  (repeat' split) <;> simp
@[simp] theorem State.takeGrant_tuning (s : State) (i : ClaimIdx) (arming : Word) : (s.takeGrant i arming).tuning = s.tuning := by
  unfold State.takeGrant
  simp only
  (repeat' split) <;> simp
@[simp] theorem State.takeGrant_time (s : State) (i : ClaimIdx) (arming : Word) : (s.takeGrant i arming).time = s.time := by
  unfold State.takeGrant
  simp only
  (repeat' split) <;> simp
@[simp] theorem State.takeGrant_pending (s : State) (i : ClaimIdx) (arming : Word) : (s.takeGrant i arming).pending = s.pending := by
  unfold State.takeGrant
  simp only
  (repeat' split) <;> simp

/-! ### State.applyYield -/

@[simp] theorem State.applyYield_arbiter (s : State) (i : ClaimIdx) : (s.applyYield i).arbiter = s.arbiter := by
  unfold State.applyYield
  simp only
  (repeat' split) <;> simp
@[simp] theorem State.applyYield_interlock (s : State) (i : ClaimIdx) : (s.applyYield i).interlock = s.interlock := by
  unfold State.applyYield
  simp only
  (repeat' split) <;> simp
@[simp] theorem State.applyYield_sensors (s : State) (i : ClaimIdx) : (s.applyYield i).sensors = s.sensors := by
  unfold State.applyYield
  simp only
  (repeat' split) <;> simp
@[simp] theorem State.applyYield_drives (s : State) (i : ClaimIdx) : (s.applyYield i).drives = s.drives := by
  unfold State.applyYield
  simp only
  (repeat' split) <;> simp
@[simp] theorem State.applyYield_rotor (s : State) (i : ClaimIdx) : (s.applyYield i).rotor = s.rotor := by
  unfold State.applyYield
  simp only
  (repeat' split) <;> simp
@[simp] theorem State.applyYield_batch (s : State) (i : ClaimIdx) : (s.applyYield i).batch = s.batch := by
  unfold State.applyYield
  simp only
  (repeat' split) <;> simp
@[simp] theorem State.applyYield_tuning (s : State) (i : ClaimIdx) : (s.applyYield i).tuning = s.tuning := by
  unfold State.applyYield
  simp only
  (repeat' split) <;> simp
@[simp] theorem State.applyYield_link (s : State) (i : ClaimIdx) : (s.applyYield i).link = s.link := by
  unfold State.applyYield
  simp only
  (repeat' split) <;> simp
@[simp] theorem State.applyYield_time (s : State) (i : ClaimIdx) : (s.applyYield i).time = s.time := by
  unfold State.applyYield
  simp only
  (repeat' split) <;> simp
@[simp] theorem State.applyYield_pending (s : State) (i : ClaimIdx) : (s.applyYield i).pending = s.pending := by
  unfold State.applyYield
  simp only
  (repeat' split) <;> simp

/-! ### State.takeYield -/

@[simp] theorem State.takeYield_sensors (s : State) (i : ClaimIdx) (displaced : Bool) : (s.takeYield i displaced).sensors = s.sensors := by
  unfold State.takeYield
  simp only
  (repeat' split) <;> simp
@[simp] theorem State.takeYield_batch (s : State) (i : ClaimIdx) (displaced : Bool) : (s.takeYield i displaced).batch = s.batch := by
  unfold State.takeYield
  simp only
  (repeat' split) <;> simp
@[simp] theorem State.takeYield_tuning (s : State) (i : ClaimIdx) (displaced : Bool) : (s.takeYield i displaced).tuning = s.tuning := by
  unfold State.takeYield
  simp only
  (repeat' split) <;> simp
@[simp] theorem State.takeYield_time (s : State) (i : ClaimIdx) (displaced : Bool) : (s.takeYield i displaced).time = s.time := by
  unfold State.takeYield
  simp only
  (repeat' split) <;> simp
@[simp] theorem State.takeYield_pending (s : State) (i : ClaimIdx) (displaced : Bool) : (s.takeYield i displaced).pending = s.pending := by
  unfold State.takeYield
  simp only
  (repeat' split) <;> simp

/-! ### State.takeRequest -/

@[simp] theorem State.takeRequest_sensors (s : State) : (s.takeRequest).sensors = s.sensors :=
    by unfold State.takeRequest; (repeat' split) <;> simp
@[simp] theorem State.takeRequest_batch (s : State) : (s.takeRequest).batch = s.batch :=
    by unfold State.takeRequest; (repeat' split) <;> simp
@[simp] theorem State.takeRequest_tuning (s : State) : (s.takeRequest).tuning = s.tuning :=
    by unfold State.takeRequest; (repeat' split) <;> simp
@[simp] theorem State.takeRequest_time (s : State) : (s.takeRequest).time = s.time :=
    by unfold State.takeRequest; (repeat' split) <;> simp
@[simp] theorem State.takeRequest_pending (s : State) : (s.takeRequest).pending = s.pending :=
    by unfold State.takeRequest; (repeat' split) <;> simp

/-! ### State.applyBudget -/

@[simp] theorem State.applyBudget_claims (s : State) (v : Nat) : (s.applyBudget v).claims = s.claims :=
    by simp [State.applyBudget]
@[simp] theorem State.applyBudget_interlock (s : State) (v : Nat) : (s.applyBudget v).interlock = s.interlock :=
    by simp [State.applyBudget]
@[simp] theorem State.applyBudget_sensors (s : State) (v : Nat) : (s.applyBudget v).sensors = s.sensors :=
    by simp [State.applyBudget]
@[simp] theorem State.applyBudget_drives (s : State) (v : Nat) : (s.applyBudget v).drives = s.drives :=
    by simp [State.applyBudget]
@[simp] theorem State.applyBudget_rotor (s : State) (v : Nat) : (s.applyBudget v).rotor = s.rotor :=
    by simp [State.applyBudget]
@[simp] theorem State.applyBudget_batch (s : State) (v : Nat) : (s.applyBudget v).batch = s.batch :=
    by simp [State.applyBudget]
@[simp] theorem State.applyBudget_ports (s : State) (v : Nat) : (s.applyBudget v).ports = s.ports :=
    by simp [State.applyBudget]
@[simp] theorem State.applyBudget_link (s : State) (v : Nat) : (s.applyBudget v).link = s.link :=
    by simp [State.applyBudget]
@[simp] theorem State.applyBudget_time (s : State) (v : Nat) : (s.applyBudget v).time = s.time :=
    by simp [State.applyBudget]
@[simp] theorem State.applyBudget_pending (s : State) (v : Nat) : (s.applyBudget v).pending = s.pending :=
    by simp [State.applyBudget]

/-! ### State.judgeBudget -/

@[simp] theorem State.judgeBudget_claims (s : State) (p : Port) (v : Nat) : (s.judgeBudget p v).claims = s.claims :=
    by unfold State.judgeBudget; (repeat' split) <;> simp
@[simp] theorem State.judgeBudget_interlock (s : State) (p : Port) (v : Nat) : (s.judgeBudget p v).interlock = s.interlock :=
    by unfold State.judgeBudget; (repeat' split) <;> simp
@[simp] theorem State.judgeBudget_sensors (s : State) (p : Port) (v : Nat) : (s.judgeBudget p v).sensors = s.sensors :=
    by unfold State.judgeBudget; (repeat' split) <;> simp
@[simp] theorem State.judgeBudget_drives (s : State) (p : Port) (v : Nat) : (s.judgeBudget p v).drives = s.drives :=
    by unfold State.judgeBudget; (repeat' split) <;> simp
@[simp] theorem State.judgeBudget_rotor (s : State) (p : Port) (v : Nat) : (s.judgeBudget p v).rotor = s.rotor :=
    by unfold State.judgeBudget; (repeat' split) <;> simp
@[simp] theorem State.judgeBudget_batch (s : State) (p : Port) (v : Nat) : (s.judgeBudget p v).batch = s.batch :=
    by unfold State.judgeBudget; (repeat' split) <;> simp
@[simp] theorem State.judgeBudget_link (s : State) (p : Port) (v : Nat) : (s.judgeBudget p v).link = s.link :=
    by unfold State.judgeBudget; (repeat' split) <;> simp
@[simp] theorem State.judgeBudget_time (s : State) (p : Port) (v : Nat) : (s.judgeBudget p v).time = s.time :=
    by unfold State.judgeBudget; (repeat' split) <;> simp
@[simp] theorem State.judgeBudget_pending (s : State) (p : Port) (v : Nat) : (s.judgeBudget p v).pending = s.pending :=
    by unfold State.judgeBudget; (repeat' split) <;> simp

/-! ### State.takeBudgetWrite -/

@[simp] theorem State.takeBudgetWrite_claims (s : State) : (s.takeBudgetWrite).claims = s.claims :=
    by unfold State.takeBudgetWrite; (repeat' split) <;> simp
@[simp] theorem State.takeBudgetWrite_interlock (s : State) : (s.takeBudgetWrite).interlock = s.interlock :=
    by unfold State.takeBudgetWrite; (repeat' split) <;> simp
@[simp] theorem State.takeBudgetWrite_sensors (s : State) : (s.takeBudgetWrite).sensors = s.sensors :=
    by unfold State.takeBudgetWrite; (repeat' split) <;> simp
@[simp] theorem State.takeBudgetWrite_drives (s : State) : (s.takeBudgetWrite).drives = s.drives :=
    by unfold State.takeBudgetWrite; (repeat' split) <;> simp
@[simp] theorem State.takeBudgetWrite_rotor (s : State) : (s.takeBudgetWrite).rotor = s.rotor :=
    by unfold State.takeBudgetWrite; (repeat' split) <;> simp
@[simp] theorem State.takeBudgetWrite_batch (s : State) : (s.takeBudgetWrite).batch = s.batch :=
    by unfold State.takeBudgetWrite; (repeat' split) <;> simp
@[simp] theorem State.takeBudgetWrite_link (s : State) : (s.takeBudgetWrite).link = s.link :=
    by unfold State.takeBudgetWrite; (repeat' split) <;> simp
@[simp] theorem State.takeBudgetWrite_time (s : State) : (s.takeBudgetWrite).time = s.time :=
    by unfold State.takeBudgetWrite; (repeat' split) <;> simp
@[simp] theorem State.takeBudgetWrite_pending (s : State) : (s.takeBudgetWrite).pending = s.pending :=
    by unfold State.takeBudgetWrite; (repeat' split) <;> simp

/-! ### State.resetEntry -/

@[simp] theorem State.resetEntry_arbiter (s : State) (p : Port) (i : ClaimIdx) : (State.resetEntry p s i).arbiter = s.arbiter := by
  unfold State.resetEntry
  simp only
  (repeat' split) <;> simp
@[simp] theorem State.resetEntry_interlock (s : State) (p : Port) (i : ClaimIdx) : (State.resetEntry p s i).interlock = s.interlock := by
  unfold State.resetEntry
  simp only
  (repeat' split) <;> simp
@[simp] theorem State.resetEntry_sensors (s : State) (p : Port) (i : ClaimIdx) : (State.resetEntry p s i).sensors = s.sensors := by
  unfold State.resetEntry
  simp only
  (repeat' split) <;> simp
@[simp] theorem State.resetEntry_drives (s : State) (p : Port) (i : ClaimIdx) : (State.resetEntry p s i).drives = s.drives := by
  unfold State.resetEntry
  simp only
  (repeat' split) <;> simp
@[simp] theorem State.resetEntry_rotor (s : State) (p : Port) (i : ClaimIdx) : (State.resetEntry p s i).rotor = s.rotor := by
  unfold State.resetEntry
  simp only
  (repeat' split) <;> simp
@[simp] theorem State.resetEntry_batch (s : State) (p : Port) (i : ClaimIdx) : (State.resetEntry p s i).batch = s.batch := by
  unfold State.resetEntry
  simp only
  (repeat' split) <;> simp
@[simp] theorem State.resetEntry_tuning (s : State) (p : Port) (i : ClaimIdx) : (State.resetEntry p s i).tuning = s.tuning := by
  unfold State.resetEntry
  simp only
  (repeat' split) <;> simp
@[simp] theorem State.resetEntry_link (s : State) (p : Port) (i : ClaimIdx) : (State.resetEntry p s i).link = s.link := by
  unfold State.resetEntry
  simp only
  (repeat' split) <;> simp
@[simp] theorem State.resetEntry_time (s : State) (p : Port) (i : ClaimIdx) : (State.resetEntry p s i).time = s.time := by
  unfold State.resetEntry
  simp only
  (repeat' split) <;> simp
@[simp] theorem State.resetEntry_pending (s : State) (p : Port) (i : ClaimIdx) : (State.resetEntry p s i).pending = s.pending := by
  unfold State.resetEntry
  simp only
  (repeat' split) <;> simp

/-! ### State.resetEntries -/

@[simp] theorem State.resetEntries_arbiter (s : State) (p : Port) : (s.resetEntries p).arbiter = s.arbiter :=
    foldl_keeps (·.arbiter) _ (fun s i => by simp) _ s
@[simp] theorem State.resetEntries_interlock (s : State) (p : Port) : (s.resetEntries p).interlock = s.interlock :=
    foldl_keeps (·.interlock) _ (fun s i => by simp) _ s
@[simp] theorem State.resetEntries_sensors (s : State) (p : Port) : (s.resetEntries p).sensors = s.sensors :=
    foldl_keeps (·.sensors) _ (fun s i => by simp) _ s
@[simp] theorem State.resetEntries_drives (s : State) (p : Port) : (s.resetEntries p).drives = s.drives :=
    foldl_keeps (·.drives) _ (fun s i => by simp) _ s
@[simp] theorem State.resetEntries_rotor (s : State) (p : Port) : (s.resetEntries p).rotor = s.rotor :=
    foldl_keeps (·.rotor) _ (fun s i => by simp) _ s
@[simp] theorem State.resetEntries_batch (s : State) (p : Port) : (s.resetEntries p).batch = s.batch :=
    foldl_keeps (·.batch) _ (fun s i => by simp) _ s
@[simp] theorem State.resetEntries_tuning (s : State) (p : Port) : (s.resetEntries p).tuning = s.tuning :=
    foldl_keeps (·.tuning) _ (fun s i => by simp) _ s
@[simp] theorem State.resetEntries_link (s : State) (p : Port) : (s.resetEntries p).link = s.link :=
    foldl_keeps (·.link) _ (fun s i => by simp) _ s
@[simp] theorem State.resetEntries_time (s : State) (p : Port) : (s.resetEntries p).time = s.time :=
    foldl_keeps (·.time) _ (fun s i => by simp) _ s
@[simp] theorem State.resetEntries_pending (s : State) (p : Port) : (s.resetEntries p).pending = s.pending :=
    foldl_keeps (·.pending) _ (fun s i => by simp) _ s

/-! ### State.takePortReset -/

@[simp] theorem State.takePortReset_sensors (s : State) (p : Port) : (s.takePortReset p).sensors = s.sensors :=
    by simp [State.takePortReset]
@[simp] theorem State.takePortReset_tuning (s : State) (p : Port) : (s.takePortReset p).tuning = s.tuning :=
    by simp [State.takePortReset]
@[simp] theorem State.takePortReset_time (s : State) (p : Port) : (s.takePortReset p).time = s.time :=
    by simp [State.takePortReset]
@[simp] theorem State.takePortReset_pending (s : State) (p : Port) : (s.takePortReset p).pending = s.pending :=
    by simp [State.takePortReset]

/-! ### State.disarm -/

@[simp] theorem State.disarm_sensors (s : State) (i : ClaimIdx) : (s.disarm i).sensors = s.sensors :=
    by unfold State.disarm; (repeat' split) <;> simp
@[simp] theorem State.disarm_batch (s : State) (i : ClaimIdx) : (s.disarm i).batch = s.batch :=
    by unfold State.disarm; (repeat' split) <;> simp
@[simp] theorem State.disarm_tuning (s : State) (i : ClaimIdx) : (s.disarm i).tuning = s.tuning :=
    by unfold State.disarm; (repeat' split) <;> simp
@[simp] theorem State.disarm_time (s : State) (i : ClaimIdx) : (s.disarm i).time = s.time :=
    by unfold State.disarm; (repeat' split) <;> simp
@[simp] theorem State.disarm_pending (s : State) (i : ClaimIdx) : (s.disarm i).pending = s.pending :=
    by unfold State.disarm; (repeat' split) <;> simp

/-! ### State.alterEntry -/

@[simp] theorem State.alterEntry_interlock (s : State) (i : ClaimIdx) (x : FlagChange × FlagChange × FlagChange) : (s.alterEntry i x).interlock = s.interlock := by
  unfold State.alterEntry
  simp only
  (repeat' split) <;> simp
@[simp] theorem State.alterEntry_sensors (s : State) (i : ClaimIdx) (x : FlagChange × FlagChange × FlagChange) : (s.alterEntry i x).sensors = s.sensors := by
  unfold State.alterEntry
  simp only
  (repeat' split) <;> simp
@[simp] theorem State.alterEntry_drives (s : State) (i : ClaimIdx) (x : FlagChange × FlagChange × FlagChange) : (s.alterEntry i x).drives = s.drives := by
  unfold State.alterEntry
  simp only
  (repeat' split) <;> simp
@[simp] theorem State.alterEntry_rotor (s : State) (i : ClaimIdx) (x : FlagChange × FlagChange × FlagChange) : (s.alterEntry i x).rotor = s.rotor := by
  unfold State.alterEntry
  simp only
  (repeat' split) <;> simp
@[simp] theorem State.alterEntry_batch (s : State) (i : ClaimIdx) (x : FlagChange × FlagChange × FlagChange) : (s.alterEntry i x).batch = s.batch := by
  unfold State.alterEntry
  simp only
  (repeat' split) <;> simp
@[simp] theorem State.alterEntry_ports (s : State) (i : ClaimIdx) (x : FlagChange × FlagChange × FlagChange) : (s.alterEntry i x).ports = s.ports := by
  unfold State.alterEntry
  simp only
  (repeat' split) <;> simp
@[simp] theorem State.alterEntry_tuning (s : State) (i : ClaimIdx) (x : FlagChange × FlagChange × FlagChange) : (s.alterEntry i x).tuning = s.tuning := by
  unfold State.alterEntry
  simp only
  (repeat' split) <;> simp
@[simp] theorem State.alterEntry_link (s : State) (i : ClaimIdx) (x : FlagChange × FlagChange × FlagChange) : (s.alterEntry i x).link = s.link := by
  unfold State.alterEntry
  simp only
  (repeat' split) <;> simp
@[simp] theorem State.alterEntry_time (s : State) (i : ClaimIdx) (x : FlagChange × FlagChange × FlagChange) : (s.alterEntry i x).time = s.time := by
  unfold State.alterEntry
  simp only
  (repeat' split) <;> simp
@[simp] theorem State.alterEntry_pending (s : State) (i : ClaimIdx) (x : FlagChange × FlagChange × FlagChange) : (s.alterEntry i x).pending = s.pending := by
  unfold State.alterEntry
  simp only
  (repeat' split) <;> simp

/-! ### State.clearHalt -/

@[simp] theorem State.clearHalt_sensors (s : State) : (s.clearHalt).sensors = s.sensors := by
  unfold State.clearHalt
  simp only
  (repeat' split) <;> simp
@[simp] theorem State.clearHalt_batch (s : State) : (s.clearHalt).batch = s.batch := by
  unfold State.clearHalt
  simp only
  (repeat' split) <;> simp
@[simp] theorem State.clearHalt_tuning (s : State) : (s.clearHalt).tuning = s.tuning := by
  unfold State.clearHalt
  simp only
  (repeat' split) <;> simp
@[simp] theorem State.clearHalt_link (s : State) : (s.clearHalt).link = s.link := by
  unfold State.clearHalt
  simp only
  (repeat' split) <;> simp
@[simp] theorem State.clearHalt_time (s : State) : (s.clearHalt).time = s.time := by
  unfold State.clearHalt
  simp only
  (repeat' split) <;> simp
@[simp] theorem State.clearHalt_pending (s : State) : (s.clearHalt).pending = s.pending := by
  unfold State.clearHalt
  simp only
  (repeat' split) <;> simp

/-! ### State.judgeThermalSensor -/

@[simp] theorem State.judgeThermalSensor_sensors (s : State) : (s.judgeThermalSensor).sensors = s.sensors :=
    by unfold State.judgeThermalSensor; (repeat' split) <;> simp
@[simp] theorem State.judgeThermalSensor_drives (s : State) : (s.judgeThermalSensor).drives = s.drives :=
    by unfold State.judgeThermalSensor; (repeat' split) <;> simp
@[simp] theorem State.judgeThermalSensor_rotor (s : State) : (s.judgeThermalSensor).rotor = s.rotor :=
    by unfold State.judgeThermalSensor; (repeat' split) <;> simp
@[simp] theorem State.judgeThermalSensor_batch (s : State) : (s.judgeThermalSensor).batch = s.batch :=
    by unfold State.judgeThermalSensor; (repeat' split) <;> simp
@[simp] theorem State.judgeThermalSensor_tuning (s : State) : (s.judgeThermalSensor).tuning = s.tuning :=
    by unfold State.judgeThermalSensor; (repeat' split) <;> simp
@[simp] theorem State.judgeThermalSensor_link (s : State) : (s.judgeThermalSensor).link = s.link :=
    by unfold State.judgeThermalSensor; (repeat' split) <;> simp
@[simp] theorem State.judgeThermalSensor_time (s : State) : (s.judgeThermalSensor).time = s.time :=
    by unfold State.judgeThermalSensor; (repeat' split) <;> simp
@[simp] theorem State.judgeThermalSensor_pending (s : State) : (s.judgeThermalSensor).pending = s.pending :=
    by unfold State.judgeThermalSensor; (repeat' split) <;> simp

/-! ### State.judgeOverheat -/

@[simp] theorem State.judgeOverheat_sensors (s : State) : (s.judgeOverheat).sensors = s.sensors :=
    by unfold State.judgeOverheat; (repeat' split) <;> simp
@[simp] theorem State.judgeOverheat_drives (s : State) : (s.judgeOverheat).drives = s.drives :=
    by unfold State.judgeOverheat; (repeat' split) <;> simp
@[simp] theorem State.judgeOverheat_rotor (s : State) : (s.judgeOverheat).rotor = s.rotor :=
    by unfold State.judgeOverheat; (repeat' split) <;> simp
@[simp] theorem State.judgeOverheat_batch (s : State) : (s.judgeOverheat).batch = s.batch :=
    by unfold State.judgeOverheat; (repeat' split) <;> simp
@[simp] theorem State.judgeOverheat_tuning (s : State) : (s.judgeOverheat).tuning = s.tuning :=
    by unfold State.judgeOverheat; (repeat' split) <;> simp
@[simp] theorem State.judgeOverheat_link (s : State) : (s.judgeOverheat).link = s.link :=
    by unfold State.judgeOverheat; (repeat' split) <;> simp
@[simp] theorem State.judgeOverheat_time (s : State) : (s.judgeOverheat).time = s.time :=
    by unfold State.judgeOverheat; (repeat' split) <;> simp
@[simp] theorem State.judgeOverheat_pending (s : State) : (s.judgeOverheat).pending = s.pending :=
    by unfold State.judgeOverheat; (repeat' split) <;> simp

/-! ### State.judgeReport -/

@[simp] theorem State.judgeReport_sensors (s : State) : (s.judgeReport).sensors = s.sensors :=
    by simp [State.judgeReport]
@[simp] theorem State.judgeReport_drives (s : State) : (s.judgeReport).drives = s.drives :=
    by simp [State.judgeReport]
@[simp] theorem State.judgeReport_rotor (s : State) : (s.judgeReport).rotor = s.rotor :=
    by simp [State.judgeReport]
@[simp] theorem State.judgeReport_batch (s : State) : (s.judgeReport).batch = s.batch :=
    by simp [State.judgeReport]
@[simp] theorem State.judgeReport_tuning (s : State) : (s.judgeReport).tuning = s.tuning :=
    by simp [State.judgeReport]
@[simp] theorem State.judgeReport_link (s : State) : (s.judgeReport).link = s.link :=
    by simp [State.judgeReport]
@[simp] theorem State.judgeReport_time (s : State) : (s.judgeReport).time = s.time :=
    by simp [State.judgeReport]
@[simp] theorem State.judgeReport_pending (s : State) : (s.judgeReport).pending = s.pending :=
    by simp [State.judgeReport]

/-! ### State.judgePlateBelow -/

@[simp] theorem State.judgePlateBelow_claims (s : State) : (s.judgePlateBelow).claims = s.claims :=
    by unfold State.judgePlateBelow; (repeat' split) <;> simp
@[simp] theorem State.judgePlateBelow_interlock (s : State) : (s.judgePlateBelow).interlock = s.interlock :=
    by unfold State.judgePlateBelow; (repeat' split) <;> simp
@[simp] theorem State.judgePlateBelow_drives (s : State) : (s.judgePlateBelow).drives = s.drives :=
    by unfold State.judgePlateBelow; (repeat' split) <;> simp
@[simp] theorem State.judgePlateBelow_rotor (s : State) : (s.judgePlateBelow).rotor = s.rotor :=
    by unfold State.judgePlateBelow; (repeat' split) <;> simp
@[simp] theorem State.judgePlateBelow_batch (s : State) : (s.judgePlateBelow).batch = s.batch :=
    by unfold State.judgePlateBelow; (repeat' split) <;> simp
@[simp] theorem State.judgePlateBelow_ports (s : State) : (s.judgePlateBelow).ports = s.ports :=
    by unfold State.judgePlateBelow; (repeat' split) <;> simp
@[simp] theorem State.judgePlateBelow_tuning (s : State) : (s.judgePlateBelow).tuning = s.tuning :=
    by unfold State.judgePlateBelow; (repeat' split) <;> simp
@[simp] theorem State.judgePlateBelow_link (s : State) : (s.judgePlateBelow).link = s.link :=
    by unfold State.judgePlateBelow; (repeat' split) <;> simp
@[simp] theorem State.judgePlateBelow_time (s : State) : (s.judgePlateBelow).time = s.time :=
    by unfold State.judgePlateBelow; (repeat' split) <;> simp
@[simp] theorem State.judgePlateBelow_pending (s : State) : (s.judgePlateBelow).pending = s.pending :=
    by unfold State.judgePlateBelow; (repeat' split) <;> simp

/-! ### State.startJog -/

@[simp] theorem State.startJog_claims (s : State) : (s.startJog).claims = s.claims :=
    by simp [State.startJog]
@[simp] theorem State.startJog_arbiter (s : State) : (s.startJog).arbiter = s.arbiter :=
    by simp [State.startJog]
@[simp] theorem State.startJog_interlock (s : State) : (s.startJog).interlock = s.interlock :=
    by simp [State.startJog]
@[simp] theorem State.startJog_sensors (s : State) : (s.startJog).sensors = s.sensors :=
    by simp [State.startJog]
@[simp] theorem State.startJog_drives (s : State) : (s.startJog).drives = s.drives :=
    by simp [State.startJog]
@[simp] theorem State.startJog_batch (s : State) : (s.startJog).batch = s.batch :=
    by simp [State.startJog]
@[simp] theorem State.startJog_tuning (s : State) : (s.startJog).tuning = s.tuning :=
    by simp [State.startJog]
@[simp] theorem State.startJog_link (s : State) : (s.startJog).link = s.link :=
    by simp [State.startJog]
@[simp] theorem State.startJog_time (s : State) : (s.startJog).time = s.time :=
    by simp [State.startJog]
@[simp] theorem State.startJog_pending (s : State) : (s.startJog).pending = s.pending :=
    by simp [State.startJog]

/-! ### State.declareJam -/

@[simp] theorem State.declareJam_sensors (s : State) : (s.declareJam).sensors = s.sensors :=
    by simp [State.declareJam]
@[simp] theorem State.declareJam_batch (s : State) : (s.declareJam).batch = s.batch :=
    by simp [State.declareJam]
@[simp] theorem State.declareJam_tuning (s : State) : (s.declareJam).tuning = s.tuning :=
    by simp [State.declareJam]
@[simp] theorem State.declareJam_time (s : State) : (s.declareJam).time = s.time :=
    by simp [State.declareJam]
@[simp] theorem State.declareJam_pending (s : State) : (s.declareJam).pending = s.pending :=
    by simp [State.declareJam]

/-! ### State.probeFails -/

@[simp] theorem State.probeFails_sensors (s : State) : (s.probeFails).sensors = s.sensors :=
    by unfold State.probeFails; (repeat' split) <;> simp
@[simp] theorem State.probeFails_batch (s : State) : (s.probeFails).batch = s.batch :=
    by unfold State.probeFails; (repeat' split) <;> simp
@[simp] theorem State.probeFails_tuning (s : State) : (s.probeFails).tuning = s.tuning :=
    by unfold State.probeFails; (repeat' split) <;> simp
@[simp] theorem State.probeFails_time (s : State) : (s.probeFails).time = s.time :=
    by unfold State.probeFails; (repeat' split) <;> simp
@[simp] theorem State.probeFails_pending (s : State) : (s.probeFails).pending = s.pending :=
    by unfold State.probeFails; (repeat' split) <;> simp

/-! ### State.stall -/

@[simp] theorem State.stall_sensors (s : State) : (s.stall).sensors = s.sensors :=
    by unfold State.stall; (repeat' split) <;> simp
@[simp] theorem State.stall_batch (s : State) : (s.stall).batch = s.batch :=
    by unfold State.stall; (repeat' split) <;> simp
@[simp] theorem State.stall_tuning (s : State) : (s.stall).tuning = s.tuning :=
    by unfold State.stall; (repeat' split) <;> simp
@[simp] theorem State.stall_time (s : State) : (s.stall).time = s.time :=
    by unfold State.stall; (repeat' split) <;> simp
@[simp] theorem State.stall_pending (s : State) : (s.stall).pending = s.pending :=
    by unfold State.stall; (repeat' split) <;> simp

/-! ### State.takeAccepted -/

@[simp] theorem State.takeAccepted_claims (s : State) : (s.takeAccepted).claims = s.claims := by
  unfold State.takeAccepted
  simp only
  (repeat' split) <;> simp
@[simp] theorem State.takeAccepted_arbiter (s : State) : (s.takeAccepted).arbiter = s.arbiter := by
  unfold State.takeAccepted
  simp only
  (repeat' split) <;> simp
@[simp] theorem State.takeAccepted_interlock (s : State) : (s.takeAccepted).interlock = s.interlock := by
  unfold State.takeAccepted
  simp only
  (repeat' split) <;> simp
@[simp] theorem State.takeAccepted_sensors (s : State) : (s.takeAccepted).sensors = s.sensors := by
  unfold State.takeAccepted
  simp only
  (repeat' split) <;> simp
@[simp] theorem State.takeAccepted_drives (s : State) : (s.takeAccepted).drives = s.drives := by
  unfold State.takeAccepted
  simp only
  (repeat' split) <;> simp
@[simp] theorem State.takeAccepted_batch (s : State) : (s.takeAccepted).batch = s.batch := by
  unfold State.takeAccepted
  simp only
  (repeat' split) <;> simp
@[simp] theorem State.takeAccepted_tuning (s : State) : (s.takeAccepted).tuning = s.tuning := by
  unfold State.takeAccepted
  simp only
  (repeat' split) <;> simp
@[simp] theorem State.takeAccepted_link (s : State) : (s.takeAccepted).link = s.link := by
  unfold State.takeAccepted
  simp only
  (repeat' split) <;> simp
@[simp] theorem State.takeAccepted_time (s : State) : (s.takeAccepted).time = s.time := by
  unfold State.takeAccepted
  simp only
  (repeat' split) <;> simp
@[simp] theorem State.takeAccepted_pending (s : State) : (s.takeAccepted).pending = s.pending := by
  unfold State.takeAccepted
  simp only
  (repeat' split) <;> simp

/-! ### State.takeEarly -/

@[simp] theorem State.takeEarly_sensors (s : State) : (s.takeEarly).sensors = s.sensors := by
  unfold State.takeEarly
  simp only
  (repeat' split) <;> simp
@[simp] theorem State.takeEarly_batch (s : State) : (s.takeEarly).batch = s.batch := by
  unfold State.takeEarly
  simp only
  (repeat' split) <;> simp
@[simp] theorem State.takeEarly_tuning (s : State) : (s.takeEarly).tuning = s.tuning := by
  unfold State.takeEarly
  simp only
  (repeat' split) <;> simp
@[simp] theorem State.takeEarly_time (s : State) : (s.takeEarly).time = s.time := by
  unfold State.takeEarly
  simp only
  (repeat' split) <;> simp
@[simp] theorem State.takeEarly_pending (s : State) : (s.takeEarly).pending = s.pending := by
  unfold State.takeEarly
  simp only
  (repeat' split) <;> simp

end Sys2Proof.Machine
end

