-- ==== Sys2Proof/Laws/Batch.lean ====
section
/-! SUPPORT. Frames: what the operations of the batch unit and the tuning table leave alone: one lemma per operation and field. -/

namespace Sys2Proof.Machine

/-! ### State.touchBatch -/

@[simp] theorem State.touchBatch_claims (s : State) (k : Nat) : (s.touchBatch k).claims = s.claims :=
    by unfold State.touchBatch; (repeat' split) <;> simp
@[simp] theorem State.touchBatch_arbiter (s : State) (k : Nat) : (s.touchBatch k).arbiter = s.arbiter :=
    by unfold State.touchBatch; (repeat' split) <;> simp
@[simp] theorem State.touchBatch_interlock (s : State) (k : Nat) : (s.touchBatch k).interlock = s.interlock :=
    by unfold State.touchBatch; (repeat' split) <;> simp
@[simp] theorem State.touchBatch_sensors (s : State) (k : Nat) : (s.touchBatch k).sensors = s.sensors :=
    by unfold State.touchBatch; (repeat' split) <;> simp
@[simp] theorem State.touchBatch_drives (s : State) (k : Nat) : (s.touchBatch k).drives = s.drives :=
    by unfold State.touchBatch; (repeat' split) <;> simp
@[simp] theorem State.touchBatch_rotor (s : State) (k : Nat) : (s.touchBatch k).rotor = s.rotor :=
    by unfold State.touchBatch; (repeat' split) <;> simp
@[simp] theorem State.touchBatch_batch (s : State) (k : Nat) : (s.touchBatch k).batch = s.batch :=
    by unfold State.touchBatch; (repeat' split) <;> simp
@[simp] theorem State.touchBatch_ports (s : State) (k : Nat) : (s.touchBatch k).ports = s.ports :=
    by unfold State.touchBatch; (repeat' split) <;> simp
@[simp] theorem State.touchBatch_tuning (s : State) (k : Nat) : (s.touchBatch k).tuning = s.tuning :=
    by unfold State.touchBatch; (repeat' split) <;> simp
@[simp] theorem State.touchBatch_time (s : State) (k : Nat) : (s.touchBatch k).time = s.time :=
    by unfold State.touchBatch; (repeat' split) <;> simp
@[simp] theorem State.touchBatch_pending (s : State) (k : Nat) : (s.touchBatch k).pending = s.pending :=
    by unfold State.touchBatch; (repeat' split) <;> simp

/-! ### State.evaluate -/

@[simp] theorem State.evaluate_claims (s : State) (which : Nat → Bool) : (s.evaluate which).claims = s.claims := by
  unfold State.evaluate
  simp only
  (repeat' split) <;> simp
@[simp] theorem State.evaluate_arbiter (s : State) (which : Nat → Bool) : (s.evaluate which).arbiter = s.arbiter := by
  unfold State.evaluate
  simp only
  (repeat' split) <;> simp
@[simp] theorem State.evaluate_interlock (s : State) (which : Nat → Bool) : (s.evaluate which).interlock = s.interlock := by
  unfold State.evaluate
  simp only
  (repeat' split) <;> simp
@[simp] theorem State.evaluate_sensors (s : State) (which : Nat → Bool) : (s.evaluate which).sensors = s.sensors := by
  unfold State.evaluate
  simp only
  (repeat' split) <;> simp
@[simp] theorem State.evaluate_drives (s : State) (which : Nat → Bool) : (s.evaluate which).drives = s.drives := by
  unfold State.evaluate
  simp only
  (repeat' split) <;> simp
@[simp] theorem State.evaluate_rotor (s : State) (which : Nat → Bool) : (s.evaluate which).rotor = s.rotor := by
  unfold State.evaluate
  simp only
  (repeat' split) <;> simp
@[simp] theorem State.evaluate_tuning (s : State) (which : Nat → Bool) : (s.evaluate which).tuning = s.tuning := by
  unfold State.evaluate
  simp only
  (repeat' split) <;> simp
@[simp] theorem State.evaluate_time (s : State) (which : Nat → Bool) : (s.evaluate which).time = s.time := by
  unfold State.evaluate
  simp only
  (repeat' split) <;> simp
@[simp] theorem State.evaluate_pending (s : State) (which : Nat → Bool) : (s.evaluate which).pending = s.pending := by
  unfold State.evaluate
  simp only
  (repeat' split) <;> simp

/-! ### State.evaluateAt -/

@[simp] theorem State.evaluateAt_claims (s : State) (k : Nat) : (s.evaluateAt k).claims = s.claims :=
    by simp [State.evaluateAt]
@[simp] theorem State.evaluateAt_arbiter (s : State) (k : Nat) : (s.evaluateAt k).arbiter = s.arbiter :=
    by simp [State.evaluateAt]
@[simp] theorem State.evaluateAt_interlock (s : State) (k : Nat) : (s.evaluateAt k).interlock = s.interlock :=
    by simp [State.evaluateAt]
@[simp] theorem State.evaluateAt_sensors (s : State) (k : Nat) : (s.evaluateAt k).sensors = s.sensors :=
    by simp [State.evaluateAt]
@[simp] theorem State.evaluateAt_drives (s : State) (k : Nat) : (s.evaluateAt k).drives = s.drives :=
    by simp [State.evaluateAt]
@[simp] theorem State.evaluateAt_rotor (s : State) (k : Nat) : (s.evaluateAt k).rotor = s.rotor :=
    by simp [State.evaluateAt]
@[simp] theorem State.evaluateAt_tuning (s : State) (k : Nat) : (s.evaluateAt k).tuning = s.tuning :=
    by simp [State.evaluateAt]
@[simp] theorem State.evaluateAt_time (s : State) (k : Nat) : (s.evaluateAt k).time = s.time :=
    by simp [State.evaluateAt]
@[simp] theorem State.evaluateAt_pending (s : State) (k : Nat) : (s.evaluateAt k).pending = s.pending :=
    by simp [State.evaluateAt]

/-! ### State.evaluateAll -/

@[simp] theorem State.evaluateAll_claims (s : State) : (s.evaluateAll).claims = s.claims :=
    by simp [State.evaluateAll]
@[simp] theorem State.evaluateAll_arbiter (s : State) : (s.evaluateAll).arbiter = s.arbiter :=
    by simp [State.evaluateAll]
@[simp] theorem State.evaluateAll_interlock (s : State) : (s.evaluateAll).interlock = s.interlock :=
    by simp [State.evaluateAll]
@[simp] theorem State.evaluateAll_sensors (s : State) : (s.evaluateAll).sensors = s.sensors :=
    by simp [State.evaluateAll]
@[simp] theorem State.evaluateAll_drives (s : State) : (s.evaluateAll).drives = s.drives :=
    by simp [State.evaluateAll]
@[simp] theorem State.evaluateAll_rotor (s : State) : (s.evaluateAll).rotor = s.rotor :=
    by simp [State.evaluateAll]
@[simp] theorem State.evaluateAll_tuning (s : State) : (s.evaluateAll).tuning = s.tuning :=
    by simp [State.evaluateAll]
@[simp] theorem State.evaluateAll_time (s : State) : (s.evaluateAll).time = s.time :=
    by simp [State.evaluateAll]
@[simp] theorem State.evaluateAll_pending (s : State) : (s.evaluateAll).pending = s.pending :=
    by simp [State.evaluateAll]

/-! ### State.judgeFinished -/

@[simp] theorem State.judgeFinished_claims (s : State) : (s.judgeFinished).claims = s.claims := by
  unfold State.judgeFinished
  simp only
  (repeat' split) <;> simp
@[simp] theorem State.judgeFinished_arbiter (s : State) : (s.judgeFinished).arbiter = s.arbiter := by
  unfold State.judgeFinished
  simp only
  (repeat' split) <;> simp
@[simp] theorem State.judgeFinished_interlock (s : State) : (s.judgeFinished).interlock = s.interlock := by
  unfold State.judgeFinished
  simp only
  (repeat' split) <;> simp
@[simp] theorem State.judgeFinished_sensors (s : State) : (s.judgeFinished).sensors = s.sensors := by
  unfold State.judgeFinished
  simp only
  (repeat' split) <;> simp
@[simp] theorem State.judgeFinished_drives (s : State) : (s.judgeFinished).drives = s.drives := by
  unfold State.judgeFinished
  simp only
  (repeat' split) <;> simp
@[simp] theorem State.judgeFinished_rotor (s : State) : (s.judgeFinished).rotor = s.rotor := by
  unfold State.judgeFinished
  simp only
  (repeat' split) <;> simp
@[simp] theorem State.judgeFinished_tuning (s : State) : (s.judgeFinished).tuning = s.tuning := by
  unfold State.judgeFinished
  simp only
  (repeat' split) <;> simp
@[simp] theorem State.judgeFinished_link (s : State) : (s.judgeFinished).link = s.link := by
  unfold State.judgeFinished
  simp only
  (repeat' split) <;> simp
@[simp] theorem State.judgeFinished_time (s : State) : (s.judgeFinished).time = s.time := by
  unfold State.judgeFinished
  simp only
  (repeat' split) <;> simp
@[simp] theorem State.judgeFinished_pending (s : State) : (s.judgeFinished).pending = s.pending := by
  unfold State.judgeFinished
  simp only
  (repeat' split) <;> simp

/-! ### State.requirementsChanged -/

@[simp] theorem State.requirementsChanged_claims (s : State) : (s.requirementsChanged).claims = s.claims :=
    by simp [State.requirementsChanged]
@[simp] theorem State.requirementsChanged_arbiter (s : State) : (s.requirementsChanged).arbiter = s.arbiter :=
    by simp [State.requirementsChanged]
@[simp] theorem State.requirementsChanged_interlock (s : State) : (s.requirementsChanged).interlock = s.interlock :=
    by simp [State.requirementsChanged]
@[simp] theorem State.requirementsChanged_sensors (s : State) : (s.requirementsChanged).sensors = s.sensors :=
    by simp [State.requirementsChanged]
@[simp] theorem State.requirementsChanged_drives (s : State) : (s.requirementsChanged).drives = s.drives :=
    by simp [State.requirementsChanged]
@[simp] theorem State.requirementsChanged_rotor (s : State) : (s.requirementsChanged).rotor = s.rotor :=
    by simp [State.requirementsChanged]
@[simp] theorem State.requirementsChanged_tuning (s : State) : (s.requirementsChanged).tuning = s.tuning :=
    by simp [State.requirementsChanged]
@[simp] theorem State.requirementsChanged_time (s : State) : (s.requirementsChanged).time = s.time :=
    by simp [State.requirementsChanged]
@[simp] theorem State.requirementsChanged_pending (s : State) : (s.requirementsChanged).pending = s.pending :=
    by simp [State.requirementsChanged]

/-! ### State.judgeMix -/

@[simp] theorem State.judgeMix_claims (s : State) : (s.judgeMix).claims = s.claims :=
    by unfold State.judgeMix; (repeat' split) <;> simp
@[simp] theorem State.judgeMix_arbiter (s : State) : (s.judgeMix).arbiter = s.arbiter :=
    by unfold State.judgeMix; (repeat' split) <;> simp
@[simp] theorem State.judgeMix_interlock (s : State) : (s.judgeMix).interlock = s.interlock :=
    by unfold State.judgeMix; (repeat' split) <;> simp
@[simp] theorem State.judgeMix_sensors (s : State) : (s.judgeMix).sensors = s.sensors :=
    by unfold State.judgeMix; (repeat' split) <;> simp
@[simp] theorem State.judgeMix_drives (s : State) : (s.judgeMix).drives = s.drives :=
    by unfold State.judgeMix; (repeat' split) <;> simp
@[simp] theorem State.judgeMix_rotor (s : State) : (s.judgeMix).rotor = s.rotor :=
    by unfold State.judgeMix; (repeat' split) <;> simp
@[simp] theorem State.judgeMix_tuning (s : State) : (s.judgeMix).tuning = s.tuning :=
    by unfold State.judgeMix; (repeat' split) <;> simp
@[simp] theorem State.judgeMix_link (s : State) : (s.judgeMix).link = s.link :=
    by unfold State.judgeMix; (repeat' split) <;> simp
@[simp] theorem State.judgeMix_time (s : State) : (s.judgeMix).time = s.time :=
    by unfold State.judgeMix; (repeat' split) <;> simp
@[simp] theorem State.judgeMix_pending (s : State) : (s.judgeMix).pending = s.pending :=
    by unfold State.judgeMix; (repeat' split) <;> simp

/-! ### State.takeSample -/

@[simp] theorem State.takeSample_claims (s : State) (h : HumidityReading) : (s.takeSample h).claims = s.claims :=
    by simp [State.takeSample]
@[simp] theorem State.takeSample_arbiter (s : State) (h : HumidityReading) : (s.takeSample h).arbiter = s.arbiter :=
    by simp [State.takeSample]
@[simp] theorem State.takeSample_interlock (s : State) (h : HumidityReading) : (s.takeSample h).interlock = s.interlock :=
    by simp [State.takeSample]
@[simp] theorem State.takeSample_sensors (s : State) (h : HumidityReading) : (s.takeSample h).sensors = s.sensors :=
    by simp [State.takeSample]
@[simp] theorem State.takeSample_drives (s : State) (h : HumidityReading) : (s.takeSample h).drives = s.drives :=
    by simp [State.takeSample]
@[simp] theorem State.takeSample_rotor (s : State) (h : HumidityReading) : (s.takeSample h).rotor = s.rotor :=
    by simp [State.takeSample]
@[simp] theorem State.takeSample_tuning (s : State) (h : HumidityReading) : (s.takeSample h).tuning = s.tuning :=
    by simp [State.takeSample]
@[simp] theorem State.takeSample_time (s : State) (h : HumidityReading) : (s.takeSample h).time = s.time :=
    by simp [State.takeSample]
@[simp] theorem State.takeSample_pending (s : State) (h : HumidityReading) : (s.takeSample h).pending = s.pending :=
    by simp [State.takeSample]

/-! ### State.takeRevolution -/

@[simp] theorem State.takeRevolution_claims (s : State) : (s.takeRevolution).claims = s.claims :=
    by simp [State.takeRevolution]
@[simp] theorem State.takeRevolution_arbiter (s : State) : (s.takeRevolution).arbiter = s.arbiter :=
    by simp [State.takeRevolution]
@[simp] theorem State.takeRevolution_interlock (s : State) : (s.takeRevolution).interlock = s.interlock :=
    by simp [State.takeRevolution]
@[simp] theorem State.takeRevolution_sensors (s : State) : (s.takeRevolution).sensors = s.sensors :=
    by simp [State.takeRevolution]
@[simp] theorem State.takeRevolution_drives (s : State) : (s.takeRevolution).drives = s.drives :=
    by simp [State.takeRevolution]
@[simp] theorem State.takeRevolution_rotor (s : State) : (s.takeRevolution).rotor = s.rotor :=
    by simp [State.takeRevolution]
@[simp] theorem State.takeRevolution_tuning (s : State) : (s.takeRevolution).tuning = s.tuning :=
    by simp [State.takeRevolution]
@[simp] theorem State.takeRevolution_time (s : State) : (s.takeRevolution).time = s.time :=
    by simp [State.takeRevolution]
@[simp] theorem State.takeRevolution_pending (s : State) : (s.takeRevolution).pending = s.pending :=
    by simp [State.takeRevolution]

/-! ### State.breakOne -/

@[simp] theorem State.breakOne_claims (s : State) (hit : Port → Word → Bool) (p : Port) : (State.breakOne hit s p).claims = s.claims :=
    by unfold State.breakOne; (repeat' split) <;> simp
@[simp] theorem State.breakOne_arbiter (s : State) (hit : Port → Word → Bool) (p : Port) : (State.breakOne hit s p).arbiter = s.arbiter :=
    by unfold State.breakOne; (repeat' split) <;> simp
@[simp] theorem State.breakOne_interlock (s : State) (hit : Port → Word → Bool) (p : Port) : (State.breakOne hit s p).interlock = s.interlock :=
    by unfold State.breakOne; (repeat' split) <;> simp
@[simp] theorem State.breakOne_sensors (s : State) (hit : Port → Word → Bool) (p : Port) : (State.breakOne hit s p).sensors = s.sensors :=
    by unfold State.breakOne; (repeat' split) <;> simp
@[simp] theorem State.breakOne_drives (s : State) (hit : Port → Word → Bool) (p : Port) : (State.breakOne hit s p).drives = s.drives :=
    by unfold State.breakOne; (repeat' split) <;> simp
@[simp] theorem State.breakOne_rotor (s : State) (hit : Port → Word → Bool) (p : Port) : (State.breakOne hit s p).rotor = s.rotor :=
    by unfold State.breakOne; (repeat' split) <;> simp
@[simp] theorem State.breakOne_tuning (s : State) (hit : Port → Word → Bool) (p : Port) : (State.breakOne hit s p).tuning = s.tuning :=
    by unfold State.breakOne; (repeat' split) <;> simp
@[simp] theorem State.breakOne_link (s : State) (hit : Port → Word → Bool) (p : Port) : (State.breakOne hit s p).link = s.link :=
    by unfold State.breakOne; (repeat' split) <;> simp
@[simp] theorem State.breakOne_time (s : State) (hit : Port → Word → Bool) (p : Port) : (State.breakOne hit s p).time = s.time :=
    by unfold State.breakOne; (repeat' split) <;> simp
@[simp] theorem State.breakOne_pending (s : State) (hit : Port → Word → Bool) (p : Port) : (State.breakOne hit s p).pending = s.pending :=
    by unfold State.breakOne; (repeat' split) <;> simp

/-! ### State.breakReservations -/

@[simp] theorem State.breakReservations_claims (s : State) (hit : Port → Word → Bool) : (s.breakReservations hit).claims = s.claims :=
    foldl_keeps (·.claims) _ (fun s i => by simp) _ s
@[simp] theorem State.breakReservations_arbiter (s : State) (hit : Port → Word → Bool) : (s.breakReservations hit).arbiter = s.arbiter :=
    foldl_keeps (·.arbiter) _ (fun s i => by simp) _ s
@[simp] theorem State.breakReservations_interlock (s : State) (hit : Port → Word → Bool) : (s.breakReservations hit).interlock = s.interlock :=
    foldl_keeps (·.interlock) _ (fun s i => by simp) _ s
@[simp] theorem State.breakReservations_sensors (s : State) (hit : Port → Word → Bool) : (s.breakReservations hit).sensors = s.sensors :=
    foldl_keeps (·.sensors) _ (fun s i => by simp) _ s
@[simp] theorem State.breakReservations_drives (s : State) (hit : Port → Word → Bool) : (s.breakReservations hit).drives = s.drives :=
    foldl_keeps (·.drives) _ (fun s i => by simp) _ s
@[simp] theorem State.breakReservations_rotor (s : State) (hit : Port → Word → Bool) : (s.breakReservations hit).rotor = s.rotor :=
    foldl_keeps (·.rotor) _ (fun s i => by simp) _ s
@[simp] theorem State.breakReservations_tuning (s : State) (hit : Port → Word → Bool) : (s.breakReservations hit).tuning = s.tuning :=
    foldl_keeps (·.tuning) _ (fun s i => by simp) _ s
@[simp] theorem State.breakReservations_link (s : State) (hit : Port → Word → Bool) : (s.breakReservations hit).link = s.link :=
    foldl_keeps (·.link) _ (fun s i => by simp) _ s
@[simp] theorem State.breakReservations_time (s : State) (hit : Port → Word → Bool) : (s.breakReservations hit).time = s.time :=
    foldl_keeps (·.time) _ (fun s i => by simp) _ s
@[simp] theorem State.breakReservations_pending (s : State) (hit : Port → Word → Bool) : (s.breakReservations hit).pending = s.pending :=
    foldl_keeps (·.pending) _ (fun s i => by simp) _ s

/-! ### State.rewet -/

@[simp] theorem State.rewet_claims (s : State) (k : Nat) : (s.rewet k).claims = s.claims :=
    by simp [State.rewet]
@[simp] theorem State.rewet_arbiter (s : State) (k : Nat) : (s.rewet k).arbiter = s.arbiter :=
    by simp [State.rewet]
@[simp] theorem State.rewet_interlock (s : State) (k : Nat) : (s.rewet k).interlock = s.interlock :=
    by simp [State.rewet]
@[simp] theorem State.rewet_sensors (s : State) (k : Nat) : (s.rewet k).sensors = s.sensors :=
    by simp [State.rewet]
@[simp] theorem State.rewet_drives (s : State) (k : Nat) : (s.rewet k).drives = s.drives :=
    by simp [State.rewet]
@[simp] theorem State.rewet_rotor (s : State) (k : Nat) : (s.rewet k).rotor = s.rotor :=
    by simp [State.rewet]
@[simp] theorem State.rewet_tuning (s : State) (k : Nat) : (s.rewet k).tuning = s.tuning :=
    by simp [State.rewet]
@[simp] theorem State.rewet_time (s : State) (k : Nat) : (s.rewet k).time = s.time :=
    by simp [State.rewet]
@[simp] theorem State.rewet_pending (s : State) (k : Nat) : (s.rewet k).pending = s.pending :=
    by simp [State.rewet]

/-! ### State.openRecord -/

@[simp] theorem State.openRecord_claims (s : State) (mass : Option Nat) : (s.openRecord mass).claims = s.claims :=
    by simp [State.openRecord]
@[simp] theorem State.openRecord_arbiter (s : State) (mass : Option Nat) : (s.openRecord mass).arbiter = s.arbiter :=
    by simp [State.openRecord]
@[simp] theorem State.openRecord_interlock (s : State) (mass : Option Nat) : (s.openRecord mass).interlock = s.interlock :=
    by simp [State.openRecord]
@[simp] theorem State.openRecord_sensors (s : State) (mass : Option Nat) : (s.openRecord mass).sensors = s.sensors :=
    by simp [State.openRecord]
@[simp] theorem State.openRecord_drives (s : State) (mass : Option Nat) : (s.openRecord mass).drives = s.drives :=
    by simp [State.openRecord]
@[simp] theorem State.openRecord_rotor (s : State) (mass : Option Nat) : (s.openRecord mass).rotor = s.rotor :=
    by simp [State.openRecord]
@[simp] theorem State.openRecord_tuning (s : State) (mass : Option Nat) : (s.openRecord mass).tuning = s.tuning :=
    by simp [State.openRecord]
@[simp] theorem State.openRecord_time (s : State) (mass : Option Nat) : (s.openRecord mass).time = s.time :=
    by simp [State.openRecord]
@[simp] theorem State.openRecord_pending (s : State) (mass : Option Nat) : (s.openRecord mass).pending = s.pending :=
    by simp [State.openRecord]

/-! ### State.resetYoungest -/

@[simp] theorem State.resetYoungest_claims (s : State) (f : Option Nat → Option Nat) : (s.resetYoungest f).claims = s.claims := by
  unfold State.resetYoungest
  simp only
  (repeat' split) <;> simp
@[simp] theorem State.resetYoungest_arbiter (s : State) (f : Option Nat → Option Nat) : (s.resetYoungest f).arbiter = s.arbiter := by
  unfold State.resetYoungest
  simp only
  (repeat' split) <;> simp
@[simp] theorem State.resetYoungest_interlock (s : State) (f : Option Nat → Option Nat) : (s.resetYoungest f).interlock = s.interlock := by
  unfold State.resetYoungest
  simp only
  (repeat' split) <;> simp
@[simp] theorem State.resetYoungest_sensors (s : State) (f : Option Nat → Option Nat) : (s.resetYoungest f).sensors = s.sensors := by
  unfold State.resetYoungest
  simp only
  (repeat' split) <;> simp
@[simp] theorem State.resetYoungest_drives (s : State) (f : Option Nat → Option Nat) : (s.resetYoungest f).drives = s.drives := by
  unfold State.resetYoungest
  simp only
  (repeat' split) <;> simp
@[simp] theorem State.resetYoungest_rotor (s : State) (f : Option Nat → Option Nat) : (s.resetYoungest f).rotor = s.rotor := by
  unfold State.resetYoungest
  simp only
  (repeat' split) <;> simp
@[simp] theorem State.resetYoungest_tuning (s : State) (f : Option Nat → Option Nat) : (s.resetYoungest f).tuning = s.tuning := by
  unfold State.resetYoungest
  simp only
  (repeat' split) <;> simp
@[simp] theorem State.resetYoungest_time (s : State) (f : Option Nat → Option Nat) : (s.resetYoungest f).time = s.time := by
  unfold State.resetYoungest
  simp only
  (repeat' split) <;> simp
@[simp] theorem State.resetYoungest_pending (s : State) (f : Option Nat → Option Nat) : (s.resetYoungest f).pending = s.pending := by
  unfold State.resetYoungest
  simp only
  (repeat' split) <;> simp

/-! ### State.mergeYoungest -/

@[simp] theorem State.mergeYoungest_claims (s : State) (delta : Nat) : (s.mergeYoungest delta).claims = s.claims :=
    by simp [State.mergeYoungest]
@[simp] theorem State.mergeYoungest_arbiter (s : State) (delta : Nat) : (s.mergeYoungest delta).arbiter = s.arbiter :=
    by simp [State.mergeYoungest]
@[simp] theorem State.mergeYoungest_interlock (s : State) (delta : Nat) : (s.mergeYoungest delta).interlock = s.interlock :=
    by simp [State.mergeYoungest]
@[simp] theorem State.mergeYoungest_sensors (s : State) (delta : Nat) : (s.mergeYoungest delta).sensors = s.sensors :=
    by simp [State.mergeYoungest]
@[simp] theorem State.mergeYoungest_drives (s : State) (delta : Nat) : (s.mergeYoungest delta).drives = s.drives :=
    by simp [State.mergeYoungest]
@[simp] theorem State.mergeYoungest_rotor (s : State) (delta : Nat) : (s.mergeYoungest delta).rotor = s.rotor :=
    by simp [State.mergeYoungest]
@[simp] theorem State.mergeYoungest_tuning (s : State) (delta : Nat) : (s.mergeYoungest delta).tuning = s.tuning :=
    by simp [State.mergeYoungest]
@[simp] theorem State.mergeYoungest_time (s : State) (delta : Nat) : (s.mergeYoungest delta).time = s.time :=
    by simp [State.mergeYoungest]
@[simp] theorem State.mergeYoungest_pending (s : State) (delta : Nat) : (s.mergeYoungest delta).pending = s.pending :=
    by simp [State.mergeYoungest]

/-! ### State.unmeasuredClosure -/

@[simp] theorem State.unmeasuredClosure_claims (s : State) : (s.unmeasuredClosure).claims = s.claims :=
    by unfold State.unmeasuredClosure; (repeat' split) <;> simp
@[simp] theorem State.unmeasuredClosure_arbiter (s : State) : (s.unmeasuredClosure).arbiter = s.arbiter :=
    by unfold State.unmeasuredClosure; (repeat' split) <;> simp
@[simp] theorem State.unmeasuredClosure_interlock (s : State) : (s.unmeasuredClosure).interlock = s.interlock :=
    by unfold State.unmeasuredClosure; (repeat' split) <;> simp
@[simp] theorem State.unmeasuredClosure_sensors (s : State) : (s.unmeasuredClosure).sensors = s.sensors :=
    by unfold State.unmeasuredClosure; (repeat' split) <;> simp
@[simp] theorem State.unmeasuredClosure_drives (s : State) : (s.unmeasuredClosure).drives = s.drives :=
    by unfold State.unmeasuredClosure; (repeat' split) <;> simp
@[simp] theorem State.unmeasuredClosure_rotor (s : State) : (s.unmeasuredClosure).rotor = s.rotor :=
    by unfold State.unmeasuredClosure; (repeat' split) <;> simp
@[simp] theorem State.unmeasuredClosure_tuning (s : State) : (s.unmeasuredClosure).tuning = s.tuning :=
    by unfold State.unmeasuredClosure; (repeat' split) <;> simp
@[simp] theorem State.unmeasuredClosure_time (s : State) : (s.unmeasuredClosure).time = s.time :=
    by unfold State.unmeasuredClosure; (repeat' split) <;> simp
@[simp] theorem State.unmeasuredClosure_pending (s : State) : (s.unmeasuredClosure).pending = s.pending :=
    by unfold State.unmeasuredClosure; (repeat' split) <;> simp

/-! ### State.judgeClosure -/

@[simp] theorem State.judgeClosure_claims (s : State) (after : MassSample) : (s.judgeClosure after).claims = s.claims :=
    by unfold State.judgeClosure; (repeat' split) <;> simp
@[simp] theorem State.judgeClosure_arbiter (s : State) (after : MassSample) : (s.judgeClosure after).arbiter = s.arbiter :=
    by unfold State.judgeClosure; (repeat' split) <;> simp
@[simp] theorem State.judgeClosure_interlock (s : State) (after : MassSample) : (s.judgeClosure after).interlock = s.interlock :=
    by unfold State.judgeClosure; (repeat' split) <;> simp
@[simp] theorem State.judgeClosure_sensors (s : State) (after : MassSample) : (s.judgeClosure after).sensors = s.sensors :=
    by unfold State.judgeClosure; (repeat' split) <;> simp
@[simp] theorem State.judgeClosure_drives (s : State) (after : MassSample) : (s.judgeClosure after).drives = s.drives :=
    by unfold State.judgeClosure; (repeat' split) <;> simp
@[simp] theorem State.judgeClosure_rotor (s : State) (after : MassSample) : (s.judgeClosure after).rotor = s.rotor :=
    by unfold State.judgeClosure; (repeat' split) <;> simp
@[simp] theorem State.judgeClosure_tuning (s : State) (after : MassSample) : (s.judgeClosure after).tuning = s.tuning :=
    by unfold State.judgeClosure; (repeat' split) <;> simp
@[simp] theorem State.judgeClosure_time (s : State) (after : MassSample) : (s.judgeClosure after).time = s.time :=
    by unfold State.judgeClosure; (repeat' split) <;> simp
@[simp] theorem State.judgeClosure_pending (s : State) (after : MassSample) : (s.judgeClosure after).pending = s.pending :=
    by unfold State.judgeClosure; (repeat' split) <;> simp

/-! ### State.retire -/

@[simp] theorem State.retire_claims (s : State) : (s.retire).claims = s.claims :=
    by unfold State.retire; (repeat' split) <;> simp
@[simp] theorem State.retire_arbiter (s : State) : (s.retire).arbiter = s.arbiter :=
    by unfold State.retire; (repeat' split) <;> simp
@[simp] theorem State.retire_interlock (s : State) : (s.retire).interlock = s.interlock :=
    by unfold State.retire; (repeat' split) <;> simp
@[simp] theorem State.retire_sensors (s : State) : (s.retire).sensors = s.sensors :=
    by unfold State.retire; (repeat' split) <;> simp
@[simp] theorem State.retire_drives (s : State) : (s.retire).drives = s.drives :=
    by unfold State.retire; (repeat' split) <;> simp
@[simp] theorem State.retire_rotor (s : State) : (s.retire).rotor = s.rotor :=
    by unfold State.retire; (repeat' split) <;> simp
@[simp] theorem State.retire_tuning (s : State) : (s.retire).tuning = s.tuning :=
    by unfold State.retire; (repeat' split) <;> simp
@[simp] theorem State.retire_link (s : State) : (s.retire).link = s.link :=
    by unfold State.retire; (repeat' split) <;> simp
@[simp] theorem State.retire_time (s : State) : (s.retire).time = s.time :=
    by unfold State.retire; (repeat' split) <;> simp
@[simp] theorem State.retire_pending (s : State) : (s.retire).pending = s.pending :=
    by unfold State.retire; (repeat' split) <;> simp

/-! ### State.annotate -/

@[simp] theorem State.annotate_claims (s : State) (k : Nat) (w : AnnotationWrite) (hit : Port → Word → Bool) : (s.annotate k w hit).claims = s.claims :=
    by simp [State.annotate]
@[simp] theorem State.annotate_arbiter (s : State) (k : Nat) (w : AnnotationWrite) (hit : Port → Word → Bool) : (s.annotate k w hit).arbiter = s.arbiter :=
    by simp [State.annotate]
@[simp] theorem State.annotate_interlock (s : State) (k : Nat) (w : AnnotationWrite) (hit : Port → Word → Bool) : (s.annotate k w hit).interlock = s.interlock :=
    by simp [State.annotate]
@[simp] theorem State.annotate_sensors (s : State) (k : Nat) (w : AnnotationWrite) (hit : Port → Word → Bool) : (s.annotate k w hit).sensors = s.sensors :=
    by simp [State.annotate]
@[simp] theorem State.annotate_drives (s : State) (k : Nat) (w : AnnotationWrite) (hit : Port → Word → Bool) : (s.annotate k w hit).drives = s.drives :=
    by simp [State.annotate]
@[simp] theorem State.annotate_rotor (s : State) (k : Nat) (w : AnnotationWrite) (hit : Port → Word → Bool) : (s.annotate k w hit).rotor = s.rotor :=
    by simp [State.annotate]
@[simp] theorem State.annotate_tuning (s : State) (k : Nat) (w : AnnotationWrite) (hit : Port → Word → Bool) : (s.annotate k w hit).tuning = s.tuning :=
    by simp [State.annotate]
@[simp] theorem State.annotate_time (s : State) (k : Nat) (w : AnnotationWrite) (hit : Port → Word → Bool) : (s.annotate k w hit).time = s.time :=
    by simp [State.annotate]
@[simp] theorem State.annotate_pending (s : State) (k : Nat) (w : AnnotationWrite) (hit : Port → Word → Bool) : (s.annotate k w hit).pending = s.pending :=
    by simp [State.annotate]

/-! ### State.commit -/

@[simp] theorem State.commit_claims (s : State) (p : Port) (k : Nat) (seq : Word) (w : AnnotationWrite) : (s.commit p k seq w).claims = s.claims :=
    by simp [State.commit]
@[simp] theorem State.commit_arbiter (s : State) (p : Port) (k : Nat) (seq : Word) (w : AnnotationWrite) : (s.commit p k seq w).arbiter = s.arbiter :=
    by simp [State.commit]
@[simp] theorem State.commit_interlock (s : State) (p : Port) (k : Nat) (seq : Word) (w : AnnotationWrite) : (s.commit p k seq w).interlock = s.interlock :=
    by simp [State.commit]
@[simp] theorem State.commit_sensors (s : State) (p : Port) (k : Nat) (seq : Word) (w : AnnotationWrite) : (s.commit p k seq w).sensors = s.sensors :=
    by simp [State.commit]
@[simp] theorem State.commit_drives (s : State) (p : Port) (k : Nat) (seq : Word) (w : AnnotationWrite) : (s.commit p k seq w).drives = s.drives :=
    by simp [State.commit]
@[simp] theorem State.commit_rotor (s : State) (p : Port) (k : Nat) (seq : Word) (w : AnnotationWrite) : (s.commit p k seq w).rotor = s.rotor :=
    by simp [State.commit]
@[simp] theorem State.commit_tuning (s : State) (p : Port) (k : Nat) (seq : Word) (w : AnnotationWrite) : (s.commit p k seq w).tuning = s.tuning :=
    by simp [State.commit]
@[simp] theorem State.commit_time (s : State) (p : Port) (k : Nat) (seq : Word) (w : AnnotationWrite) : (s.commit p k seq w).time = s.time :=
    by simp [State.commit]
@[simp] theorem State.commit_pending (s : State) (p : Port) (k : Nat) (seq : Word) (w : AnnotationWrite) : (s.commit p k seq w).pending = s.pending :=
    by simp [State.commit]

/-! ### State.writeTuning -/

@[simp] theorem State.writeTuning_claims (s : State) (k : Fin 13) (v : Nat) : (s.writeTuning k v).claims = s.claims := by
  unfold State.writeTuning
  simp only
  (repeat' split) <;> simp
@[simp] theorem State.writeTuning_interlock (s : State) (k : Fin 13) (v : Nat) : (s.writeTuning k v).interlock = s.interlock := by
  unfold State.writeTuning
  simp only
  (repeat' split) <;> simp
@[simp] theorem State.writeTuning_sensors (s : State) (k : Fin 13) (v : Nat) : (s.writeTuning k v).sensors = s.sensors := by
  unfold State.writeTuning
  simp only
  (repeat' split) <;> simp
@[simp] theorem State.writeTuning_rotor (s : State) (k : Fin 13) (v : Nat) : (s.writeTuning k v).rotor = s.rotor := by
  unfold State.writeTuning
  simp only
  (repeat' split) <;> simp
@[simp] theorem State.writeTuning_time (s : State) (k : Fin 13) (v : Nat) : (s.writeTuning k v).time = s.time := by
  unfold State.writeTuning
  simp only
  (repeat' split) <;> simp
@[simp] theorem State.writeTuning_pending (s : State) (k : Fin 13) (v : Nat) : (s.writeTuning k v).pending = s.pending := by
  unfold State.writeTuning
  simp only
  (repeat' split) <;> simp

end Sys2Proof.Machine
end

