-- ==== Sys2Proof/Laws/Requests.lean ====
section
/-! SUPPORT. What the shared operations around a command do, said once: the step, a request taken by its block and its
reply, a service frame, and the notices that a command posts. -/

namespace Sys2Proof.Machine

/-! ## The step -/

theorem step_cons (s : State) (c : Instr) (rest : List Instr) (h : s.pending = c :: rest) :
    step s = exec c (s.withPending rest) := by
  unfold step
  rw [h]

theorem step_nil (s : State) (h : s.pending = []) : step s = .next s.tick := by
  unfold step
  rw [h]

/-! ## A request and its reply -/

theorem onRequest_asks {s : State} {p : Port} {code : Byte} {req : List Byte} (h : s.Asks p code req)
    (f : List Byte → State) : onRequest s p code f = .next (f req) := by
  unfold onRequest
  rw [h.1]
  simp [h.2]

theorem onRequest_idle {s : State} {p : Port} (h : (s.port p).flight = none) (code : Byte) (f : List Byte → State) :
    onRequest s p code f = .next s := by
  unfold onRequest
  rw [h]

theorem onRequest_other {s : State} {p : Port} {code : Byte} {req : List Byte} (h : (s.port p).flight = some req)
    (hc : byteAt req 0 ≠ code) (f : List Byte → State) : onRequest s p code f = .next s := by
  unfold onRequest
  rw [h]
  simp [hc]

/-- The attention line is that of the notices, the levels and the class alone (R158). -/
theorem attnWanted_congr {q r : PortState} (hc : q.cls = r.cls) (hn : q.notices = r.notices) (hl : q.levels = r.levels) :
    q.attnWanted = r.attnWanted := by
  unfold PortState.attnWanted PortState.enabled PortState.topNotice PortState.isPending
  rw [hc, hn, hl]

/-- A reply is the whole change that completing a request makes (R149). -/
theorem answer_eq_replied {s : State} {p : Port} {code : Byte} {req : List Byte} (h : s.Asks p code req) (st : Status)
    (data : List Byte) : s.answer p st data = s.replied p st code data := by
  have hcode : (s.port p).codeInFlight = code := by
    unfold PortState.codeInFlight
    rw [h.1]
    exact h.2
  unfold State.answer State.replied State.updPort State.withPort PortState.refresh PortState.answer
  rw [hcode]
  rfl

theorem refuse_eq_replied {s : State} {p : Port} {code : Byte} {req : List Byte} (h : s.Asks p code req) (st : Status) :
    s.refuse p st = s.replied p st code [] := answer_eq_replied h st []

/-- What a block changes away from the ports does not reach the request in flight. -/
theorem asks_of_ports_eq {s t : State} {p : Port} {code : Byte} {req : List Byte} (h : s.Asks p code req)
    (hp : t.ports = s.ports) : t.Asks p code req := by
  unfold State.Asks State.port at *
  rw [hp]
  exact h

/-! ## A service frame -/

@[simp] theorem length_frameBits (frame : Word) : (frameBits frame).length = 32 := by simp [frameBits]

/-- A frame is read back from its bits (R160, R174). -/
@[simp] theorem wordOfBits_frameBits (frame : Word) : wordOfBits (frameBits frame) = frame := by
  apply BitVec.eq_of_getLsbD_eq
  intro k hk
  have h31 : 31 - (31 - k) = k := by omega
  simp [wordOfBits, frameBits, hk, h31]

/-- The bits end a frame of the row's kind: the frame is taken, and the link is ready for the next (R160). -/
theorem takeFrame_takes {s : State} {bits : List Bool} {frame : Word} {run : Nat} (h : s.TakesFrame bits frame run)
    {kind : FrameKind} (hk : s.link.phase.kindOf frame = kind) (f : Word → State) :
    takeFrame s bits kind f = .next ((f frame).sampledBits [] run) := by
  unfold takeFrame
  simp [h.1, h.2, hk]

/-- The bits end a frame of another kind: nothing changes (log 2). -/
theorem takeFrame_other {s : State} {bits : List Bool} {frame : Word} {run : Nat} (h : s.TakesFrame bits frame run)
    {kind : FrameKind} (hk : s.link.phase.kindOf frame ≠ kind) (f : Word → State) :
    takeFrame s bits kind f = .next s := by
  unfold takeFrame
  simp [h.1, h.2, hk]

/-- The bits do not end the frame under way: they wait in it (R160). -/
theorem takeFrame_waits {s : State} {bits : List Bool} {run : Nat} (h : onesAfter s.link.onesRun bits = some run)
    (hlen : s.link.sampled.length + bits.length < 32) (kind : FrameKind) (f : Word → State) :
    takeFrame s bits kind f = .next (s.sampledBits (s.link.sampled ++ bits) run) := by
  unfold takeFrame
  simp [h, hlen]

/-- All that the bits of a row can do: nothing, wait, or end the frame of the row's kind. -/
theorem takeFrame_cases (s : State) (bits : List Bool) (kind : FrameKind) (f : Word → State) :
    takeFrame s bits kind f = .next s ∨
      (∃ run, s.link.sampled.length + bits.length < 32 ∧
        takeFrame s bits kind f = .next (s.sampledBits (s.link.sampled ++ bits) run)) ∨
      ∃ run frame, s.link.phase.kindOf frame = kind ∧ takeFrame s bits kind f = .next ((f frame).sampledBits [] run) := by
  unfold takeFrame
  cases hr : onesAfter s.link.onesRun bits with
  | none => exact .inl rfl
  | some run =>
    by_cases hlen : (s.link.sampled ++ bits).length < 32
    · exact .inr (.inl ⟨run, by simpa using hlen, by simp only [hlen, if_true]⟩)
    · by_cases hk : (s.link.sampled ++ bits).length = 32 ∧
          s.link.phase.kindOf (wordOfBits (s.link.sampled ++ bits)) = kind
      · exact .inr (.inr ⟨run, _, hk.2, by simp only [hk]; rfl⟩)
      · exact .inl (by simp only [hlen, hk, if_false])

/-- The bits that a PEEK or a POKE brings end its frame, when the frame under way begins as it does. -/
theorem takesFrame_bitsLeft {s : State} {frame : Word} {run : Nat}
    (hp : s.link.sampled = (frameBits frame).take s.link.sampled.length)
    (hr : onesAfter s.link.onesRun (s.link.bitsLeft frame) = some run) :
    s.TakesFrame (s.link.bitsLeft frame) frame run := by
  refine ⟨?_, hr⟩
  unfold Link.bitsLeft
  conv => lhs; lhs; rw [hp]
  rw [List.take_append_drop]

/-! ## Notices -/

theorem isPending_postNotice_self (n : Source) (q : PortState) : (q.postNotice n).isPending n.number = true := by
  cases n <;> simp [PortState.isPending, PortState.postNotice, Source.mask, Source.number]

theorem isPending_postNotice_of (n : Source) (q : PortState) (m : Fin 16) (h : q.isPending m = true) :
    (q.postNotice n).isPending m = true := by
  unfold PortState.isPending PortState.postNotice at *
  simp [h]

theorem portsButNotices_refl (s : State) : s.PortsButNotices s := by
  intro q
  simp

theorem portsButNotices_of_ports_eq {s t : State} (h : t.ports = s.ports) : s.PortsButNotices t := by
  intro q
  unfold State.port
  rw [h]
  simp

theorem portsButNotices_trans {s t u : State} (h : s.PortsButNotices t) (k : t.PortsButNotices u) :
    s.PortsButNotices u := by
  intro q
  refine ⟨(k q).1.trans (h q).1, ?_⟩
  have h1 := (h q).2
  have h2 := (k q).2
  calc (s.port q).notices &&& (u.port q).notices
      = (s.port q).notices &&& (t.port q).notices &&& (u.port q).notices := by rw [h1]
    _ = (s.port q).notices &&& ((t.port q).notices &&& (u.port q).notices) := BitVec.and_assoc ..
    _ = (s.port q).notices := by rw [h2, h1]

/-- A post changes nothing of the ports but a pending set and an attention line. -/
theorem portsButNotices_post (s : State) (n : Source) (p : Port) : s.PortsButNotices (s.post n p) := by
  intro q
  by_cases h : q = p
  · subst h
    refine ⟨?_, ?_⟩
    · simp [State.post, PortState.refresh, PortState.postNotice]
    · simp only [State.post, State.port_updPort_self, PortState.refresh, PortState.postNotice]
      ext k hk
      simp only [BitVec.getElem_and, BitVec.getElem_or]
      cases (s.port q).notices[k] <;> simp
  · simp [State.post, State.port_updPort, Ne.symm h]

theorem portsButNotices_postAll (s : State) (n : Source) : s.PortsButNotices (s.postAll n) :=
  portsButNotices_trans (portsButNotices_trans (portsButNotices_post s n 0) (portsButNotices_post _ n 1))
    (portsButNotices_post _ n 2)

theorem posted_mono {s t : State} (h : s.PortsButNotices t) {n : Source} {p : Port} (hp : s.Posted n p) :
    t.Posted n p := by
  have h2 := (h p).2
  unfold State.Posted PortState.isPending at *
  rw [← h2] at hp
  simp only [BitVec.getLsbD_and, Bool.and_eq_true] at hp
  exact hp.2

theorem posted_post (s : State) (n : Source) (p : Port) : (s.post n p).Posted n p := by
  unfold State.Posted
  simp only [State.post, State.port_updPort_self]
  exact isPending_postNotice_self n _

theorem posted_postAll (s : State) (n : Source) (p : Port) : (s.postAll n).Posted n p := by
  have h0 := posted_post s n 0
  have h1 := posted_post (s.post n 0) n 1
  have h2 := posted_post ((s.post n 0).post n 1) n 2
  have k1 := portsButNotices_post (s.post n 0) n 1
  have k2 := portsButNotices_post ((s.post n 0).post n 1) n 2
  match p with
  | 0 => exact posted_mono k2 (posted_mono k1 h0)
  | 1 => exact posted_mono k2 h1
  | 2 => exact h2

end Sys2Proof.Machine
end

