-- ==== Sys2Proof/Laws/Events.lean ====
section
/-! SUPPORT. What the shared operations of an event do, said once: the bits that a transaction shifts out, the notices that
a post adds, and the change of the latch command. -/

namespace Sys2Proof.Machine

/-! ## What a transaction shifts out -/

@[simp] theorem length_byteBits (b : Byte) : (byteBits b).length = 8 := by simp [byteBits]

/-- Bit k of bytes laid out most significant bit first is bit 7 − k mod 8 of byte k / 8. -/
theorem getElem?_flatMap_byteBits (l : List Byte) (k : Nat) (h : k < 8 * l.length) :
    (l.flatMap byteBits)[k]? = some ((byteAt l (k / 8)).getLsbD (7 - k % 8)) := by
  induction l generalizing k with
  | nil => simp at h
  | cons b rest ih =>
    rw [List.flatMap_cons]
    by_cases hk : k < 8
    · have h7 : k % 8 = k := by omega
      have h0 : k / 8 = 0 := by omega
      rw [List.getElem?_append_left (by simpa using hk)]
      simp [byteBits, byteAt, h0, h7, hk, BitVec.getMsbD]
    · have hd : k / 8 = (k - 8) / 8 + 1 := by omega
      have hm : k % 8 = (k - 8) % 8 := by omega
      rw [List.getElem?_append_right (by simpa using hk), length_byteBits, ih (k - 8) (by simp at h; omega), hd, hm]
      simp [byteAt]

@[simp] theorem length_flatMap_byteBits (l : List Byte) : (l.flatMap byteBits).length = 8 * l.length := by
  induction l with
  | nil => rfl
  | cons b rest ih => simp [List.flatMap_cons, ih]; omega

/-- The bits of a transaction are those of its reply, and zero after its sixteenth byte (R147, R151). -/
theorem out_eq_shifted (t : Transaction) (n : Nat) (h : t.shiftedOut.data.length = 14) :
    t.out n = t.shiftedOut.shifted n := by
  have hl : t.shiftedOut.bytes.length = 16 := by simp [Reply.bytes, h]
  apply List.ext_getElem?
  intro k
  unfold Transaction.out Reply.shifted
  by_cases hn : k < n
  · rw [List.getElem?_take_of_lt hn, List.getElem?_map, List.getElem?_range hn]
    by_cases hk : k < 128
    · rw [List.getElem?_append_left (by simp [hl, hk]), getElem?_flatMap_byteBits _ _ (by omega)]
      rfl
    · have hz : byteAt t.shiftedOut.bytes (k / 8) = 0 := by
        unfold byteAt
        rw [List.getD_eq_getElem?_getD, List.getElem?_eq_none (by omega)]
        rfl
      rw [List.getElem?_append_right (by simp [hl]; omega), List.getElem?_replicate]
      simp [hl, hz]
      omega
  · rw [List.getElem?_take_eq_none (by omega), List.getElem?_eq_none (by simp; omega)]

/-! ## Which notices a post adds -/

theorem isPending_postNotice_iff (n m : Source) (q : PortState) :
    (q.postNotice n).isPending m.number = true ↔ q.isPending m.number = true ∨ m = n := by
  cases n <;> cases m <;> simp [PortState.isPending, PortState.postNotice, Source.mask, Source.number]

theorem posted_post_iff (s : State) (n m : Source) (p q : Port) :
    (s.post n p).Posted m q ↔ s.Posted m q ∨ (m = n ∧ q = p) := by
  unfold State.Posted State.post
  by_cases h : q = p
  · subst h
    rw [State.port_updPort_self]
    have h : (q = q) = True := eq_self q
    rw [h, and_true]
    exact isPending_postNotice_iff n m (s.port q)
  · simp [State.port_updPort, Ne.symm h, h]

theorem posted_postAll_iff (s : State) (n m : Source) (q : Port) :
    (s.postAll n).Posted m q ↔ s.Posted m q ∨ m = n := by
  unfold State.postAll
  rw [posted_post_iff, posted_post_iff, posted_post_iff]
  have hq : ∀ q : Port, q = 0 ∨ q = 1 ∨ q = 2 := by decide
  have := hq q
  tauto

theorem posted_postOwner_iff (s : State) (n m : Source) (o : Option Port) (q : Port) :
    (s.postOwner n o).Posted m q ↔ s.Posted m q ∨ (m = n ∧ o = some q) := by
  cases o with
  | none => simp [State.postOwner]
  | some p =>
    unfold State.postOwner
    rw [posted_post_iff, Option.some.injEq, eq_comm (a := q)]

theorem postsExactly_of_ports_eq {s t : State} (h : t.ports = s.ports) : s.PostsExactly t (fun _ _ => False) := by
  intro n q
  unfold State.Posted State.port
  rw [h]
  simp

/-- What two events post after one another is what either posts. -/
theorem postsExactly_trans {s t u : State} {a b : Source → Port → Prop} (h : s.PostsExactly t a)
    (k : t.PostsExactly u b) : s.PostsExactly u (fun n q => a n q ∨ b n q) := by
  intro n q
  rw [k n q, h n q, or_assoc]

theorem postsExactly_postAll (s : State) (n : Source) : s.PostsExactly (s.postAll n) (fun m _ => m = n) :=
  fun m q => posted_postAll_iff s n m q

theorem postsExactly_postOwner (s : State) (n : Source) (o : Option Port) :
    s.PostsExactly (s.postOwner n o) (fun m q => m = n ∧ o = some q) :=
  fun m q => posted_postOwner_iff s n m o q

/-! ## The latch command -/

/-- A change of the latch command is the unit commanded: the disagreement judged afresh (R53, R61). -/
theorem setLatchCommand_interlock {s : State} {k : LatchCommand} (h : s.interlock.latchCommand ≠ k) :
    (s.setLatchCommand k).interlock = s.interlock.commanded k s.time := by
  unfold State.setLatchCommand Interlock.judgeDisagreement Interlock.commanded Interlock.disagrees
  cases k <;> cases s.interlock.feedbackEngaged <;> cases s.interlock.lidClosed <;> simp [h]

theorem setLatchCommand_stands {s : State} {k : LatchCommand} (h : s.interlock.latchCommand = k) :
    s.setLatchCommand k = s := by
  unfold State.setLatchCommand
  simp [h]

end Sys2Proof.Machine
end

