-- ==== Sys2Proof/WellFormed.lean ====
section
/-! DEFINITION. Which commands the world can send: the checks that a command's operands lie in the ranges the spec gives
its source. The machine's meanings are total all the same: none of them asks for these checks. -/

namespace Sys2Proof

/-- A thermistor reading lies in the converter's span (R70). -/
def readingInSpan (t : Int) : Bool := decide (Config.spanLow ≤ t ∧ t ≤ Config.spanHigh)

/-- A load-cell reading lies in the converter's span, or is failed (R74). -/
def LoadReading.inSpan : LoadReading → Bool
  | .failed => true
  | .grams g => decide (Config.loadLow ≤ g ∧ g ≤ Config.loadHigh)

/-- The bits that a row of the service link brings: a frame has 32, so an event falls within 32 of them (R160). -/
def bitsInFrame (bits : List Bool) : Bool := decide (1 ≤ bits.length ∧ bits.length ≤ 32)

/-- The command's operands are ones that its source can bring. -/
def WellFormed (c : Instr) : Bool :=
  match c with
  | .resetRelease first => readingInSpan first.plate && readingInSpan first.air && first.load.inSpan
  | .transactionTaken _ x => decide (16 ≤ x.bytes.length ∧ x.extra < 8)
  | .thermistorReport plate air => readingInSpan plate && readingInSpan air
  | .loadCellConversion reading => reading.inSpan
  | .shortTransaction x => decide (x.clocks < 128)
  | .idleFrame bits | .unknownCommandFrame bits | .pokeDataFrame bits | .verifyFrame bits | .watch bits
  | .touched bits | .call bits => bitsInFrame bits
  | .transactionStart _ | .busyTransaction _ | .nop _ | .status _ | .noticeRead _
  | .noticeClear _ | .noticeLevel _ | .accessRead _ | .accessWrite _ | .portReset _ | .rotorRead _ | .draft _
  | .arm _ | .disarm _ | .alter _ | .claimRead _ | .batchRead _ | .batchReserve _ | .batchCommit _
  | .retiredPeek _ | .retiredTake _ | .haltClear _ | .tuningRead _ | .tuningWrite _ | .budgetWrite
  | .arbitrationPass _ | .grant | .yield | .chamberClockIncrement | .runTimeExpiry _ | .deadlineExpiry _
  | .lidSwitchChange _ | .binSwitchChange _ | .latchFeedbackChange _ | .cutoutChange _
  | .disagreementTimerExpiry | .doseSample _ | .grindCredit | .rotorPulse | .rotorAtRest | .startGraceRunsOut
  | .stallDeadlinePassed | .jogPhaseEnd | .probeWindowEnd | .onTimeEnd | .offTimeEnd | .cleanRunTimerExpiry
  | .massBeforeSample | .massAfterSettleStart | .massAfterSettleEnd | .binInsertion | .tareSettleEnd
  | .retirement | .peek _ _ _ _ | .poke _ _ _ _ | .resync => true

end Sys2Proof
end

