-- ==== Sys2Proof/Tests/Slice0.lean ====
section
/-! SUPPORT. The model's own tests: the well-formedness checks, examples of the spec's chapters, and for every statement
with hypotheses a state and operands that meet them, clause by clause. -/

set_option Elab.async false

namespace Sys2Proof.Tests

open Sys2Proof Sys2Proof.Machine

/-! ## Small states -/

/-- The answer is a next state of which the test holds. -/
def after (o : Answer) (ok : State → Bool) : Bool :=
  match o with
  | .next t => ok t
  | .fault _ => false
  | .refused _ => false

/-- A request of sixteen bytes that begins with these. -/
def sixteen (bytes : List Byte) : List Byte := (bytes ++ zeroData ++ [0, 0]).take 16

/-- The state with this request in flight at the port. -/
def asked (p : Port) (bytes : List Byte) (s : State) : State :=
  s.withPort p { s.port p with flight := some (sixteen bytes), consumed := true }

/-- The state in which the port holds no permission and drives nothing. -/
def barred (p : Port) (s : State) : State := s.withPort p { s.port p with access := .ofClass .none }

/-- A HEATER claim's fields: setpoint 100 °C, 700 W, level 5, 600 seconds. -/
def heater : Params := { Params.zero with settingA := 100, demand := 700, level := 5, duration := 600 }

/-- A GRINDER claim's fields: FORWARD, CONTINUOUS, 150 W, level 4, 600 seconds. -/
def grinder : Params := { heater with target := .grinder, settingA := 0, demand := 150, level := 4 }

/-- A LATCH claim's fields: 10 W, level 2, 60 seconds. -/
def latch : Params := { grinder with target := .latch, demand := 10, level := 2, duration := 60 }

/-- A CURB claim's fields: 100 W of reduction on no target. -/
def curb : Params := { latch with kind := .curb, target := .none, demand := 0, reduction := 100 }

/-- An entry of MP0 in a state, with both copies alike. -/
def entry (q : Params) (st : ClaimState) (out : ClaimOutcome) : Claim :=
  { state := st, owner := some 0, staged := q, active := q, remRun := q.duration, remDeadline := q.deadline
    outcome := out, grantStamp := none, yielded := false, arming := 1 }

/-- A secured chamber after reset release, the plate and the air at 60 °C. -/
def secured : State :=
  { State.reset with
    interlock := { Interlock.reset with lidClosed := true, binIn := true, feedbackEngaged := true, secured := true }
    sensors := { Sensors.reset with plate := ⟨60, false⟩, air := ⟨60, false⟩ } }

/-- The secured chamber with the rotor at rest. -/
def still : State := { secured with rotor := { Rotor.reset with atRest := true, restTimer := none } }

/-- The rotor monitor driving FORWARD, with no period and a grace that runs from 0. -/
def drivingRotor : Rotor :=
  { Rotor.reset with mode := .driving, output := .forward, restTimer := none, grace := some 0, cleanRun := some 0
                     attemptClaim := some (5, 1) }

/-- A batch record of seq n, TREATING. -/
def record (n : Nat) : BatchRecord :=
  { seq := BitVec.ofNat 32 n, state := .treating, mass := some 200, dose := 10, grind := 3, openedAt := 7
    curedAt := none, merged := false, tag := 0, doseOverride := none, grindOverride := none }

/-- A secured chamber at work at 5 seconds: entry 3 heats, entry 5 grinds, and two records are in the bin. -/
def atWork : State :=
  { secured with
    claims := (Table.reset.set 3 (entry heater .granted .none)).set 5 (entry grinder .granted .none)
    drives := ⟨true, 0⟩, rotor := drivingRotor, time := 5000000
    batch := { BatchUnit.reset with records := [record 1, record 2], nextSeq := 3, mix := .wet } }

/-- The state with the entry replaced. -/
def withEntry (i : ClaimIdx) (c : Claim) (s : State) : State := { s with claims := s.claims.set i c }

/-- The state with the rotor monitor replaced. -/
def withRotor (r : Rotor) (s : State) : State := { s with rotor := r }

/-- The state with these requests of the arbiter. -/
def issued (l : List Request) (s : State) : State := { s with arbiter := { s.arbiter with requests := l } }

/-! ## Well-formedness: for each check, a term that it refuses -/

/-- First samples in a secured chamber. -/
def samples (plate air : Int) (load : LoadReading) : FirstSamples :=
  { straps := #v[⟨false, false⟩, ⟨false, true⟩, ⟨true, true⟩]
    lidClosed := true, binIn := true, feedbackEngaged := true, cutoutClosed := true
    plate := plate, air := air, humidity := .result 40, load := load }

theorem test_wellFormed_accepts :
    WellFormed (.resetRelease (samples 20 20 (.grams 0))) = true ∧
    WellFormed (.transactionTaken 0 ⟨sixteen [], 7⟩) = true ∧ WellFormed (.thermistorReport (-40) 300) = true ∧
    WellFormed (.loadCellConversion (.grams (-2000))) = true ∧ WellFormed (.shortTransaction ⟨0, 127⟩) = true ∧
    WellFormed (.unknownCommandFrame (frameBits 0x60000000)) = true ∧ WellFormed (.idleFrame [true]) = true := by
  decide

theorem test_wellFormed_refuses_reset_readings :
    WellFormed (.resetRelease (samples (-41) 20 (.grams 0))) = false ∧
    WellFormed (.resetRelease (samples 20 301 (.grams 0))) = false ∧
    WellFormed (.resetRelease (samples 20 20 (.grams 24001))) = false := by decide

theorem test_wellFormed_refuses_short_request :
    WellFormed (.transactionTaken 0 ⟨[0x01, 0x00], 0⟩) = false ∧
    WellFormed (.transactionTaken 0 ⟨sixteen [], 8⟩) = false := by decide

theorem test_wellFormed_refuses_thermistor_out_of_span :
    WellFormed (.thermistorReport (-41) 0) = false ∧ WellFormed (.thermistorReport 0 301) = false := by decide

theorem test_wellFormed_refuses_load_out_of_span :
    WellFormed (.loadCellConversion (.grams (-2001))) = false ∧
    WellFormed (.loadCellConversion (.grams 24001)) = false := by decide

theorem test_wellFormed_refuses_bits_beyond_a_frame :
    WellFormed (.unknownCommandFrame []) = false ∧ WellFormed (.idleFrame (frameBits 0 ++ [true])) = false ∧
    WellFormed (.pokeDataFrame (frameBits 0 ++ [false])) = false ∧ WellFormed (.verifyFrame []) = false ∧
    WellFormed (.watch []) = false ∧ WellFormed (.touched []) = false ∧ WellFormed (.call []) = false := by decide

theorem test_wellFormed_refuses_whole_transaction_as_short : WellFormed (.shortTransaction ⟨1, 128⟩) = false := by decide

/-- No row of the opcode table gives bits. -/
theorem test_no_row_has_bits : decodeTableWord 32 0x10000000 = none := by decide

/-! ## The step and reset -/

theorem test_witness_StepRunsTheFrontCommand : atWork.pending = [] := by decide

theorem test_witness_ResetReleaseSetsThePorts :
    (∀ a b : Bool, ∃ cls ∈ [PortClass.control, .panel, .link, .none],
      (cls = .control ↔ a = false ∧ b = false) ∧ (cls = .panel ↔ a = false ∧ b = true) ∧
      (cls = .link ↔ a = true ∧ b = false) ∧ (cls = .none ↔ a = true ∧ b = true)) ∧
    after (exec (.resetRelease (samples 20 20 .failed)) atWork) (fun t => !t.interlock.haltLatch) = true ∧
    after (exec (.resetRelease { samples 20 20 .failed with cutoutClosed := false }) atWork)
      (fun t => t.interlock.haltLatch) = true := by decide +kernel

theorem test_witness_ResetReleaseSetsTheBlocks :
    ({ samples 20 20 .failed with cutoutClosed := false } : FirstSamples).cutoutClosed = false ∧
    (¬ ReadingValid 251 ∧ ReadingValid 250 ∧ ReadingValid (-20) ∧ (190 : Int) < 191 ∧ (-40 : Int) ≤ -40 ∧ (300 : Int) ≤ 300) ∧
    after (exec (.resetRelease (samples 20 20 (.grams (-1)))) atWork) (fun t => decide (
      t.interlock.causes = 0 ∧ t.interlock.firstCause = none ∧ t.drives.fanDuty = 0 ∧ t.sensors.loadFault = true)) = true ∧
    after (exec (.resetRelease (samples 191 20 (.grams 0))) atWork) (fun t => decide (
      t.interlock.firstCause = some .overheat ∧ t.drives.fanDuty = 100)) = true ∧
    after (exec (.resetRelease { samples 251 20 .failed with cutoutClosed := false, feedbackEngaged := false }) atWork)
      (fun t => decide (t.interlock.firstCause = some .cutout ∧ t.interlock.causes = 0x06 ∧
        t.interlock.disagreement = some 0)) = true := by decide +kernel

/-- A halt of the cutout alone, the first plate conversion valid and at the open limit: the forced vent runs (log 33). -/
theorem test_reset_cutout_with_hot_plate :
    after (exec (.resetRelease { samples 70 20 .failed with cutoutClosed := false }) atWork)
      (fun t => decide (t.interlock.causes = 0x02 ∧ t.drives.fanDuty = 100)) = true := by decide +kernel

/-! ## The laws: a chamber at work keeps each, and steps -/

theorem test_witness_StepKeepsTheClaimLaw : atWork.ClaimsLawful := by decide +kernel

theorem test_witness_StepKeepsTheHaltAndInputLaws_halt :
    atWork.interlock.HaltLawful ∧
    ({ Interlock.reset with active := 0x02, causes := 0x22, firstCause := some .jam, haltLatch := true
                            cutoutClosed := false } : Interlock).HaltLawful := by decide +kernel

theorem test_witness_StepKeepsTheHaltAndInputLaws_input :
    atWork.interlock.InputLawful ∧
    ({ Interlock.reset with lidClosed := true, disagreement := some 7, active := 0x10 } : Interlock).InputLawful := by
  decide +kernel

theorem test_witness_StepKeepsTheChamberLaw :
    atWork.ClaimsLawful ∧ atWork.ChamberLawful ∧ atWork.rotor.DriveLawful := by decide +kernel

theorem test_witness_StepKeepsTheRotorCounts : atWork.rotor.DriveLawful ∧ atWork.rotor.CountsLawful := by decide +kernel

theorem test_witness_StepKeepsTheBatchLaw : atWork.BatchLawful := by decide +kernel

theorem test_witness_StepKeepsThePortLawAndTheRanges_ports : (asked 0 [0x0C, 3] atWork).PortsLawful := by decide +kernel

theorem test_witness_StepKeepsThePortLawAndTheRanges_ranges :
    ({ atWork with arbiter := { atWork.arbiter with budgetWrites := [(0, 1800), (1, 300)] } } : State).TuningLawful ∧
    atWork.sensors.Lawful ∧ atWork.link.Lawful := by decide +kernel

/-- The chamber at work steps on every kind of command: a tick, a pulse, a trip. -/
theorem test_atWork_steps :
    after (step atWork) (fun t => decide (t.time = 5000001)) = true ∧
    after (step { atWork with pending := [.rotorPulse] }) (fun t => decide (t.rotor.period = some 250000)) = true ∧
    after (step { atWork with pending := [.cutoutChange false] })
      (fun t => decide ((t.claim 3).state = .held ∧ (t.claim 5).state = .held ∧ t.rotor.output = .off)) = true := by
  decide +kernel

/-! ## The arbitration pass -/

/-- Entry 1 waits for the latch, and entry 2 for the heater that entry 3 holds as BULK. -/
def waiting : State :=
  withEntry 2 (entry { heater with level := 1 } .pending .none)
    (withEntry 3 (entry { heater with bulk := true } .granted .none) atWork)

theorem test_witness_one_holder : Table.OneHolder waiting.claims := by
  intro a
  cases a <;> decide +kernel

theorem test_witness_PassKeepsItsLawsAndEnds :
    Table.grantedSum waiting.claims + Table.reductions waiting.claims ≤ waiting.budget ∧
    Table.OneHolder waiting.claims := ⟨by decide +kernel, test_witness_one_holder⟩

/-- A pass under way: the yield of the BULK heater and the grant of entry 2 are still to be taken. -/
def underWay : State := issued waiting.pass.issued waiting

theorem test_witness_StepKeepsOneHolderAndThePowerLaw :
    underWay.ClaimsLawful ∧ underWay.PowerLawful ∧ underWay.NoArmingReturns ∧
    underWay.arbiter.requests = [.yield 3 true, .grant 2 1] := by
  refine ⟨by decide +kernel, ⟨⟨⟨?_, by decide +kernel⟩, ⟨?_, by decide +kernel⟩, ?_, by decide +kernel⟩, by decide +kernel⟩,
    ?_, by decide +kernel⟩
  · intro a
    cases a <;> decide +kernel
  · intro a
    cases a <;> decide +kernel
  · intro a
    cases a <;> decide +kernel
  · intro i n h
    have hr : underWay.arbiter.requests = [.yield 3 true, .grant 2 1] := by decide +kernel
    rw [hr] at h
    simp only [List.mem_cons, reduceCtorEq, Request.grant.injEq, List.not_mem_nil, or_false, false_or] at h
    rw [h.1, h.2]
    decide +kernel

/-- The pass displaces the BULK heater for the more urgent claim (R44). -/
theorem test_witness_PassRequestsAreAllowed :
    waiting.pass.issued = [] ++ .yield 3 true :: [.grant 2 1] ∧
    waiting.pass.issued = [.yield 3 true] ++ .grant 2 1 :: [] ∧ Table.OneHolder waiting.claims :=
  ⟨by decide +kernel, by decide +kernel, test_witness_one_holder⟩

/-- Entry 1 waits for a fan that nobody holds, and there is room for it. -/
def fanWaits : State :=
  withEntry 1 (entry { heater with target := .fan, settingA := 50, demand := 30, level := 0 } .pending .none) atWork

theorem test_witness_first_candidate_fits :
    fanWaits.reckoning.eligible 1 = true ∧ fanWaits.reckoning.next = some 1 ∧
    (∀ h, (fanWaits.claim h).holds (fanWaits.claim 1).active.target = false) ∧ fanWaits.reckoning.Passes 1 [] ∧
    fanWaits.pass.issued.head? = some (.grant 1 1) := by decide +kernel

/-- Entry 0 waits for the latch, with less than the yield level, beside a BULK grinder. -/
def clearing : State :=
  withEntry 0 (entry latch .pending .none) (withEntry 5 (entry { grinder with bulk := true } .granted .none) atWork)

/-- The three ways of a turn: the clearing yield, an admission with a displaced holder and no yield list, and a candidate
that does not fit with the whole list counted. -/
theorem test_witness_TurnsAdmitWhatFits_clearing :
    clearing.reckoning.ClearsByTheRules 0 5 ∧ clearing.reckoning.candidate 0 = true ∧
    clearing.pass.issued = [.yield 5 false] := ⟨by decide +kernel, by decide +kernel, by decide +kernel⟩

theorem test_witness_TurnsAdmitWhatFits_admitted :
    waiting.reckoning.eligible 2 = true ∧ waiting.reckoning.HolderOfItsTarget 2 [3] ∧
    waiting.reckoning.IsYieldList 2 [3] [] ∧ waiting.reckoning.Passes 2 [3] :=
  ⟨by decide +kernel, by decide +kernel, by decide +kernel, by decide +kernel⟩

/-- The same chamber with a budget of 300 W. -/
def scarce : State := { waiting with tuning := waiting.tuning.set 0 300 }

theorem test_witness_TurnsAdmitWhatFits_refused :
    scarce.reckoning.eligible 2 = true ∧ scarce.reckoning.HolderOfItsTarget 2 [3] ∧
    scarce.reckoning.IsYieldList 2 [3] [] ∧ ¬ scarce.reckoning.Passes 2 [3] ∧ scarce.pass.issued = [] :=
  ⟨by decide +kernel, by decide +kernel, by decide +kernel, by decide +kernel, by decide +kernel⟩

/-- A candidate that is on the fan makes room by the least urgent BULK holders, in the order of R41. -/
theorem test_pass_walks_the_yield_list :
    (let s : State := withEntry 5 (entry { grinder with bulk := true, level := 9 } .granted .none)
       (withEntry 3 (entry { heater with bulk := true } .granted .none) { fanWaits with tuning := fanWaits.tuning.set 0 870 })
     s.pass.issued) = [.yield 5 false, .grant 1 1] := by decide +kernel

theorem test_witness_ArbitrationPassIssuesItsRequests :
    (atWork.reportPass.arbiter.requests = [] ∧ 0 < atWork.reportPass.arbiter.reports) ∧
    (let s : State := { atWork with arbiter := { atWork.arbiter with reportedDuring := true } }
     s.arbiter.requests = [] ∧ s.arbiter.reportedDuring = true) ∧
    (issued [.grant 2 1] atWork).arbiter.requests ≠ [] := by decide +kernel

/-- A grant that applies for the heater, for the grinder and for the latch; one whose claim has been armed again; one
whose chamber is not secured; one whose rotor turns. -/
theorem test_witness_GrantEntersGranted :
    (let s := issued [.grant 3 1] (withEntry 3 (entry heater .pending .none) secured)
     s.arbiter.requests = [.grant 3 1] ∧ (s.claim 3).state = .pending ∧ (s.claim 3).arming = 1 ∧
       (s.claim 3).active.kind = .drive ∧ (s.claim 3).active.target = .heater ∧ s.interlock.secured = true ∧
       s.interlock.haltLatch = false) ∧
    (let s := issued [.grant 5 1] (withEntry 5 (entry grinder .pending .none) secured)
     (s.claim 5).active.target = .grinder ∧ s.interlock.secured = true ∧ s.interlock.haltLatch = false ∧
       s.interlock.latchCommand = .engage ∧
       after (exec .grant s) (fun t => decide (t.rotor.output = .forward ∧ t.rotor.grace = some 0)) = true) ∧
    (secured.sensors.plate.faulted = false ∧ secured.sensors.plate.value < (heater.settingA.toNat : Int) - 3 ∧
      (∀ j, ((withEntry 3 (entry heater .pending .none) secured).claim j).holds .heater = false) ∧
      (heater.settingA.toNat : Int) - 3 ≤ 97 ∧ (97 : Int) < (heater.settingA.toNat : Int)) ∧
    (let s := issued [.grant 1 1] (withEntry 1 (entry latch .pending .none) still)
     (s.claim 1).active.kind = .drive ∧ (s.claim 1).active.target = .latch ∧
       (∀ j, (s.claim j).grantedOn .grinder = false) ∧ s.rotor.atRest = true ∧
       after (exec .grant s) (fun t => decide (t.interlock.latchCommand = .release)) = true) ∧
    (let s := issued [.grant 3 2] (withEntry 3 (entry heater .pending .none) secured)
     s.arbiter.requests = [.grant 3 2] ∧ (s.claim 3).arming ≠ 2) ∧
    (let s := issued [.grant 3 1] (withEntry 3 (entry heater .pending .none) State.reset)
     (s.claim 3).active.kind = .drive ∧ (s.claim 3).active.target = .heater ∧ s.interlock.secured = false) ∧
    (let s := issued [.grant 1 1] (withEntry 1 (entry latch .pending .none) secured)
     (s.claim 1).active.kind = .drive ∧ (s.claim 1).active.target = .latch ∧ s.rotor.atRest = false) := by
  decide +kernel

/-- The latch: a grant with the command ENGAGE, which starts the disagreement timer, and one with it RELEASE already; and
a grant of another claim, and one that is not applied, with no handover under way. -/
theorem test_witness_GrantEntersGranted_latch :
    (let s := issued [.grant 1 1] (withEntry 1 (entry latch .pending .none) still)
     s.interlock.latchCommand = .engage ∧ s.interlock.lidClosed = true ∧ s.interlock.feedbackEngaged = true ∧
       after (exec .grant s) (fun t => decide (t.interlock.disagreement = some s.time)) = true) ∧
    (let s := issued [.grant 2 1] (withEntry 2 (entry latch .pending .none) { still with
       claims := Table.reset.set 1 (entry latch .granted .none)
       interlock := { still.interlock with latchCommand := .release, disagreement := some 0 } })
     (s.claim 2).state = .pending ∧ s.interlock.latchCommand = .release ∧
       after (exec .grant s) (fun t => decide (t.interlock = s.interlock)) = true) ∧
    (let s := issued [.grant 3 1] (withEntry 3 (entry heater .pending .none) secured)
     (s.claim 3).active.target ≠ .latch ∧ s.arbiter.handover = none ∧ s.LatchFollows ∧
       after (exec .grant s) (fun t => decide (t.interlock = s.interlock)) = true) ∧
    (let s := issued [.grant 3 2] (withEntry 3 (entry heater .pending .none) secured)
     s.arbiter.handover = none ∧ s.LatchFollows ∧ (s.claim 3).arming ≠ 2 ∧
       after (exec .grant s) (fun t => decide (t.interlock = s.interlock ∧ t.ports = s.ports)) = true) := by decide +kernel

/-- A secured chamber with the lid released by entry 1 alone, the heater and the grinder HELD. -/
def lidReleased : State :=
  { still with
    claims := ((Table.reset.set 1 (entry latch .granted .none)).set 3 { entry heater .held .none with owner := some 2 }).set 5
      { entry grinder .held .none with owner := some 2 }
    interlock := { still.interlock with latchCommand := .release, disagreement := some 0 } }

/-- In the state after, the command is ENGAGE and the disagreement timer idle, entry 3 heats and entry 5 grinds again. -/
def resumedBoth (t : State) : Bool :=
  decide (t.interlock.latchCommand = .engage ∧ t.interlock.disagreement = none ∧ (t.claim 3).state = .granted ∧
    (t.claim 5).state = .granted ∧ t.drives.heaterOn = true ∧ t.rotor.mode = .driving ∧ t.rotor.grace = some t.time)

/-- The premises of the latch's return to ENGAGE hold, and every event at which entry 1 leaves GRANTED resumes the HELD
claims (R53). -/
theorem test_witness_LatchFollowsLeaving_last :
    (lidReleased.arbiter.handover = none ∧ lidReleased.LatchFollows ∧ (lidReleased.claim 1).grantedOn .latch = true ∧
      (∀ j, j ≠ 1 → (lidReleased.claim j).grantedOn .latch = false) ∧ lidReleased.chamberOk = true) ∧
    after (exec .yield (issued [.yield 1 false] lidReleased)) resumedBoth = true ∧
    after (exec (.portReset 0) (asked 0 [0x3F] lidReleased)) resumedBoth = true ∧
    after (exec (.arm 0) (asked 0 [0x09, 1] lidReleased)) resumedBoth = true ∧
    after (exec (.disarm 0) (asked 0 [0x0A, 1] lidReleased)) resumedBoth = true ∧
    after (exec (.runTimeExpiry 1) (withEntry 1 { entry latch .granted .none with remRun := 0 } lidReleased)) resumedBoth =
      true := by decide +kernel

/-- The other two ways: another LATCH claim stays GRANTED, or none was; and the yield of a displacement leaves the command
RELEASE (R53). -/
theorem test_witness_LatchFollowsLeaving_stands :
    (let s := withEntry 2 (entry latch .granted .none) lidReleased
     s.LatchFollows ∧ (s.claim 2).grantedOn .latch = true ∧
       after (exec (.disarm 0) (asked 0 [0x0A, 1] s))
         (fun t => decide (t.interlock = s.interlock ∧ (t.claim 3).state = .held)) = true) ∧
    (atWork.arbiter.handover = none ∧ atWork.LatchFollows ∧ ∀ j, (atWork.claim j).grantedOn .latch = false) ∧
    after (exec .yield (issued [.yield 1 true, .grant 2 1] lidReleased))
      (fun t => decide (t.interlock = lidReleased.interlock ∧ (t.claim 3).state = .held)) = true := by decide +kernel

theorem test_witness_YieldTakesTheHolder :
    (let s := issued [.yield 3 false] atWork
     s.arbiter.requests = [.yield 3 false] ∧ (s.claim 3).isHolder = true ∧ (s.claim 3).active.singleTry = false) ∧
    (let s := issued [.yield 3 true] (withEntry 3 (entry { heater with singleTry := true } .granted .none) atWork)
     (s.claim 3).isHolder = true ∧ (s.claim 3).active.singleTry = true) ∧
    ((atWork.claim 5).grantedOn .grinder = true ∧ (∀ j, j ≠ 5 → (atWork.claim j).holds .grinder = false) ∧
      atWork.interlock.secured = true ∧ atWork.interlock.haltLatch = false ∧ atWork.arbiter.handover = none ∧
      atWork.LatchFollows ∧ atWork.rotor.mode = .driving) ∧
    (let s := issued [.yield 2 false] atWork
     (s.claim 2).isHolder = false ∧ (s.claim 2).state ≠ .held) := by decide +kernel

theorem test_witness_BudgetWriteIsJudgedBetweenPasses :
    (let s := asked 0 [0x29, 0, 0x03, 0x51]
       { atWork with arbiter := { atWork.arbiter with budgetWrites := [(0, 849)] } }
     s.arbiter.requests = [] ∧ s.arbiter.budgetWrites = [(0, 849)] ∧
       s.Asks 0 0x29 (sixteen [0x29, 0, 0x03, 0x51]) ∧
       849 < Table.grantedSum s.claims + Table.reductions s.claims) ∧
    Table.grantedSum atWork.claims + Table.reductions atWork.claims ≤ 850 := by decide +kernel

/-- At the yield of a displacement the driving goes on, and a jog is abandoned (R89, R97, log 9). -/
theorem test_yield_of_a_displacement :
    after (exec .yield (issued [.yield 5 true, .grant 2 1] atWork))
      (fun t => decide (t.rotor.mode = .driving ∧ t.rotor.output = .forward ∧ t.rotor.grace = none)) = true ∧
    after (exec .yield (issued [.yield 5 true, .grant 2 1] (withRotor
      { drivingRotor with mode := .jogging, jogPhase := .probe, probeCount := 3, attempts := 2 } atWork)))
      (fun t => decide (t.rotor.mode = .idle ∧ t.rotor.output = .off ∧ t.rotor.jogPhase = .none ∧
        t.rotor.probeCount = 0 ∧ t.rotor.attempts = 2)) = true := by decide +kernel

/-! ## The ports -/

/-- MP0 in a transaction that started with the flight IDLE, or not. -/
def inTransaction (idle : Bool) (s : State) : State :=
  s.withPort 0 { s.port 0 with transaction := some ⟨idle, Reply.emptyReply⟩ }

theorem test_witness_TransactionsEnterFlight :
    ((atWork.port 0).transaction = none ∧ (atWork.port 0).flight = none) ∧
    (let s := asked 0 [0x0C, 3] atWork
     (s.port 0).transaction = none ∧ (s.port 0).flight = some (sixteen [0x0C, 3])) ∧
    ((inTransaction false atWork).port 0).transaction = some ⟨false, Reply.emptyReply⟩ ∧
    ((inTransaction true atWork).port 0).transaction = some ⟨true, Reply.emptyReply⟩ ∧
    Reply.emptyReply.data.length = 14 ∧ 16 ≤ (sixteen [0x0C, 3]).length ∧ ((inTransaction true atWork).port 0).cls ≠ .none ∧
    byteAt (sixteen [0x0C, 3]) 0 ∈ requestCodes ∧ byteAt (sixteen [0x03]) 0 ∉ requestCodes ∧
    (let s := (inTransaction true atWork).withPort 0 { (inTransaction true atWork).port 0 with cls := .none }
     (s.port 0).transaction = some ⟨true, Reply.emptyReply⟩ ∧ (s.port 0).cls = .none ∧
       byteAt (sixteen [0x0C, 3]) 0 ≠ 0x00 ∧ byteAt (sixteen [0x00]) 0 = 0x00) := by decide +kernel

theorem test_witness_ReadsChangeNothing_ports :
    (asked 0 [0x00] atWork).Asks 0 0x00 (sixteen [0x00]) ∧
    ((asked 0 [0x01, 0] atWork).Asks 0 0x01 (sixteen [0x01, 0]) ∧ byteAt (sixteen [0x01, 0]) 1 = 0) ∧
    ((asked 0 [0x01, 1] atWork).Asks 0 0x01 (sixteen [0x01, 1]) ∧ byteAt (sixteen [0x01, 1]) 1 = 1) ∧
    ((asked 0 [0x01, 2] atWork).Asks 0 0x01 (sixteen [0x01, 2]) ∧ 1 < (byteAt (sixteen [0x01, 2]) 1).toNat) ∧
    (asked 0 [0x18] atWork).Asks 0 0x18 (sixteen [0x18]) ∧
    ((asked 0 [0x30, 2] atWork).Asks 0 0x30 (sixteen [0x30, 2]) ∧ byteAt (sixteen [0x30, 2]) 1 = BitVec.ofNat 8 2) ∧
    ((asked 0 [0x30, 3] atWork).Asks 0 0x30 (sixteen [0x30, 3]) ∧ 2 < (byteAt (sixteen [0x30, 3]) 1).toNat) := by
  decide +kernel

/-- A summary of seq 9. -/
def summary : Summary :=
  { seq := 9, finished := true, mass := some 200, dose := 6000, grind := 1500, openedAt := 7, curedAt := some 800
    retiredAt := 900, tag := 3, overrun := false }

/-- The state with one summary in the retired queue. -/
def withSummary (s : State) : State := { s with batch := { s.batch with retired := [summary] } }

theorem test_witness_ReadsChangeNothing_records :
    ((asked 0 [0x02, 4] atWork).Asks 0 0x02 (sixteen [0x02, 4]) ∧ (byteAt (sixteen [0x02, 4]) 1).toNat ≤ 4 ∧
      4 < (byteAt (sixteen [0x02, 5]) 1).toNat ∧ (asked 0 [0x02, 5] atWork).Asks 0 0x02 (sixteen [0x02, 5])) ∧
    ((asked 0 [0x0C, 15, 2] atWork).Asks 0 0x0C (sixteen [0x0C, 15, 2]) ∧
      byteAt (sixteen [0x0C, 15, 2]) 1 = BitVec.ofNat 8 (15 : ClaimIdx).val ∧ byteAt (sixteen [0x0C, 15, 2]) 2 = 2 ∧
      byteAt (sixteen [0x0C, 15, 1]) 2 = 1 ∧ byteAt (sixteen [0x0C, 15]) 2 = 0 ∧
      2 < (byteAt (sixteen [0x0C, 15, 3]) 2).toNat ∧ 15 < (byteAt (sixteen [0x0C, 16]) 1).toNat ∧
      (asked 0 [0x0C, 16] atWork).Asks 0 0x0C (sixteen [0x0C, 16])) ∧
    ((asked 0 [0x10, 0, 1, 1] atWork).Asks 0 0x10 (sixteen [0x10, 0, 1, 1]) ∧
      (byteAt (sixteen [0x10, 0, 1, 1]) 3).toNat = 1 ∧ atWork.batch.records[1]? = some (record 2) ∧
      byteAt (sixteen [0x10, 0, 1, 1]) 2 = 1 ∧ byteAt (sixteen [0x10, 0, 0, 1]) 2 = 0) ∧
    ((asked 0 [0x10, 1, 0, 0, 0, 0, 7] atWork).Asks 0 0x10 (sixteen [0x10, 1, 0, 0, 0, 0, 7]) ∧
      byteAt (sixteen [0x10, 1, 0, 0, 0, 0, 7]) 1 = 1 ∧
      ∀ r ∈ atWork.batch.records, r.seq ≠ wordAt (sixteen [0x10, 1, 0, 0, 0, 0, 7]) 3) ∧
    ((asked 0 [0x10, 0, 0, 2] atWork).Asks 0 0x10 (sixteen [0x10, 0, 0, 2]) ∧
      atWork.batch.records.length ≤ (byteAt (sixteen [0x10, 0, 0, 2]) 3).toNat ∧
      7 < (byteAt (sixteen [0x10, 0, 0, 8]) 3).toNat ∧ wordAt (sixteen [0x10, 1, 0, 0, 0, 0, 2]) 3 = (record 2).seq) ∧
    ((asked 0 [0x10, 2] atWork).Asks 0 0x10 (sixteen [0x10, 2]) ∧ 1 < (byteAt (sixteen [0x10, 2]) 1).toNat ∧
      1 < (byteAt (sixteen [0x10, 0, 2]) 2).toNat) ∧
    ((asked 0 [0x13, 2] (withSummary atWork)).Asks 0 0x13 (sixteen [0x13, 2]) ∧
      (withSummary atWork).batch.retired = [summary] ∧ byteAt (sixteen [0x13, 2]) 1 = 2 ∧
      byteAt (sixteen [0x13, 1]) 1 = 1 ∧ byteAt (sixteen [0x13]) 1 = 0 ∧ atWork.batch.retired = [] ∧
      2 < (byteAt (sixteen [0x13, 3]) 1).toNat) := by decide +kernel

/-- What MPn_DOUT gives in a transaction of 147 clocks, the reply and nineteen zeros, and in one of eleven: the status
BUSY and the first three bits of the echo 2C (R147, R150, R151). -/
theorem test_dout_of_long_and_short_transactions :
    after (exec (.transactionTaken 0 ⟨sixteen [] ++ [7, 7], 3⟩) (inTransaction true atWork))
      (fun t => decide ((t.port 0).dout = List.replicate 147 false ∧
        (t.port 0).flight = some (sixteen []))) = true ∧
    after (exec (.busyTransaction ⟨0, 11⟩) (State.withPort atWork 0 { atWork.port 0 with
        transaction := some ⟨false, ⟨.busy, 0x2C, zeroData⟩⟩, flight := some (sixteen [0x2C]) }))
      (fun t => decide ((t.port 0).dout =
        [false, false, false, false, false, false, false, true, false, false, true])) = true := by decide +kernel

theorem test_witness_StatusCarriesItsFields :
    (withSummary atWork).batch.retired.length ≤ 6 ∧ atWork.batch.dryRun ≤ 600 := by decide +kernel

theorem test_witness_RepliesCarryTheirFields :
    (entry heater .granted .none).grantStamp = none ∧ ((entry heater .granted .none).grantedAt 7).grantStamp = some 7 ∧
    drivingRotor.attempts ≤ 3 ∧ drivingRotor.period = none ∧
    ({ drivingRotor with period := some 65535000, ring := [⟨7, .forward, true⟩] } : Rotor).period = some 65535000 ∧
    ({ drivingRotor with ring := [⟨7, .forward, true⟩] } : Rotor).ring[0]? = some ⟨7, .forward, true⟩ ∧
    drivingRotor.ring[7]? = none ∧ (record 1).curedAt = none ∧ summary.curedAt = some 800 ∧
    (record 1).doseOverride = none ∧ ({ record 1 with grindOverride := some 4 } : BatchRecord).grindOverride = some 4 ∧
    (atWork.port 0).topNotice = none := by decide +kernel

theorem test_witness_TuningReadAnswersTheEntry :
    ((asked 2 [0x28, 12] atWork).Asks 2 0x28 (sixteen [0x28, 12]) ∧
      byteAt (sixteen [0x28, 12]) 1 = BitVec.ofNat 8 (12 : Fin 13).val) ∧
    ((asked 2 [0x28, 13] atWork).Asks 2 0x28 (sixteen [0x28, 13]) ∧ 12 < (byteAt (sixteen [0x28, 13]) 1).toNat) := by
  decide +kernel

theorem test_witness_NoticeCommandsAndTheTopNotice_commands :
    (asked 1 [0x19, 0, 0x00, 0x04] atWork).Asks 1 0x19 (sixteen [0x19, 0, 0x00, 0x04]) ∧
    ((asked 1 [0x1A, 15, 14] atWork).Asks 1 0x1A (sixteen [0x1A, 15, 14]) ∧
      byteAt (sixteen [0x1A, 15, 14]) 1 = BitVec.ofNat 8 (15 : Fin 16).val ∧
      byteAt (sixteen [0x1A, 15, 14]) 2 = BitVec.ofNat 8 (14 : Fin 16).val) ∧
    ((asked 1 [0x1A, 16] atWork).Asks 1 0x1A (sixteen [0x1A, 16]) ∧ 15 < (byteAt (sixteen [0x1A, 16]) 1).toNat ∧
      15 < (byteAt (sixteen [0x1A, 2, 16]) 2).toNat) := by decide +kernel

theorem test_witness_NoticeCommandsAndTheTopNotice_top :
    (PortState.reset .control).topNotice = none ∧
    ({ PortState.reset .control with notices := 0x0005 } : PortState).topNotice = some 0 ∧
    ({ PortState.reset .control with notices := 0x0005 } : PortState).isPending 2 = true ∧
    ({ PortState.reset .control with notices := 0x0005 } : PortState).attnWanted = true ∧
    ({ PortState.reset .control with notices := 0x0004 } : PortState).attnWanted = false ∧
    ({ PortState.reset .none with notices := 0x0005 } : PortState).attnWanted = false := by decide +kernel

theorem test_witness_AccessWriteReplacesTheRecord :
    (asked 0 [0x31, 2, 15, 31, 14] atWork).Asks 0 0x31 (sixteen [0x31, 2, 15, 31, 14]) ∧
    ((barred 0 atWork).port 0).access.access = false ∧ (atWork.port 0).access.access = true ∧
    2 < (byteAt (sixteen [0x31, 3]) 1).toNat ∧ 14 < (byteAt (sixteen [0x31, 0, 0, 0, 15]) 4).toNat ∧
    15 < (byteAt (sixteen [0x31, 0, 16]) 2).toNat ∧ 31 < (byteAt (sixteen [0x31, 0, 0, 32]) 3).toNat ∧
    byteAt (sixteen [0x31, 2, 15, 31, 14]) 1 = BitVec.ofNat 8 (2 : Port).val ∧
    (byteAt (sixteen [0x31, 2, 15, 31, 14]) 4).toNat ≤ 14 ∧ (byteAt (sixteen [0x31, 2, 15, 31, 14]) 2).toNat ≤ 15 ∧
    (byteAt (sixteen [0x31, 2, 15, 31, 14]) 3).toNat ≤ 31 := by decide +kernel

theorem test_witness_PortResetFreesAndClears :
    (asked 0 [0x3F] atWork).Asks 0 0x3F (sixteen [0x3F]) ∧ ((asked 0 [0x3F] atWork).claim 3).owner = some 0 := by
  decide +kernel

/-! ## The claim table -/

/-- A DRAFT of index 255: FAN, duty 50 %, 30 W, level 6, ONE_SHOT, 120 seconds, no follow-on. -/
def fanDraft : List Byte := [0x08, 0xFF, 0x02, 50, 0, 0, 0, 30, 0, 0, 0x62, 0, 120, 0, 0, 0xFF]

theorem test_witness_DraftWritesTheStagedCopy :
    (let s := asked 0 fanDraft atWork
     s.Asks 0 0x08 (sixteen fanDraft) ∧ byteAt (sixteen fanDraft) 1 = 255 ∧ (s.claim 0).state = .free ∧
       (∀ j : ClaimIdx, j < 0 → (s.claim j).state ≠ .free) ∧ (draftParams (sixteen fanDraft)).isSome = true) ∧
    (let s := asked 0 (fanDraft.set 1 3) atWork
     byteAt (sixteen (fanDraft.set 1 3)) 1 = BitVec.ofNat 8 (3 : ClaimIdx).val ∧ (s.claim 3).owner = some 0 ∧
       (s.claim 3).state ≠ .free ∧ (draftParams (sixteen (fanDraft.set 1 3))).isSome = true) := by decide +kernel

theorem test_witness_DraftReadsLayoutC : (draftParams fanDraft).isSome = true := by decide +kernel

/-- Sixteen entries of MP1, all in DRAFT. -/
def full : State :=
  { atWork with claims := Table.reset.map fun c => { c with state := .draft, owner := some 1, staged := heater } }

/-- Entry 2 of MP0 in DRAFT, with these staged fields. -/
def drafted (q : Params) : State := withEntry 2 (entry q .draft .none) atWork

theorem test_witness_ClaimRequestsAreRefusedInOrder :
    ((asked 0 [0x08, 16] atWork).Asks 0 0x08 (sixteen [0x08, 16]) ∧ 15 < (byteAt (sixteen [0x08, 16]) 1).toNat ∧
      byteAt (sixteen [0x08, 16]) 1 ≠ 255) ∧
    (byteAt (sixteen fanDraft) 1 = 255 ∧ ∀ j, (full.claim j).state ≠ .free) ∧
    ((full.claim 3).state ≠ .free ∧ (full.claim 3).owner ≠ some 0) ∧
    ((asked 0 [0x08, 0] atWork).Asks 0 0x08 (sixteen [0x08, 0]) ∧ (atWork.claim 0).state = .free ∧
      draftParams (sixteen [0x08, 0]) = none) ∧
    ((asked 0 [0x08, 0xFF] atWork).Asks 0 0x08 (sixteen [0x08, 0xFF]) ∧ byteAt (sixteen [0x08, 0xFF]) 1 = 255 ∧
      draftParams (sixteen [0x08, 0xFF]) = none) ∧
    ((asked 0 [0x0B, 16] atWork).Asks 0 0x0B (sixteen [0x0B, 16]) ∧ 15 < (byteAt (sixteen [0x0B, 16]) 1).toNat) ∧
    ((asked 0 [0x0A, 15] atWork).Asks 0 0x0A (sixteen [0x0A, 15]) ∧
      byteAt (sixteen [0x0A, 15]) 1 = BitVec.ofNat 8 (15 : ClaimIdx).val ∧ (atWork.claim 15).state = .free) ∧
    ((asked 0 [0x09, 2] (drafted heater)).Asks 0 0x09 (sixteen [0x09, 2]) ∧
      byteAt (sixteen [0x09, 2]) 1 = BitVec.ofNat 8 (2 : ClaimIdx).val ∧
      ((drafted heater).claim 2).state ≠ .free ∧ ((drafted heater).claim 2).owner = some 0) ∧
    ((drafted Params.zero).claim 2).staged.consistent = false ∧
    (((drafted heater).claim 2).staged.consistent = true ∧
      ((barred 0 (drafted heater)).port 0).access.permits heater = false) ∧
    (let s := (drafted heater).withPort 0 { (drafted heater).port 0 with access := { Access.ofClass .control with
        floor := 6 } }
     (s.port 0).access.permits heater = true ∧ heater.level.val < (s.port 0).access.floor) ∧
    (let q : Params := { heater with followOn := some 2 }
     ((drafted q).claim 2).staged.consistent = true ∧ ((drafted q).port 0).access.permits q = true ∧
       ((drafted q).port 0).access.floor ≤ q.level.val ∧ q.followOn = some 2 ∧ (2 : ClaimIdx) ≤ 2) ∧
    ((asked 0 [0x0B, 2, 0x3C] (drafted heater)).Asks 0 0x0B (sixteen [0x0B, 2, 0x3C]) ∧
      (byteAt (sixteen [0x0B, 2, 0x3C]) 2).extractLsb' 0 2 = 0 ∧
      (byteAt (sixteen [0x0B, 2, 0x33]) 2).extractLsb' 2 2 = 0 ∧
      (byteAt (sixteen [0x0B, 2, 0x0F]) 2).extractLsb' 4 2 = 0) := by decide +kernel

theorem test_witness_ArmPutsTheClaimInForce :
    (let s := asked 0 [0x09, 3] atWork
     s.Asks 0 0x09 (sixteen [0x09, 3]) ∧ byteAt (sixteen [0x09, 3]) 1 = BitVec.ofNat 8 (3 : ClaimIdx).val ∧
       (s.claim 3).state = .granted ∧ (s.claim 3).owner = some 0 ∧ (s.claim 3).staged.consistent = true ∧
       (s.port 0).access.permits (s.claim 3).staged = true ∧
       (s.port 0).access.floor ≤ (s.claim 3).staged.level.val ∧ (s.claim 3).staged.followOn = none) ∧
    (let q : Params := { heater with followOn := some 15 }
     ((drafted q).claim 2).staged.followOn = some 15 ∧ (2 : ClaimIdx) < 15 ∧ q.consistent = true) := by decide +kernel

theorem test_witness_ConsistencyAndPermissionAreThoseOfTheClaim :
    (curb.kind = .curb) ∧ (heater.kind = .drive ∧ heater.target = .heater) ∧
    (grinder.kind = .drive ∧ grinder.target = .grinder) ∧ (latch.kind = .drive ∧ latch.target = .latch) ∧
    (let q : Params := { heater with target := .fan }
     q.kind = .drive ∧ q.target = .fan) ∧
    (let q : Params := { heater with target := .none }
     q.kind = .drive ∧ q.target = .none) := by decide

theorem test_witness_DisarmEndsOrFrees :
    (let s := asked 0 [0x0A, 3] atWork
     s.Asks 0 0x0A (sixteen [0x0A, 3]) ∧ byteAt (sixteen [0x0A, 3]) 1 = BitVec.ofNat 8 (3 : ClaimIdx).val ∧
       (s.claim 3).owner = some 0 ∧ (s.claim 3).state = .granted) ∧
    (let s := asked 0 [0x0A, 2] (drafted heater)
     s.Asks 0 0x0A (sixteen [0x0A, 2]) ∧ (s.claim 2).owner = some 0 ∧ (s.claim 2).state = .draft) := by decide +kernel

theorem test_witness_AlterChangesTheFlags :
    (let s := asked 0 [0x0B, 3, 0x2E] atWork
     s.Asks 0 0x0B (sixteen [0x0B, 3, 0x2E]) ∧ (s.claim 3).state ≠ .free ∧ (s.claim 3).owner = some 0 ∧
       (byteAt (sixteen [0x0B, 3, 0x2E]) 2).extractLsb' 0 2 ≠ 0 ∧
       (byteAt (sixteen [0x0B, 3, 0x2E]) 2).extractLsb' 2 2 ≠ 0 ∧
       (byteAt (sixteen [0x0B, 3, 0x2E]) 2).extractLsb' 4 2 ≠ 0 ∧ (s.claim 3).inForce = true ∧
       after (exec (.alter 0) s) (fun t => (t.claim 3).active.bulk && !(s.claim 3).active.bulk && t.passDue) = true) ∧
    ((drafted heater).claim 2).inForce = false := by decide +kernel

theorem test_witness_TimersEndClaimsAndArmFollowOns_ends :
    (let c := { entry heater .granted .none with remRun := 0 }
     c.state = .granted ∧ c.remRun = 0 ∧ c.active.followOn = none) ∧
    (let c := { entry { heater with deadline := 5 } .pending .none with remDeadline := 0 }
     c.state = .pending ∧ c.active.deadline ≠ 0 ∧ c.remDeadline = 0) := by decide

/-- Entry 1 of MP0 at its end, with entry 2 as its follow-on. -/
def chained (c : Claim) : State :=
  withEntry 2 c (withEntry 1 { entry { latch with followOn := some 2 } .granted .none with remRun := 0 } still)

theorem test_witness_TimersEndClaimsAndArmFollowOns_chain :
    (let s := chained (entry heater .ended .done)
     (s.claim 1).state = .granted ∧ (s.claim 1).remRun = 0 ∧ (s.claim 1).active.followOn = some 2 ∧
       (s.claim 1).owner = some 0 ∧ (s.claim 2).owner = some 0 ∧ (s.claim 2).state = .ended ∧
       (s.claim 2).staged.consistent = true ∧ (s.port 0).access.permits (s.claim 2).staged = true ∧
       (s.port 0).access.floor ≤ (s.claim 2).staged.level.val ∧ (s.claim 2).staged.followOn = none) ∧
    ((chained (entry heater .pending .none)).claim 2).inForce = true ∧
    ((chained { entry heater .draft .none with owner := some 1 }).claim 2).owner ≠ some 0 ∧
    ((chained (entry Params.zero .draft .none)).claim 2).staged.consistent = false := by decide +kernel

theorem test_witness_ClockAndLoadCellEvents :
    (atWork.claim 3).state = .granted ∧
    (let c := entry { heater with deadline := 5 } .pending .none
     c.state = .pending ∧ c.active.deadline ≠ 0) ∧
    (let c := entry heater .pending .none
     c.state = .pending ∧ c.active.deadline = 0) ∧
    ((atWork.claim 0).state ≠ .granted ∧ (atWork.claim 0).state ≠ .pending) ∧
    ((0 : Int) ≤ 20000 ∧ (20000 : Int) ≤ 20000 ∧ (-1 : Int) < 0 ∧ (20000 : Int) < 20001) := by decide +kernel

theorem test_witness_LastTouchedFollowsTheChanges :
    (let s := asked 0 [0x3F] atWork
     after (exec (.portReset 0) s) (fun t => decide ((t.claim 5).state ≠ (s.claim 5).state ∧
       (∀ j, 5 < j → (t.claim j).state = (s.claim j).state) ∧ t.link.touched = some (.claim 5))) = true) ∧
    (let s : State := { atWork with tuning := (atWork.tuning.set 3 10).set 4 4, rotor := { drivingRotor with handed := 1 } }
     after (exec .grindCredit s) (fun t => decide (
       (t.batch.records[1]?.map (·.state)) = some .cured ∧ (s.batch.records[1]?.map (·.state)) = some .treating ∧
       t.link.touched = some (.batch 1 2))) = true) ∧
    after (exec .rotorPulse atWork) (fun t => decide ((∀ i, (t.claim i).state = (atWork.claim i).state) ∧
      t.batch.records = atWork.batch.records ∧ t.link.touched = none)) = true := by decide +kernel

/-! ## The interlock and trip unit -/

theorem test_witness_SecuredLostHoldsTheHolders :
    atWork.interlock.secured = true ∧ atWork.interlock.lidClosed = true ∧ atWork.interlock.binIn = true ∧
    atWork.interlock.feedbackEngaged = true ∧ atWork.interlock.latchCommand = .engage ∧
    atWork.interlock.active.has .lidForced = false ∧
    (let s : State := { secured with
      claims := Table.reset.set 1 (entry latch .granted .none)
      interlock := { secured.interlock with latchCommand := .release } }
     s.interlock.secured = true ∧ s.interlock.latchCommand = .release ∧ s.LatchFollows) ∧ atWork.LatchFollows := by
  decide +kernel

/-- The chamber at work, its bin pulled out: both holders HELD. -/
def heldOpen : State :=
  { atWork with
    claims := (Table.reset.set 3 (entry heater .held .none)).set 5 (entry grinder .held .none)
    interlock := { atWork.interlock with binIn := false, secured := false } }

theorem test_witness_SecuredGainedResumesTheHeld :
    heldOpen.interlock.secured = false ∧ heldOpen.interlock.binIn = false ∧ heldOpen.interlock.lidClosed = true ∧
    heldOpen.interlock.feedbackEngaged = true ∧ heldOpen.interlock.haltLatch = false ∧
    heldOpen.interlock.latchCommand = .engage ∧ (heldOpen.claim 3).state = .held ∧
    heldOpen.LatchFollows ∧ heldOpen.ClaimsLawful ∧
    after (exec (.binSwitchChange true) heldOpen)
      (fun t => decide ((t.claim 3).state = .granted ∧ (t.claim 5).state = .granted ∧ t.drives.heaterOn = true ∧
        t.rotor.mode = .driving)) = true ∧
    ((∀ j, j ≠ 3 → (heldOpen.claim j).holds .heater = false) ∧ (∀ j, j ≠ 5 → (heldOpen.claim j).holds .grinder = false) ∧
      heldOpen.sensors.plate.faulted = false ∧
      heldOpen.sensors.plate.value < ((heldOpen.claim 3).active.settingA.toNat : Int) - 3) ∧
    (let u := { heldOpen.interlock with lidClosed := false, binIn := true }
     u.secured = false ∧ u.lidClosed = false ∧ u.binIn = true ∧ u.feedbackEngaged = true) ∧
    (let u := { heldOpen.interlock with feedbackEngaged := false, binIn := true, haltLatch := true }
     u.secured = false ∧ u.feedbackEngaged = false ∧ u.lidClosed = true ∧ u.binIn = true ∧ u.haltLatch = true) := by
  decide +kernel

/-- A chamber not secured, its latch command RELEASE: the heater stays HELD at the secured gained, and at HALT_CLEAR. -/
def releasedHeld : State :=
  { heldOpen with
    claims := heldOpen.claims.set 1 (entry latch .granted .none)
    interlock := { heldOpen.interlock with latchCommand := .release } }

theorem test_witness_held_with_the_command_release :
    releasedHeld.LatchFollows ∧ releasedHeld.interlock.latchCommand = .release ∧ releasedHeld.interlock.secured = false ∧
    after (exec (.binSwitchChange true) releasedHeld)
      (fun t => decide (t.interlock.secured = true ∧ t.claims = releasedHeld.claims)) = true := by decide +kernel

theorem test_witness_SwitchesOfAnUnsecuredChamber :
    (heldOpen.interlock.secured = false ∧ heldOpen.LatchFollows ∧ heldOpen.interlock.lidClosed ≠ false ∧
      heldOpen.interlock.latchCommand = .engage ∧ heldOpen.interlock.active.has .lidForced = false ∧
      after (exec (.lidSwitchChange false) heldOpen)
        (fun t => decide (t.interlock.firstCause = some .lidForced ∧ t.interlock.disagreement = none)) = true) ∧
    (let s : State := { releasedHeld with interlock := { releasedHeld.interlock with lidClosed := false, binIn := true } }
     s.interlock.secured = false ∧ s.LatchFollows ∧ s.interlock.binIn ≠ false ∧ s.interlock.lidClosed ≠ true ∧
       after (exec (.binSwitchChange false) s) (fun t => decide (t.interlock.haltLatch = false ∧
         t.batch.binEvents = [.removed] ∧ t.batch.securedEvents = [])) = true) ∧
    (let s : State := { heldOpen with interlock := { heldOpen.interlock with lidClosed := false } }
     s.interlock.lidClosed ≠ true ∧ s.interlock.binIn = false ∧ s.interlock.binIn ≠ true ∧
       after (exec (.binSwitchChange true) s) (fun t => decide (t.interlock.secured = false ∧
         t.batch.binEvents = [.inserted])) = true) := by decide +kernel

theorem test_witness_CutoutAndLatchFaultTrip :
    (atWork.interlock.cutoutClosed = true ∧ atWork.interlock.active.has .cutout = false) ∧
    ({ atWork.interlock with cutoutClosed := false } : Interlock).cutoutClosed = false ∧
    (let s : State := { atWork with
      interlock := { atWork.interlock with feedbackEngaged := false, secured := false, disagreement := some 4000000 } }
     s.interlock.disagreement = some 4000000 ∧ 4000000 + 1000000 ≤ s.time ∧ s.LatchFollows ∧
       s.interlock.active.has .latchFault = false) ∧
    (({ atWork.interlock with active := 0x10 } : Interlock).active.has .latchFault = true) ∧
    (heldOpen.interlock.binIn = false ∧ heldOpen.interlock.secured = false ∧ heldOpen.LatchFollows ∧
      heldOpen.interlock.feedbackEngaged ≠ false ∧ heldOpen.interlock.lidClosed = true ∧
      after (exec (.latchFeedbackChange false) heldOpen)
        (fun t => decide (t.interlock.disagreement = some 5000000)) = true) := by decide +kernel

/-- The chamber halted by a jam: the heater HELD, no cause active. -/
def halted : State :=
  { atWork with
    claims := Table.reset.set 3 (entry heater .held .none), drives := ⟨false, 0⟩, rotor := Rotor.reset
    interlock := { atWork.interlock with causes := 0x20, firstCause := some .jam, haltLatch := true } }

theorem test_witness_HaltClearEmptiesTheSet :
    (asked 0 [0x20] halted).Asks 0 0x20 (sixteen [0x20]) ∧ (halted.port 0).access.haltClear = true ∧
    ((barred 0 halted).port 0).access.haltClear = false ∧ atWork.interlock.haltLatch = false ∧
    (halted.interlock.haltLatch = true ∧ halted.interlock.causes &&& halted.interlock.active = 0 ∧
      halted.interlock.secured = true ∧ halted.interlock.latchCommand = .engage ∧ (halted.claim 3).state = .held ∧
      ∀ j, j ≠ 3 → (halted.claim j).holds .heater = false) ∧
    (let s := asked 0 [0x20] (withEntry 5 (entry grinder .held .none) halted)
     (s.claim 5).state = .held ∧ (∀ j, j ≠ 5 → (s.claim j).holds .grinder = false) ∧
       after (exec (.haltClear 0) s) resumedBoth = true) ∧
    (let s : State := { halted with
      claims := halted.claims.set 1 (entry latch .granted .none)
      interlock := { halted.interlock with latchCommand := .release } }
     s.interlock.latchCommand = .release ∧ s.LatchFollows ∧ s.interlock.haltLatch = true) ∧
    (let u := { halted.interlock with causes := 0x21, active := 0x01 }
     u.haltLatch = true ∧ u.causes &&& u.active ≠ 0) := by decide +kernel

/-- At the ends of the converter's span, at the limits of the tuning table, and between them. -/
theorem test_witness_ThermistorReportIsJudged :
    ((-40 : Int) ≤ -40 ∧ (300 : Int) ≤ 300) ∧ ((atWork.tuning.get 8 : Int) < 191 ∧ (191 : Int) ≤ 250) ∧
    ((190 : Int) ≤ (atWork.tuning.get 8 : Int) ∧ (120 : Int) ≤ (atWork.tuning.get 9 : Int)) ∧
    ((175 : Int) ≤ (atWork.tuning.get 8 : Int) - 15 ∧ (110 : Int) ≤ (atWork.tuning.get 9 : Int) - 10) ∧
    ¬ ((176 : Int) ≤ (atWork.tuning.get 8 : Int) - 15 ∧ (110 : Int) ≤ (atWork.tuning.get 9 : Int) - 10) ∧
    atWork.interlock.active.has .thermalSensor = false ∧ atWork.interlock.active.has .overheat = false ∧
    ((2 : CauseSet) ||| 5).has .thermalSensor = true ∧ (5 : CauseSet).has .overheat = true ∧
    after (exec (.thermistorReport 300 20) atWork) (fun t => t.sensors.plate.faulted && t.interlock.haltLatch) = true ∧
    after (exec (.thermistorReport 20 20) { atWork with sensors := { atWork.sensors with plateBelowOpen := false } })
      (fun t => t.sensors.plateBelowOpen && t.passDue) = true := by decide +kernel

/-- Entry 4 of MP0 drives the fan at 60 %. -/
def fanned : State :=
  withEntry 4 (entry { heater with target := .fan, settingA := 60, demand := 40 } .granted .none)
    { atWork with drives := ⟨true, 60⟩ }

/-- The same chamber halted on a hot plate, the lid released: the forced vent. -/
def vented : State :=
  { fanned with
    claims := (((Table.reset.set 1 (entry latch .granted .none)).set 3 (entry heater .held .none)).set 4 (fanned.claim 4))
    interlock := { fanned.interlock with haltLatch := true, causes := 2, firstCause := some .cutout, latchCommand := .release }
    sensors := { fanned.sensors with plateBelowOpen := false }, drives := ⟨false, 100⟩, rotor := Rotor.reset }

theorem test_witness_HeaterAndFanFollowTheirHolders_fan :
    fanned.ChamberLawful ∧ fanned.arbiter.handover = none ∧ fanned.interlock.haltLatch = false ∧
    fanned.interlock.latchCommand = .engage ∧ (fanned.claim 4).grantedOn .fan = true ∧
    ∀ i, (fanned.claim i).grantedOn .fan = true → 60 = (fanned.claim i).active.settingA.toNat :=
  ⟨by decide +kernel, by decide +kernel, by decide +kernel, by decide +kernel, by decide +kernel, by decide +kernel⟩

theorem test_witness_HeaterAndFanFollowTheirHolders_no_fan :
    atWork.ChamberLawful ∧ ∀ i, (atWork.claim i).grantedOn .fan = false := ⟨by decide +kernel, by decide +kernel⟩

theorem test_witness_HeaterAndFanFollowTheirHolders_vents :
    vented.ChamberLawful ∧ vented.interlock.haltLatch = true ∧ vented.sensors.plateBelowOpen = false ∧
    ({ vented with sensors := { vented.sensors with plateBelowOpen := true }, drives := ⟨false, 60⟩ } : State).ChamberLawful ∧
    vented.interlock.latchCommand = .release :=
  ⟨by decide +kernel, by decide +kernel, by decide +kernel, by decide +kernel, by decide +kernel⟩

theorem test_witness_HeaterAndFanFollowTheirHolders :
    (atWork.claim 3).grantedOn .heater = true ∧ (∀ j, (atWork.claim j).grantedOn .heater = true → j = 3) ∧
    atWork.interlock.secured = true ∧ atWork.interlock.haltLatch = false ∧ atWork.interlock.latchCommand = .engage ∧
    ((96 : Int) < ((atWork.claim 3).active.settingA.toNat : Int) - 3 ∧
      ((atWork.claim 3).active.settingA.toNat : Int) ≤ 100 ∧
      ((atWork.claim 3).active.settingA.toNat : Int) - 3 ≤ 97 ∧
      (97 : Int) < ((atWork.claim 3).active.settingA.toNat : Int)) ∧
    after (exec (.thermistorReport 96 60) atWork) (fun t => t.drives.heaterOn) = true ∧
    after (exec (.thermistorReport 100 60) atWork) (fun t => !t.drives.heaterOn) = true := by decide +kernel

/-! ## The rotor monitor -/

/-- The chamber at work with a period of 300 milliseconds, the last pulse accepted so many microseconds ago. -/
def turning (ago : Nat) : State :=
  withRotor
    { drivingRotor with
      period := some 300000, lastAccepted := some (5000000 - 200 - ago), grace := none, quarterCount := 3
      aboveCount := 9 } atWork

/-- The probe of a jog under way since 3 seconds. -/
def probing (count attempts : Nat) : State :=
  withRotor
    { drivingRotor with
      mode := .jogging, jogPhase := .probe, phaseStart := 3000000, probeCount := count, attempts := attempts
      grace := some 3500000 } atWork

theorem test_witness_PulsesAreJudged :
    ((turning 149999).rotor.ring.length ≤ 8 ∧ (turning 149999).rotor.isEarly (turning 149999).pulseEdge = true ∧
      (turning 149999).rotor.earlyCount < 3) ∧
    (turning 150000).rotor.isEarly (turning 150000).pulseEdge = false ∧
    ((turning 150000).rotor.Counts ∧ (turning 150000).rotor.quarterCount = 3 ∧ atWork.rotor.quarterCount ≠ 3) ∧
    (atWork.rotor.period = none ∧ atWork.rotor.grace ≠ none) ∧
    (secured.rotor.period = none ∧ secured.rotor.grace = none ∧ ¬ secured.rotor.Counts) ∧
    (let s := turning 500001
     s.rotor.mode = .driving ∧ s.rotor.laboured = false ∧ s.rotor.aboveCount = 9 ∧
       s.tuning.get 12 * 1000 < s.pulseInterval (5000000 - 200 - 500001) ∧
       after (exec .rotorPulse s) (fun t => t.rotor.laboured) = true) ∧
    ((probing 7 0).rotor.mode = .jogging ∧ (probing 7 0).rotor.jogPhase = .probe ∧ (probing 7 0).rotor.probeCount = 7 ∧
      (probing 7 0).rotor.offPhaseDue = false ∧ (probing 6 0).rotor.probeCount ≠ 7 ∧
      after (exec .rotorPulse (probing 7 0)) (fun t => decide (t.rotor.mode = .driving)) = true) := by decide +kernel

theorem test_witness_PulseIsEarly : (turning 149999).PulseIsEarly :=
  ⟨300000, 4849801, by decide +kernel⟩

theorem test_witness_PulseIsAccepted : (turning 150000).PulseIsAccepted := by
  intro period h
  cases h
  exact ⟨4849800, by decide +kernel⟩

theorem test_witness_RotorReportsTrip :
    (let s := withRotor { (turning 100000).rotor with earlyCount := 3 } atWork
     s.rotor.ring.length ≤ 8 ∧ s.rotor.isEarly s.pulseEdge = true ∧ s.rotor.earlyCount = 3 ∧
       after (exec .rotorPulse s) (fun t => decide (t.interlock.firstCause = some .rotorSensor)) = true) ∧
    ((probing 3 2).rotor.mode = .jogging ∧ (probing 3 2).rotor.jogPhase = .probe ∧
      (probing 3 2).rotor.phaseStart + 2000000 ≤ (probing 3 2).time ∧
      (probing 3 2).rotor.grace = some 3500000 ∧ 3500000 + 1500000 ≤ (probing 3 2).time ∧
      (probing 3 2).rotor.attempts = 2 ∧ (probing 3 2).HoldsTheGrinder 5 ∧
      after (exec .probeWindowEnd (probing 3 2))
        (fun t => decide ((t.claim 5).outcome = .jammed ∧ (t.claim 3).state = .held)) = true) := by decide +kernel

theorem test_witness_FailsTheProbe : (probing 3 2).FailsTheProbe .probeWindowEnd :=
  ⟨by decide +kernel, by decide +kernel, .inr ⟨rfl, by decide +kernel⟩⟩

/-- A deadline beyond what the microsecond counter can show: a period of 2147483648 microseconds (R91). -/
theorem test_long_stall_deadline :
    (let s : State := withRotor { (turning 0).rotor with period := some 2147483648, lastAccepted := some 0 }
       { atWork with time := 4294967295 }
     after (exec .stallDeadlinePassed s) (fun t => decide (t.rotor.mode = .driving)) &&
       after (exec .stallDeadlinePassed { s with time := 4294967296 }) (fun t => decide (t.rotor.mode = .jogging))) = true := by
  decide +kernel

theorem test_witness_GrinderStays : atWork.GrinderStays := by
  intro h hh
  cases hh

theorem test_witness_StallsStartJogs : atWork.StallsTheDrive .startGraceRunsOut ∧ (probing 3 1).rotor.attempts + 1 < 3 ∧
    atWork.HoldsTheGrinder 5 :=
  ⟨⟨by decide +kernel, test_witness_GrinderStays, .inl ⟨rfl, 0, by decide +kernel⟩⟩, by decide +kernel, by decide +kernel⟩

theorem test_witness_StallDeadline : (turning 600000).StallsTheDrive .stallDeadlinePassed :=
  ⟨by decide +kernel, test_witness_GrinderStays, .inr ⟨rfl, 300000, 4399800, by decide +kernel⟩⟩

theorem test_witness_RotorTimersRunOut :
    (let s := withRotor { Rotor.reset with restTimer := some 4000000 } atWork
     s.rotor.restTimer = some 4000000 ∧ 4000000 + 1000000 ≤ s.time) ∧
    (let r := { (probing 0 0).rotor with jogPhase := .firstStop, output := .off, phaseStart := 4500000 }
     r.mode = .jogging ∧ r.phaseStart + 500000 ≤ atWork.time ∧ r.setting.direction ≠ .off) ∧
    (let r := { (probing 0 0).rotor with jogPhase := .reverse, output := .reverse, phaseStart := 4000000 }
     r.mode = .jogging ∧ r.phaseStart + 1000000 ≤ atWork.time ∧ r.output ≠ .off) ∧
    (let r := { drivingRotor with pattern := .on 3000000, setting := ⟨.forward, true, 2, 3⟩ }
     r.pattern = .on 3000000 ∧ 3000000 + r.setting.onTime * 1000000 ≤ atWork.time ∧ r.mode = .driving ∧
       r.output ≠ .off) ∧
    (let r := { drivingRotor with
      mode := .offPhase, output := .off, pattern := .off 2000000, setting := ⟨.forward, true, 2, 3⟩ }
     r.pattern = .off 2000000 ∧ 2000000 + r.setting.offTime * 1000000 ≤ atWork.time ∧ r.mode = .offPhase ∧
       r.output = .off ∧ r.setting.direction ≠ .off) ∧
    (let s : State := { atWork with time := 30000000 }
     s.rotor.cleanRun = some 0 ∧ 0 + 30000000 ≤ s.time) := by decide +kernel

/-! ## The batch unit -/

theorem test_witness_DoseAndGrindReachEveryRecord :
    (let s : State := { atWork with
      sensors := { atWork.sensors with samplesDue := 1, air := ⟨70, false⟩ }
      batch := { atWork.batch with dryRun := 49 } }
     0 < s.sensors.samplesDue ∧ s.interlock.secured = true ∧ s.sensors.air.faulted = false ∧
       (s.tuning.get 2 : Int) ≤ s.sensors.air.value ∧ 20 ≤ s.tuning.get 5 ∧ s.batch.mix = .wet ∧
       after (exec (.doseSample (.result 20)) s)
         (fun t => decide (t.batch.dryRun = 50 ∧ t.batch.mix = .dry)) = true ∧
       after (exec (.doseSample .failed) s) (fun t => decide (t.batch.dryRun = 0 ∧ t.batch.mix = .wet)) = true) ∧
    (atWork.sensors.air.value < (atWork.tuning.get 2 : Int) ∧ atWork.tuning.get 5 < 21) ∧
    0 < (withRotor { drivingRotor with handed := 1 } atWork).rotor.handed := by decide +kernel

/-- The chamber at work with these events handed to the batch unit. -/
def told (sec : List SecuredEvent) (bin : List BinEvent) (settle : Settle) (tare : Option Nat) : State :=
  { atWork with
    batch := { atWork.batch with securedEvents := sec, binEvents := bin, settle := settle, tareSettle := tare } }

theorem test_witness_MassSamplesAndSettles :
    ((told [.lost] [] .idle none).batch.securedEvents = [.lost] ∧ (told [.lost] [] .idle none).batch.settle = .idle ∧
      (told [.lost] [] .cut none).batch.settle ≠ .idle) ∧
    (told [.gained] [] .idle none).batch.securedEvents = [.gained] ∧
    ((told [] [] (.running 3000000) none).batch.settle = .running 3000000 ∧ 3000000 + 2000000 ≤ atWork.time ∧
      heldOpen.interlock.secured = false) ∧
    (told [] [.inserted] .idle none).batch.binEvents = [.inserted] ∧
    ((told [] [] .idle (some 4000000)).batch.tareSettle = some 4000000 ∧ 4000000 + 1000000 ≤ atWork.time ∧
      atWork.interlock.binIn = true ∧ heldOpen.interlock.binIn = false) := by decide +kernel

/-- A settle over 2 seconds old in a secured chamber, with this mass before and this mass after. -/
def closing (before : Option MassSample) (grams : Nat) (fault : Bool) (records : List BatchRecord) (next : Word) : State :=
  { told [] [] (.running 3000000) none with
    sensors := { atWork.sensors with mass := grams, loadFault := fault }
    batch := { (told [] [] (.running 3000000) none).batch with
      massBefore := before, records := records, nextSeq := next } }

theorem test_witness_ClosuresAreJudged :
    (closing none 0 false [] 1).ClosureIsJudged ∧
    ((closing (some ⟨100, false⟩) 129 false [record 1] 2).closureDelta < (atWork.tuning.get 7 : Int)) ∧
    ((atWork.tuning.get 7 : Int) ≤ (closing (some ⟨100, false⟩) 130 false [record 1] 2).closureDelta ∧
      (closing (some ⟨100, false⟩) 130 false [record 1] 2).batch.records.length < 8 ∧
      (closing (some ⟨100, false⟩) 130 false [record 1] 2).batch.nextSeq ≠ 0) ∧
    ((closing (some ⟨100, false⟩) 500 false [record 1] 0).batch.records = [] ++ [record 1] ∧
      (closing (some ⟨100, false⟩) 500 false [record 1] 0).batch.nextSeq = 0) ∧
    ((closing none 500 true [] 1).ClosureUnmeasured ∧ (closing none 500 true [record 1] 1).ClosureUnmeasured) ∧
    (let s : State := { closing none 500 true [] 1 with tuning := (atWork.tuning.set 3 0).set 4 0 }
     (s.credited (s.opened none) 0 0).state = .cured ∧ s.cureState (record 1) 0 0 = .cured) := by
  refine ⟨⟨⟨3000000, ?_⟩, ?_⟩, ?_, ?_, ?_, ⟨?_, ?_⟩, ?_⟩
  · decide +kernel
  · decide +kernel
  · decide +kernel
  · decide +kernel
  · decide +kernel
  · exact .inl rfl
  · exact .inl rfl
  · decide +kernel

theorem test_witness_ClosureIsMeasured : ¬ (closing (some ⟨100, false⟩) 130 false [record 1] 2).ClosureUnmeasured := by
  rintro (h | ⟨b, h, hb⟩)
  · cases h
  · cases h
    cases hb

/-- The bin removed with two records in it. -/
def removed : State := told [] [.removed] .idle none

theorem test_witness_RetirementEmptiesTheTable :
    removed.batch.binEvents = [.removed] ∧ removed.batch.records ≠ [] ∧ removed.batch.retired.length ≤ 6 ∧
    (let s : State := { removed with batch := { removed.batch with records := [], mix := .empty } }
     s.batch.binEvents = [.removed] ∧ s.batch.records = []) ∧
    after (exec .retirement removed)
      (fun t => decide (t.batch.retired.map (·.seq) = [1, 2] ∧ t.batch.records = [])) = true := by decide +kernel

theorem test_witness_RetiredTakeRemovesTheOldest :
    (asked 0 [0x14, 0, 0, 0, 0, 9] (withSummary atWork)).Asks 0 0x14 (sixteen [0x14, 0, 0, 0, 0, 9]) ∧
    wordAt (sixteen [0x14, 0, 0, 0, 0, 9]) 2 = summary.seq ∧ wordAt (sixteen [0x14]) 2 = 0 ∧
    (wordAt (sixteen [0x14, 0, 0, 0, 0, 8]) 2 ≠ 0 ∧ wordAt (sixteen [0x14, 0, 0, 0, 0, 8]) 2 ≠ summary.seq) ∧
    (atWork.port 0).access.annotate = true ∧ ((barred 0 atWork).port 0).access.annotate = false ∧
    atWork.batch.retired = [] ∧ (withSummary atWork).batch.retired = [summary] := by decide +kernel

/-- MP0 and MP1 hold reservations on seq 2. -/
def reserved : State :=
  { atWork with batch := { atWork.batch with reservations := #v[.intact 2, .intact 2, .broken 1] } }

/-- A commit on seq 2: the tag set to 3, the dose override set to 40, the grind override absent. -/
def commit2 : List Byte := [0x12, 0, 0, 0, 0, 2, 0x25, 0, 3, 0, 40, 0, 0]

theorem test_witness_ReservationsAndCommits :
    ((asked 0 [0x11, 1, 0, 0, 0, 0, 2] atWork).Asks 0 0x11 (sixteen [0x11, 1, 0, 0, 0, 0, 2]) ∧
      byteAt (sixteen [0x11, 1, 0, 0, 0, 0, 2]) 1 = 1 ∧ byteAt (sixteen [0x11]) 1 ≠ 1 ∧
      ∀ r ∈ atWork.batch.records, r.seq ≠ wordAt (sixteen [0x11, 1, 0, 0, 0, 0, 9]) 3) ∧
    ((asked 0 commit2 reserved).Asks 0 0x12 (sixteen commit2) ∧ CommitCodesFit (sixteen commit2) ∧
      ¬ CommitCodesFit (sixteen (commit2.set 6 0x0C)) ∧ ¬ CommitCodesFit (sixteen (commit2.set 6 0x02)) ∧
      reserved.batch.reservations.get 0 = .intact (wordAt (sixteen commit2) 2) ∧
      reserved.batch.reservations.get 2 ≠ .intact (wordAt (sixteen commit2) 2) ∧
      reserved.batch.reservations.get 2 ≠ .broken (wordAt (sixteen commit2) 2) ∧
      reserved.batch.reservations.get 2 = .broken (wordAt (sixteen (commit2.set 5 1)) 2)) := by decide +kernel

theorem test_witness_Carries : atWork.batch.Carries 1 (record 2) 2 := by
  refine ⟨rfl, rfl, ?_⟩
  intro j x hj hx
  have : j = 0 := by omega
  subst this
  cases hx
  decide

/-! ## The tuning table -/

theorem test_witness_TuningWriteTakesEffect :
    (asked 0 [0x29, 12, 0x07, 0xD0] atWork).Asks 0 0x29 (sixteen [0x29, 12, 0x07, 0xD0]) ∧
    (∀ w ∈ atWork.arbiter.budgetWrites, w.1 ≠ 0) ∧ ((barred 0 atWork).port 0).access.tuning = false ∧
    (atWork.port 0).access.tuning = true ∧ 12 < (byteAt (sixteen [0x29, 13]) 1).toNat ∧
    byteAt (sixteen [0x29, 12, 0x07, 0xD0]) 1 = BitVec.ofNat 8 (12 : Fin 13).val ∧
    (halfAt (sixteen [0x29, 12, 0x07, 0xD0]) 2).toNat = (Config.tuningRows.get 12).highest ∧
    (Config.tuningRows.get 12).highest < (halfAt (sixteen [0x29, 12, 0x07, 0xD1]) 2).toNat ∧
    (halfAt (sixteen [0x29, 0, 0x01, 0x2B]) 2).toNat < (Config.tuningRows.get 0).lowest := by decide +kernel

/-! ## The service link -/

theorem test_witness_ServiceFramesAnswer :
    atWork.link.phase = .none ∧ atWork.TakesFrame (frameBits 0x0FFFFFFF) 0x0FFFFFFF 28 ∧
    atWork.TakesFrame (frameBits 0xFFFFFFFF) 0xFFFFFFFF 32 ∧ 5 < ((0xFFFFFFFF : Word).extractLsb' 28 4).toNat ∧
    atWork.TakesFrame (frameBits 0x30000000) 0x30000000 0 ∧ atWork.TakesFrame (frameBits 0x40000000) 0x40000000 0 ∧
    atWork.TakesFrame (frameBits 0x50000000) 0x50000000 0 ∧
    (onesAfter atWork.link.onesRun [true, true] = some 2 ∧ atWork.link.sampled.length + 2 < 32) ∧
    (let f := commandFrame 1 (addressBits 2 1 0 0)
     atWork.TakesFrame ((frameBits f).drop atWork.link.sampled.length) f 0 ∧ f.extractLsb' 28 4 ≠ 0) ∧
    (let f := commandFrame 2 (addressBits 0 12 0 0)
     let s : State := { atWork with link := { atWork.link with sampled := (frameBits f).take 31 } }
     s.TakesFrame ((frameBits f).drop s.link.sampled.length) f 0) ∧
    atWork.link.touched = none ∧
    (let l := { atWork.link with snapshot := some ⟨2, 1, [1, 2]⟩, touched := some (.batch 1 2) }
     l.snapshot = some ⟨2, 1, [1, 2]⟩ ∧ l.touched = some (.batch 1 (record 2).seq) ∧
       atWork.batch.records[1]? = some (record 2)) ∧
    (let l := { atWork.link with touched := some (.batch 1 7) }
     l.touched = some (.batch 1 7) ∧ (record 2).seq ≠ 7) ∧
    ({ atWork.link with touched := some (.claim 5) } : Link).touched = some (.claim 5) ∧
    (let l := { atWork.link with onesRun := 32 }
     l.sampled.length + (64 - l.onesRun) ≤ 32) := by decide +kernel

/-- A CALL frame in two rows: the first 31 bits wait, and the last takes it; a frame of another kind changes nothing. -/
theorem test_frame_split_over_two_rows :
    after (exec (.call ((frameBits 0x50000000).take 31)) atWork) (fun t => decide (
      t.link.bitCount = 31 ∧ t.ports = atWork.ports) &&
      after (exec (.call [false]) t) (fun u => decide ((u.port 1).notices = 0x8000 ∧ u.link.bitCount = 0)) &&
      after (exec (.watch [false]) t) (fun u => decide (u = t))) = true := by decide +kernel

/-- The chamber at work with a POKE in phase DATA. -/
def poking (table entry w : Nat) (seq : Option Word) : State :=
  { atWork with link := { atWork.link with phase := .data table entry w seq } }

theorem test_witness_PokeWritesThroughTheOwner :
    ((poking 0 5 0 none).TakesFrame (frameBits 60) 60 0 ∧ (poking 0 5 0 none).link.phase = .data 0 5 0 none ∧
      (Config.tuningRows.get 5).lowest ≤ (60 : Word).toNat ∧ (60 : Word).toNat ≤ (Config.tuningRows.get 5).highest ∧
      (Config.tuningRows.get 5).highest < (61 : Word).toNat) ∧
    ((poking 0 0 0 none).TakesFrame (frameBits 850) 850 0 ∧ (poking 0 0 0 none).arbiter.requests = [] ∧
      (poking 0 0 0 none).arbiter.budgetWrites = [] ∧
      Table.grantedSum atWork.claims + Table.reductions atWork.claims ≤ (850 : Word).toNat ∧
      (849 : Word).toNat < Table.grantedSum atWork.claims + Table.reductions atWork.claims ∧
      (Config.tuningRows.get 0).lowest ≤ (849 : Word).toNat) ∧
    ((poking 2 1 3 (some 2)).TakesFrame (frameBits 0x80000000) 0x80000000 0 ∧ (record 2).poked 3 0x80000000 = some (record 2) ∧
      atWork.batch.records[1]? = some (record 2)) ∧
    ((record 2).poked 2 0x80000000 = none ∧ (record 2).poked 5 0 = none ∧ (some 1 : Option Word) ≠ some (record 2).seq) ∧
    (let s : State := { atWork with link := { atWork.link with phase := .verify true } }
     s.link.phase = .verify true ∧ s.TakesFrame (frameBits 0) 0 0) := by decide +kernel

theorem test_witness_ImageWordsCarryTheirFields :
    atWork.batch.records[1]? = some (record 2) ∧ (withSummary atWork).batch.retired[0]? = some summary ∧
    (withRotor { drivingRotor with ring := [⟨7, .forward, true⟩] } atWork).recordWords 6 1 = [7, 0xC1000000] ∧
    (asked 0 [0x0C] atWork).recordWords 4 0 = [0x00010C00, 0x000F1F00, 0, 0x0FFFFFFF, 0xFFFFFFFF] ∧
    atWork.recordWords 6 1 = [] := by decide +kernel

/-! ## Examples of the spec's chapters -/

/-- Section 5.6: the grant's first pulse at 180 milliseconds ends the grace at the nominal period. -/
theorem test_example_first_pulse :
    after (exec .rotorPulse { atWork with time := 180200 })
      (fun t => decide (t.rotor.period = some 250000 ∧ t.rotor.grace = none ∧ t.rotor.lastAccepted = some 180000)) =
      true := by decide +kernel

/-- Section 8.6: with five summaries in the queue, the retirement of three records leaves six, the last two with the
overrun flag. -/
theorem test_example_bin_change :
    (let five := [21, 22, 23, 24, 25].map fun n => { summary with seq := BitVec.ofNat 32 n }
     let s : State := { removed with
       batch := { removed.batch with
         records := [record 26, record 27, record 28], retired := five, nextSeq := 29 } }
     after (exec .retirement s)
       (fun t => decide (t.batch.retired.map (fun x => (x.seq, x.overrun)) =
         [(23, false), (24, false), (25, false), (26, false), (27, true), (28, true)]))) = true := by decide +kernel

/-- Section 11.4: a budget of 800 W against a granted sum of 740 W and a curb of 100 W is a CONFLICT; 850 W is OK. -/
theorem test_example_lower_budget :
    (let fan : Params := { heater with target := .fan, settingA := 60, demand := 40 }
     let claims := ((Table.reset.set 3 (entry heater .granted .none)).set 4 (entry fan .granted .none)).set 6
       (entry curb .granted .none)
     let s (v : Nat) : State := asked 0 [0x29]
       { secured with claims := claims, arbiter := { Arbiter.reset with budgetWrites := [(0, v)] } }
     after (exec .budgetWrite (s 800)) (fun t => decide ((t.port 0).reply.status = .conflict ∧ t.tuning.get 0 = 900)) &&
     after (exec .budgetWrite (s 850)) (fun t => decide ((t.port 0).reply.status = .ok ∧ t.tuning.get 0 = 850))) =
      true := by decide +kernel

/-- A request goes round: taken at the transaction, answered by its block, shifted out by the next transaction (R147 to
R149). -/
theorem test_example_round_trip :
    (match exec (.transactionTaken 0 ⟨sixteen [0x28, 0], 0⟩) (inTransaction true State.reset) with
     | .next t =>
       after (exec (.tuningRead 0) t)
         (fun u => decide ((u.port 0).reply.data = [0, 3, 132, 1, 44, 7, 8, 3, 132, 0, 0, 0, 0, 0] ∧
           (u.port 0).flight = none))
     | _ => false) = true := by decide +kernel

end Sys2Proof.Tests
end

section
/-! Reading one entry of the claim table after the operations of an event, and how one entry can move (R4 to R23). -/

namespace Sys2Proof.Machine

/-! ## An entry after an operation that leaves the claim table alone -/

@[simp] theorem State.claim_updPort (s : State) (p : Port) (f : PortState → PortState) (j : ClaimIdx) :
    (s.updPort p f).claim j = s.claim j := rfl

@[simp] theorem State.claim_post (s : State) (n : Source) (p : Port) (j : ClaimIdx) :
    (s.post n p).claim j = s.claim j := rfl

@[simp] theorem State.claim_postAll (s : State) (n : Source) (j : ClaimIdx) : (s.postAll n).claim j = s.claim j := rfl

@[simp] theorem State.claim_postOwner (s : State) (n : Source) (o : Option Port) (j : ClaimIdx) :
    (s.postOwner n o).claim j = s.claim j := State.claim_congr (by simp) j

@[simp] theorem State.claim_answer (s : State) (p : Port) (st : Status) (data : List Byte) (j : ClaimIdx) :
    (s.answer p st data).claim j = s.claim j := rfl

@[simp] theorem State.claim_reportPass (s : State) (j : ClaimIdx) : s.reportPass.claim j = s.claim j :=
  State.claim_congr (by simp) j

@[simp] theorem State.claim_judgeHeater (s : State) (j : ClaimIdx) : s.judgeHeater.claim j = s.claim j := rfl

@[simp] theorem State.claim_setLatchCommand (s : State) (k : LatchCommand) (j : ClaimIdx) :
    (s.setLatchCommand k).claim j = s.claim j := State.claim_congr (by simp) j

@[simp] theorem State.claim_touchClaims (s : State) (old : Table) (j : ClaimIdx) :
    (s.touchClaims old).claim j = s.claim j := rfl

/-! ## How one entry moves -/

/-- One move of the entry of index i that no request of the arbiter makes: what a command other than GRANT and YIELD can
do to an entry at once. An arming is one of an arming number that the test allows. -/
inductive Claim.Move (arms : ClaimIdx → Word → Prop) (i : ClaimIdx) : Claim → Claim → Prop
  | draft (c : Claim) (p : Port) (q : Params) : Move arms i c (c.draft p q)
  | arm (c : Claim) : c.state ≠ .free → c.staged.chainOk i = true → arms i c.arming → Move arms i c c.armed
  | alter (c : Claim) (x : FlagChange × FlagChange × FlagChange) : c.state ≠ .free → Move arms i c (c.alter x)
  | second (c : Claim) : Move arms i c c.second
  | hold (c : Claim) : c.isHoldable = true → Move arms i c { c with state := .held }
  | resume (c : Claim) (clock : Word) : c.state = .held → Move arms i c (c.grantedAt clock)
  | finish (c : Claim) (why : ClaimOutcome) : c.inForce = true → why ≠ .none →
      Move arms i c { c with state := .ended, outcome := why }
  | free (c : Claim) : Move arms i c (.free c.arming)

/-- An entry comes to another by moves. -/
abbrev Claim.Moves (arms : ClaimIdx → Word → Prop) (i : ClaimIdx) : Claim → Claim → Prop :=
  Relation.ReflTransGen (Claim.Move arms i)

/-- What a command other than GRANT, YIELD and those of the arbiter itself leaves of the claim table and the pass under
way: every entry has come by moves, and the requests and the budget stand. -/
structure State.Calm (arms : ClaimIdx → Word → Prop) (s t : State) : Prop where
  moves : ∀ j, Claim.Moves arms j (s.claim j) (t.claim j)
  requests : t.arbiter.requests = s.arbiter.requests
  budget : t.budget = s.budget

theorem State.Calm.refl (arms : ClaimIdx → Word → Prop) (s : State) : s.Calm arms s := ⟨fun _ => .refl, rfl, rfl⟩

theorem State.Calm.trans {arms : ClaimIdx → Word → Prop} {s t u : State} (h : s.Calm arms t) (k : t.Calm arms u) :
    s.Calm arms u :=
  ⟨fun j => (h.moves j).trans (k.moves j), k.requests.trans h.requests, k.budget.trans h.budget⟩

/-- An operation that leaves the claim table, the requests and the tuning table alone is calm. -/
theorem State.Calm.of_eq {arms : ClaimIdx → Word → Prop} {s t : State} (hc : t.claims = s.claims)
    (hr : t.arbiter.requests = s.arbiter.requests) (ht : t.tuning = s.tuning) : s.Calm arms t :=
  ⟨fun j => by rw [State.claim_congr hc j], hr, by unfold State.budget; rw [ht]⟩

/-- A calm operation after one that leaves the claim table, the requests and the tuning table alone. -/
theorem State.Calm.after {arms : ClaimIdx → Word → Prop} {s t u : State} (h : t.Calm arms u) (hc : t.claims = s.claims)
    (hr : t.arbiter.requests = s.arbiter.requests) (ht : t.tuning = s.tuning) : s.Calm arms u :=
  .trans (.of_eq hc hr ht) h

/-- A write of one entry is calm when that entry moves. -/
theorem State.Calm.setClaim {arms : ClaimIdx → Word → Prop} {s : State} {i : ClaimIdx} {c : Claim}
    (h : Claim.Move arms i (s.claim i) c) : s.Calm arms (s.setClaim i c) := by
  refine ⟨fun j => ?_, rfl, rfl⟩
  rw [State.claim_setClaim]
  split
  next hij => subst hij; exact .single h
  next => exact .refl

/-- A fold of calm steps is calm. -/
theorem State.Calm.foldl {arms : ClaimIdx → Word → Prop} {α : Type} {f : State → α → State}
    (h : ∀ s a, State.Calm arms s (f s a)) (l : List α) (s : State) : s.Calm arms (l.foldl f s) :=
  foldl_invariant (s.Calm arms ·) f (fun t a ht => ht.trans (h t a)) l s (.refl arms s)

end Sys2Proof.Machine
end

section
/-! The operations of an event at the claim table are calm: every entry comes by moves (R7 to R23), and the requests of
the pass and the budget stand. -/

namespace Sys2Proof.Machine

variable {arms : ClaimIdx → Word → Prop}

/-! ## Reports, grants and resumptions -/

/-- A report to the arbiter leaves the requests of the pass alone (R30). -/
@[simp] theorem State.reportPass_requests (s : State) : s.reportPass.arbiter.requests = s.arbiter.requests := by
  unfold State.reportPass
  split <;> rfl

@[simp] theorem State.reportPass_handover (s : State) : s.reportPass.arbiter.handover = s.arbiter.handover := by
  unfold State.reportPass
  split <;> rfl

theorem State.calm_reportPass (s : State) : s.Calm arms s.reportPass := .of_eq (by simp) (by simp) (by simp)

theorem State.calm_postOwner (s : State) (n : Source) (o : Option Port) : s.Calm arms (s.postOwner n o) :=
  .of_eq (by simp) (by simp) (by simp)

theorem State.calm_updPort (s : State) (p : Port) (f : PortState → PortState) : s.Calm arms (s.updPort p f) :=
  .of_eq rfl rfl rfl

theorem State.calm_postAll (s : State) (n : Source) : s.Calm arms (s.postAll n) := .of_eq rfl rfl rfl

theorem State.calm_answer (s : State) (p : Port) (st : Status) (data : List Byte) : s.Calm arms (s.answer p st data) :=
  .of_eq rfl rfl rfl

theorem State.calm_refuse (s : State) (p : Port) (st : Status) : s.Calm arms (s.refuse p st) := .of_eq rfl rfl rfl

theorem State.calm_handSecured (s : State) (e : SecuredEvent) : s.Calm arms (s.handSecured e) := .of_eq rfl rfl rfl

theorem State.calm_handBin (s : State) (e : BinEvent) : s.Calm arms (s.handBin e) := .of_eq rfl rfl rfl

theorem State.calm_judgeDisagreement (s : State) : s.Calm arms s.judgeDisagreement := .of_eq rfl rfl rfl

theorem State.calm_judgeHeater (s : State) : s.Calm arms s.judgeHeater := .of_eq rfl rfl rfl

theorem State.calm_derivePlateBelow (s : State) : s.Calm arms s.derivePlateBelow := .of_eq rfl rfl rfl

theorem State.calm_touchClaims (s : State) (old : Table) : s.Calm arms (s.touchClaims old) := .of_eq rfl rfl rfl

/-- The claim table after a claim has entered GRANTED (R17). -/
@[simp] theorem State.enterGranted_claims (s : State) (i : ClaimIdx) :
    (s.enterGranted i).claims = s.claims.set i ((s.claim i).grantedAt s.sensors.clock) := by
  unfold State.enterGranted
  simp only
  split <;> simp [Claim.grantedAt]

theorem State.claim_enterGranted (s : State) (i j : ClaimIdx) :
    (s.enterGranted i).claim j = if i = j then (s.claim i).grantedAt s.sensors.clock else s.claim j :=
  (State.claim_congr (s := s.enterGranted i) (t := s.setClaim i ((s.claim i).grantedAt s.sensors.clock))
    (by simp) j).trans (s.claim_setClaim i j _)

theorem State.calm_resumeOne (s : State) (i : ClaimIdx) : s.Calm arms (s.resumeOne i) := by
  unfold State.resumeOne
  split
  next h =>
    exact (State.Calm.setClaim (.resume _ s.sensors.clock h)).trans (.of_eq (by simp) (by simp) (by simp))
  next => exact .refl _ s

theorem State.calm_resumeAll (s : State) : s.Calm arms s.resumeAll := .foldl (fun s i => s.calm_resumeOne i) all16 s

theorem State.calm_setLatchCommand (s : State) (k : LatchCommand) : s.Calm arms (s.setLatchCommand k) :=
  .of_eq (by simp) (by simp) (by simp)

/-- What the latch does as it follows the claim table, by the command and what drives it (R53). -/
theorem State.followLatch_cases (s : State) :
    (s.driven .latch = true ∧ s.followLatch = s.setLatchCommand .release) ∨
    (s.driven .latch = false ∧ s.interlock.latchCommand = .engage ∧ s.followLatch = s) ∨
    (s.driven .latch = false ∧ s.interlock.latchCommand = .release ∧ s.chamberOk = false ∧
      s.followLatch = s.setLatchCommand .engage) ∨
    (s.driven .latch = false ∧ s.interlock.latchCommand = .release ∧ s.chamberOk = true ∧
      s.followLatch = (s.setLatchCommand .engage).resumeAll) := by
  have hok : (s.setLatchCommand .engage).chamberOk = s.chamberOk := by
    unfold State.setLatchCommand State.chamberOk
    split <;> rfl
  unfold State.followLatch
  simp only [hok]
  cases hd : s.driven .latch with
  | true => simp
  | false => cases hc : s.interlock.latchCommand <;> cases hk : s.chamberOk <;> simp

theorem State.calm_followLatch (s : State) : s.Calm arms s.followLatch := by
  obtain ⟨-, h⟩ | ⟨-, -, h⟩ | ⟨-, -, -, h⟩ | ⟨-, -, -, h⟩ := s.followLatch_cases <;> rw [h]
  · exact s.calm_setLatchCommand _
  · exact .refl _ s
  · exact s.calm_setLatchCommand _
  · exact (s.calm_setLatchCommand _).trans (State.calm_resumeAll _)

theorem State.calm_conclude (s old : State) : s.Calm arms (s.conclude old) :=
  s.calm_followLatch.trans (.of_eq (by simp [State.conclude, State.settleOutputs])
    (by simp [State.conclude, State.settleOutputs]) (by simp [State.conclude, State.settleOutputs]))

/-! ## Ends, holds and trips -/

theorem Claim.inForce_of_isHoldable {c : Claim} (h : c.isHoldable = true) : c.inForce = true := by
  unfold Claim.isHoldable Claim.grantedOn at h
  unfold Claim.inForce
  cases hs : c.state <;> simp_all

theorem Claim.inForce_of_isHolder {c : Claim} (h : c.isHolder = true) : c.inForce = true := by
  unfold Claim.isHolder Claim.holding at h
  unfold Claim.inForce
  cases hs : c.state <;> simp_all

theorem Claim.inForce_of_holds {c : Claim} {a : Target} (h : c.holds a = true) : c.inForce = true :=
  Claim.inForce_of_isHolder (by simp only [Claim.holds, Bool.and_eq_true] at h; exact h.1)

/-- The entries after the chain step: the follow-on armed if it may be, and every other as it stood (R20). -/
theorem State.claim_chainStep (s : State) (owner : Option Port) (followOn : Option ClaimIdx) (j : ClaimIdx) :
    (s.chainStep owner followOn).claim j =
      if followOn = some j ∧ s.chainArms owner j = true then (s.claim j).armed else s.claim j := by
  unfold State.chainStep
  cases followOn with
  | none => simp
  | some t =>
    simp only [Option.some.injEq]
    by_cases htj : t = j
    · subst htj
      split
      next h => simp [h]
      next h => simp [h]
    · split
      next h => simp [State.claim_setClaim, htj]
      next h => simp [htj]

/-- The checks that the chain step makes (R20). -/
theorem State.chainArms_iff (s : State) (owner : Option Port) (t : ClaimIdx) :
    s.chainArms owner t = true ↔ (s.claim t).owner = owner ∧ ((s.claim t).state = .draft ∨ (s.claim t).state = .ended) ∧
      armRefusal (s.ownerAccess owner) t (s.claim t).staged = none := by
  simp [State.chainArms, and_assoc]

/-- Checks 4 to 7 of R8 all pass. -/
theorem armRefusal_eq_none {acc : Access} {i : ClaimIdx} {q : Params} :
    armRefusal acc i q = none ↔
      q.consistent = true ∧ acc.permits q = true ∧ acc.floor ≤ q.level.val ∧ q.chainOk i = true := by
  unfold armRefusal
  cases q.consistent <;> cases acc.permits q <;> by_cases hl : q.level.val < acc.floor <;> cases q.chainOk i <;>
    simp [hl, Nat.le_of_not_lt]

/-- The claim at its end, before ONE_SHOT frees the entry and before the chain step (R19). -/
def Claim.finished (c : Claim) (why : ClaimOutcome) : Claim := { c with state := .ended, outcome := why }

/-- The entries after an end: the claim itself, its follow-on if the end is DONE and the chain step may arm it, and every
other as it stood (R19, R20). -/
theorem State.claim_endClaim (s : State) (i : ClaimIdx) (why : ClaimOutcome) (j : ClaimIdx) :
    (s.endClaim i why).claim j =
      if i = j ∧ (s.claim i).active.oneShot = true then .free (s.claim i).arming
      else if why = .done ∧ (s.claim i).active.followOn = some j ∧
          (s.setClaim i ((s.claim i).finished why)).chainArms (s.claim i).owner j = true then
        ((s.setClaim i ((s.claim i).finished why)).claim j).armed
      else (s.setClaim i ((s.claim i).finished why)).claim j := by
  have hchain : ∀ u : State, (if (s.claim i).active.oneShot = true then u.setClaim i (.free (s.claim i).arming) else u).claim
      j = if i = j ∧ (s.claim i).active.oneShot = true then .free (s.claim i).arming else u.claim j := by
    intro u
    by_cases ho : (s.claim i).active.oneShot = true <;> simp [ho, State.claim_setClaim]
  unfold State.endClaim
  rw [State.claim_postOwner, hchain]
  by_cases hw : why = .done
  · simp only [hw, if_true, State.claim_chainStep, true_and, Claim.finished]
  · simp only [hw, if_false, false_and, Claim.finished]

theorem State.calm_endClaim (s : State) (i : ClaimIdx) (why : ClaimOutcome) (hf : (s.claim i).inForce = true)
    (hw : why ≠ .none) (ha : ∀ t, why = .done → arms t (s.claim t).arming) : s.Calm arms (s.endClaim i why) := by
  have hend : s.Calm arms (s.setClaim i ((s.claim i).finished why)) := .setClaim (.finish _ why hf hw)
  have harm : ∀ t, ((s.setClaim i ((s.claim i).finished why)).claim t).arming = (s.claim t).arming := by
    intro t
    rw [State.claim_setClaim]
    split
    next h => rw [← h]; rfl
    next => rfl
  refine ⟨fun j => ?_, by simp, by simp [State.budget]⟩
  rw [State.claim_endClaim]
  split
  next h => obtain ⟨rfl, -⟩ := h; exact .single (.free _)
  next =>
    split
    next h =>
      obtain ⟨hdone, -, harms⟩ := h
      obtain ⟨-, hstate, hchecks⟩ := (State.chainArms_iff _ _ _).1 harms
      exact (hend.moves j).tail (.arm _ (by rcases hstate with h | h <;> simp [h]) (armRefusal_eq_none.1 hchecks).2.2.2
        (by rw [harm]; exact ha j hdone))
    next => exact hend.moves j

theorem State.calm_endAndReport (s : State) (i : ClaimIdx) (why : ClaimOutcome) (hf : (s.claim i).inForce = true)
    (hw : why ≠ .none) (ha : ∀ t, why = .done → arms t (s.claim t).arming) : s.Calm arms (s.endAndReport i why) :=
  (s.calm_endClaim i why hf hw ha).trans (State.calm_reportPass _)

theorem State.calm_holdOne (s : State) (i : ClaimIdx) : s.Calm arms (s.holdOne i) := by
  unfold State.holdOne
  simp only
  split
  next h =>
    split
    next => exact s.calm_endAndReport i _ (Claim.inForce_of_isHoldable h) (by simp) (by simp)
    next =>
      have hheld := (State.Calm.setClaim (arms := arms) (.hold _ h)).trans (State.calm_postOwner _ .interrupted (s.claim i).owner)
      split
      next => exact hheld.trans (State.calm_reportPass _)
      next => exact hheld
  next => exact .refl _ s

theorem State.calm_holdAll (s : State) : s.Calm arms s.holdAll := .foldl (fun s i => s.calm_holdOne i) all16 s

/-- The holder of an actuator, if there is one, holds it (R26, log 21). -/
theorem Table.holder_eq_some {t : Table} {a : Target} {i : ClaimIdx} :
    Table.holder t a = some i ↔ (t.get i).holds a = true ∧ ∀ j, (t.get j).holds a = true → i ≤ j := find_all16 _ i

theorem State.calm_jamEnd (s : State) : s.Calm arms s.jamEnd := by
  unfold State.jamEnd
  split
  next i hi => exact s.calm_endAndReport i _ (Claim.inForce_of_holds (Table.holder_eq_some.1 hi).1) (by simp) (by simp)
  next => exact .refl _ s

theorem State.calm_tripEvent (s : State) (c : Cause) : s.Calm arms (s.tripEvent c) := by
  unfold State.tripEvent
  simp only
  refine .trans (.trans ?_ (State.calm_holdAll _)) (State.calm_postAll _ _)
  split
  · exact (State.calm_jamEnd _).after rfl rfl rfl
  · exact .of_eq rfl rfl rfl

theorem State.calm_raise (s : State) (c : Cause) : s.Calm arms (s.raise c) := by
  unfold State.raise
  split
  · exact s.calm_tripEvent c
  · split
    · exact .refl _ s
    · exact (State.calm_tripEvent _ c).after rfl rfl rfl

/-! ## The chamber -/

theorem State.calm_securedLost (s : State) : s.Calm arms s.securedLost := by
  unfold State.securedLost
  refine .trans ?_ (State.calm_handSecured _ _)
  exact (State.calm_holdAll _).after rfl rfl rfl

theorem State.calm_securedGained (s : State) : s.Calm arms s.securedGained := by
  unfold State.securedGained
  simp only
  refine .trans (.trans ?_ (State.calm_reportPass _)) (State.calm_handSecured _ _)
  split
  · exact (State.calm_resumeAll _).after rfl rfl rfl
  · exact .of_eq rfl rfl rfl

theorem State.calm_deriveSecured (s : State) : s.Calm arms s.deriveSecured := by
  unfold State.deriveSecured
  split
  · exact .refl _ s
  · split
    · exact s.calm_securedGained
    · exact s.calm_securedLost

theorem State.calm_judgeForced (s : State) (opened : Bool) : s.Calm arms (s.judgeForced opened) := by
  unfold State.judgeForced
  split
  · exact s.calm_raise _
  · exact .refl _ s

theorem State.calm_judgeReport (s : State) : s.Calm arms s.judgeReport := by
  have hsensor : s.Calm arms s.judgeThermalSensor := by
    unfold State.judgeThermalSensor
    split
    · exact .of_eq rfl rfl rfl
    · exact s.calm_raise _
  refine hsensor.trans ?_
  unfold State.judgeReport State.judgeOverheat
  split
  · exact .refl _ _
  · split
    · exact State.calm_raise _ _
    · split
      · exact .of_eq rfl rfl rfl
      · exact .refl _ _

theorem State.calm_judgePlateBelow (s : State) : s.Calm arms s.judgePlateBelow := by
  unfold State.judgePlateBelow
  split
  · exact (State.calm_reportPass _).after rfl rfl rfl
  · exact .of_eq rfl rfl rfl

theorem State.calm_clearHalt (s : State) : s.Calm arms s.clearHalt := by
  unfold State.clearHalt
  simp only
  refine .trans ?_ (State.calm_reportPass _)
  split
  · exact (State.calm_resumeAll _).after rfl rfl rfl
  · exact .of_eq rfl rfl rfl

/-! ## The ports' requests to the claim table -/

theorem State.calm_resetEntries (s : State) (p : Port) : s.Calm arms (s.resetEntries p) := by
  refine .foldl (fun s i => ?_) all16 s
  unfold State.resetEntry
  simp only
  split
  · split
    · exact .trans (.setClaim (.free _)) (State.calm_updPort _ _ _)
    · exact .setClaim (.free _)
  · exact .refl _ s

theorem State.calm_takePortReset (s : State) (p : Port) : s.Calm arms (s.takePortReset p) := by
  unfold State.takePortReset
  refine .trans (.trans (.trans ?_ (State.calm_updPort _ _ _)) (State.calm_reportPass _)) (State.calm_conclude _ s)
  exact (s.calm_resetEntries p).trans (.of_eq (by simp) (by simp) (by simp))

theorem State.calm_takeDraft (s : State) (p : Port) (req : List Byte) : s.Calm arms (s.takeDraft p req) := by
  unfold State.takeDraft
  split
  · exact .of_eq rfl rfl rfl
  · split
    · exact .of_eq rfl rfl rfl
    · exact .trans (.trans (.setClaim (.draft _ p _)) (State.calm_touchClaims _ _)) (State.calm_answer _ _ _ _)

/-- The entry that ARM, DISARM or ALTER of a port names is not FREE and is owned by the port (R8, R11, R12). -/
theorem State.ownEntry_eq_ok {s : State} {p : Port} {index : Byte} {i : ClaimIdx} :
    s.ownEntry p index = .ok i ↔
      claimIndex index = some i ∧ (s.claim i).state ≠ .free ∧ (s.claim i).owner = some p := by
  unfold State.ownEntry
  cases claimIndex index with
  | none => simp
  | some k =>
    by_cases hf : (s.claim k).state = .free <;> by_cases ho : (s.claim k).owner = some p <;> simp [hf, ho] <;>
      rintro rfl <;> simp [hf, ho]

theorem State.calm_takeArm (s : State) (p : Port) (req : List Byte) (ha : ∀ i, arms i (s.claim i).arming) :
    s.Calm arms (s.takeArm p req) := by
  unfold State.takeArm
  split
  · exact .of_eq rfl rfl rfl
  next i hi =>
    split
    · exact .of_eq rfl rfl rfl
    next hr =>
      refine .trans (.trans (.trans (.setClaim ?_) (State.calm_reportPass _)) (State.calm_conclude _ s))
        (State.calm_answer _ _ _ _)
      exact .arm _ (State.ownEntry_eq_ok.1 hi).2.1 (armRefusal_eq_none.1 hr).2.2.2 (ha i)

theorem State.calm_disarm (s : State) (i : ClaimIdx) : s.Calm arms (s.disarm i) := by
  unfold State.disarm
  split
  next h => exact (s.calm_endAndReport i _ h (by simp) (by simp)).trans (State.calm_conclude _ s)
  next => exact .trans (.setClaim (.free _)) (State.calm_touchClaims _ _)

theorem State.calm_takeDisarm (s : State) (p : Port) (req : List Byte) : s.Calm arms (s.takeDisarm p req) := by
  unfold State.takeDisarm
  split
  · exact .of_eq rfl rfl rfl
  · exact (s.calm_disarm _).trans (State.calm_answer _ _ _ _)

theorem State.calm_takeAlter (s : State) (p : Port) (req : List Byte) : s.Calm arms (s.takeAlter p req) := by
  unfold State.takeAlter
  split
  · exact .of_eq rfl rfl rfl
  next i hi =>
    split
    · exact .of_eq rfl rfl rfl
    next x _ =>
      have halter : s.Calm arms (s.setClaim i ((s.claim i).alter x)) :=
        .setClaim (.alter _ x (State.ownEntry_eq_ok.1 hi).2.1)
      refine .trans ?_ (State.calm_answer _ _ _ _)
      unfold State.alterEntry
      simp only
      split
      · exact halter.trans (State.calm_reportPass _)
      · exact halter

theorem State.calm_takeHaltClear (s : State) (p : Port) : s.Calm arms (s.takeHaltClear p) := by
  unfold State.takeHaltClear
  split
  · exact .of_eq rfl rfl rfl
  · split
    · exact .of_eq rfl rfl rfl
    · split
      · exact .of_eq rfl rfl rfl
      · exact (s.calm_clearHalt.trans (State.calm_conclude _ s)).trans (State.calm_answer _ _ _ _)

/-! ## The rotor monitor -/

theorem State.calm_takeEarly (s : State) : s.Calm arms s.takeEarly := by
  unfold State.takeEarly
  simp only
  split
  · refine .trans ?_ (State.calm_conclude _ s)
    exact (State.calm_raise _ _).after rfl rfl rfl
  · exact .of_eq rfl rfl rfl

theorem State.calm_probeFails (s : State) : s.Calm arms s.probeFails := by
  unfold State.probeFails
  split
  · exact .of_eq (by simp) (by simp) (by simp)
  · refine .trans ?_ (State.calm_conclude _ s)
    exact (State.calm_raise _ _).after rfl rfl rfl

theorem State.calm_stall (s : State) : s.Calm arms s.stall := by
  unfold State.stall
  split
  · exact .of_eq (by simp) (by simp) (by simp)
  · exact s.calm_probeFails

end Sys2Proof.Machine
end

section
/-! Every command but GRANT, YIELD, the two of the arbiter, the data frame of a POKE and RESET_RELEASE is calm at the claim
table: one lemma for each kind of command, and the case split over the commands once. -/

namespace Sys2Proof.Machine

variable {arms : ClaimIdx → Word → Prop}

/-! ## A request and a frame -/

/-- A request leaves a state that the test passes, if it passes the state as it is and what the block makes of it. -/
theorem onRequest_next {P : State → Prop} {s : State} {p : Port} {code : Byte} {f : List Byte → State} (hs : P s)
    (hf : ∀ req, P (f req)) : ∃ t, onRequest s p code f = .next t ∧ P t := by
  unfold onRequest
  split
  next req _ =>
    split
    · exact ⟨_, rfl, hf req⟩
    · exact ⟨_, rfl, hs⟩
  next => exact ⟨_, rfl, hs⟩

/-- The bits of a row leave a state that the test passes, if it passes the state with any bits waiting and what the frame
makes of it. -/
theorem takeFrame_next {P : State → Prop} {s : State} {bits : List Bool} {kind : FrameKind} {f : Word → State} (hs : P s)
    (hw : ∀ bits run, P (s.sampledBits bits run)) (hf : ∀ frame run, P ((f frame).sampledBits [] run)) :
    ∃ t, takeFrame s bits kind f = .next t ∧ P t := by
  obtain h | ⟨run, -, h⟩ | ⟨run, frame, -, h⟩ := takeFrame_cases s bits kind f
  · exact ⟨_, h, hs⟩
  · exact ⟨_, h, hw _ run⟩
  · exact ⟨_, h, hf frame run⟩

theorem onRequest_calm {s : State} {p : Port} {code : Byte} {f : List Byte → State} (hf : ∀ req, s.Calm arms (f req)) :
    ∃ t, onRequest s p code f = .next t ∧ s.Calm arms t := onRequest_next (.refl _ s) hf

/-- A frame that changes the link and the ports alone is calm. -/
theorem takeFrame_calm {s : State} {bits : List Bool} {kind : FrameKind} {f : Word → State}
    (hf : ∀ frame, s.Calm arms (f frame)) : ∃ t, takeFrame s bits kind f = .next t ∧ s.Calm arms t :=
  takeFrame_next (.refl _ s) (fun _ _ => .of_eq rfl rfl rfl) (fun frame _ => (hf frame).trans (.of_eq rfl rfl rfl))

/-- A command that changes the state only where its condition holds. -/
theorem ite_calm {c : Prop} [Decidable c] {s t : State} (h : c → s.Calm arms t) :
    ∃ u, (if c then Host.Outcome.next t else Host.Outcome.next s : Answer) = .next u ∧ s.Calm arms u := by
  split
  next hc => exact ⟨t, rfl, h hc⟩
  next => exact ⟨s, rfl, .refl _ s⟩

/-! ## The requests of the other blocks -/

theorem State.calm_takeStatus (s : State) (p : Port) (req : List Byte) : s.Calm arms (s.takeStatus p req) := by
  unfold State.takeStatus
  split
  · exact s.calm_answer _ _ _
  · split
    · exact s.calm_answer _ _ _
    · exact s.calm_refuse _ _

theorem State.calm_takeNoticeLevel (s : State) (p : Port) (req : List Byte) : s.Calm arms (s.takeNoticeLevel p req) := by
  unfold State.takeNoticeLevel
  split
  · exact s.calm_updPort _ _
  · exact s.calm_refuse _ _

theorem State.calm_takeAccessRead (s : State) (p : Port) (req : List Byte) : s.Calm arms (s.takeAccessRead p req) := by
  unfold State.takeAccessRead
  split
  · exact s.calm_answer _ _ _
  · exact s.calm_refuse _ _

theorem State.calm_takeAccessWrite (s : State) (p : Port) (req : List Byte) : s.Calm arms (s.takeAccessWrite p req) := by
  unfold State.takeAccessWrite
  split
  · exact s.calm_refuse _ _
  · split
    · exact .of_eq rfl rfl rfl
    · exact s.calm_refuse _ _

theorem State.calm_takeRotorRead (s : State) (p : Port) (req : List Byte) : s.Calm arms (s.takeRotorRead p req) := by
  unfold State.takeRotorRead
  split
  · exact s.calm_answer _ _ _
  · exact s.calm_refuse _ _

theorem State.calm_takeClaimRead (s : State) (p : Port) (req : List Byte) : s.Calm arms (s.takeClaimRead p req) := by
  unfold State.takeClaimRead
  split
  · exact s.calm_refuse _ _
  · split
    · exact s.calm_refuse _ _
    · exact s.calm_answer _ _ _

theorem State.calm_takeBatchRead (s : State) (p : Port) (req : List Byte) : s.Calm arms (s.takeBatchRead p req) := by
  unfold State.takeBatchRead
  split
  · exact s.calm_refuse _ _
  · split
    · exact s.calm_refuse _ _
    · split
      · exact s.calm_refuse _ _
      · exact s.calm_answer _ _ _

theorem State.calm_takeBatchReserve (s : State) (p : Port) (req : List Byte) : s.Calm arms (s.takeBatchReserve p req) := by
  unfold State.takeBatchReserve
  split
  · exact s.calm_refuse _ _
  · split
    · exact s.calm_refuse _ _
    · split
      · exact s.calm_refuse _ _
      · exact .of_eq rfl rfl rfl

theorem State.calm_takeBatchCommit (s : State) (p : Port) (req : List Byte) : s.Calm arms (s.takeBatchCommit p req) := by
  unfold State.takeBatchCommit
  split
  · exact s.calm_refuse _ _
  · split
    · exact s.calm_refuse _ _
    · split
      · exact s.calm_refuse _ _
      · split
        · exact s.calm_refuse _ _
        · refine .trans ?_ (State.calm_answer _ _ _ _)
          exact .of_eq (by simp) (by simp) (by simp)

theorem State.calm_takeRetiredPeek (s : State) (p : Port) (req : List Byte) : s.Calm arms (s.takeRetiredPeek p req) := by
  unfold State.takeRetiredPeek
  split
  · exact s.calm_refuse _ _
  · split
    · exact s.calm_refuse _ _
    · exact s.calm_answer _ _ _

theorem State.calm_takeRetiredTake (s : State) (p : Port) (req : List Byte) : s.Calm arms (s.takeRetiredTake p req) := by
  unfold State.takeRetiredTake
  split
  · exact s.calm_refuse _ _
  · split
    · exact s.calm_refuse _ _
    · split
      · exact s.calm_refuse _ _
      · exact .of_eq rfl rfl rfl

theorem State.calm_takeTuningRead (s : State) (p : Port) (req : List Byte) : s.Calm arms (s.takeTuningRead p req) := by
  unfold State.takeTuningRead
  split
  · exact s.calm_answer _ _ _
  · exact s.calm_refuse _ _

/-- A write of any tuning value but the budget leaves the budget alone (R169, R171). -/
theorem State.calm_writeTuning (s : State) (k : Fin 13) (v : Nat) (hk : k ≠ 0) : s.Calm arms (s.writeTuning k v) := by
  have hset : s.Calm arms (s.setTuning k v) := by
    refine ⟨fun _ => .refl, rfl, ?_⟩
    have h0 : (k : Nat) ≠ 0 := fun h => hk (Fin.ext h)
    show (s.tuning.set (k : Nat) v k.isLt)[0] = s.tuning[0]
    rw [Vector.getElem_set_ne _ _ h0]
  unfold State.writeTuning
  simp only
  split
  · exact hset.trans (State.calm_reportPass _)
  · split
    · exact hset.trans (.of_eq (by simp) (by simp) (by simp))
    · split
      · exact hset.trans (.of_eq rfl rfl rfl)
      · exact hset

theorem State.calm_takeTuningWrite (s : State) (p : Port) (req : List Byte) : s.Calm arms (s.takeTuningWrite p req) := by
  unfold State.takeTuningWrite
  split
  · exact .refl _ s
  · split
    · exact s.calm_refuse _ _
    · split
      · exact s.calm_refuse _ _
      next k _ =>
        simp only
        split
        · exact s.calm_refuse _ _
        · split
          · exact .of_eq rfl rfl rfl
          next hk => exact (s.calm_writeTuning k _ hk).trans (State.calm_answer _ _ _ _)

/-! ## The events of the chamber -/

theorem State.calm_execLidSwitchChange (s : State) (closed : Bool) :
    ∃ t, execLidSwitchChange closed s = .next t ∧ s.Calm arms t := by
  unfold execLidSwitchChange
  split
  · exact ⟨_, rfl, .refl _ s⟩
  · refine ⟨_, rfl, .trans (.trans (.trans ?_ (State.calm_judgeForced _ _)) (State.calm_judgeDisagreement _)) (State.calm_conclude _ s)⟩
    exact (State.calm_deriveSecured _).after rfl rfl rfl

theorem State.calm_execBinSwitchChange (s : State) (closed : Bool) :
    ∃ t, execBinSwitchChange closed s = .next t ∧ s.Calm arms t := by
  unfold execBinSwitchChange
  split
  · exact ⟨_, rfl, .refl _ s⟩
  · refine ⟨_, rfl, .trans (.trans (.trans ?_ (State.calm_judgeForced _ _)) (State.calm_handBin _ _)) (State.calm_conclude _ s)⟩
    exact (State.calm_deriveSecured _).after rfl rfl rfl

theorem State.calm_execLatchFeedbackChange (s : State) (engaged : Bool) :
    ∃ t, execLatchFeedbackChange engaged s = .next t ∧ s.Calm arms t := by
  unfold execLatchFeedbackChange
  split
  · exact ⟨_, rfl, .refl _ s⟩
  · refine ⟨_, rfl, .trans (.trans ?_ (State.calm_judgeDisagreement _)) (State.calm_conclude _ s)⟩
    exact (State.calm_deriveSecured _).after rfl rfl rfl

theorem State.calm_execCutoutChange (s : State) (closed : Bool) :
    ∃ t, execCutoutChange closed s = .next t ∧ s.Calm arms t := by
  unfold execCutoutChange
  split
  · exact ⟨_, rfl, .refl _ s⟩
  · refine ⟨_, rfl, .trans ?_ (State.calm_conclude _ s)⟩
    split
    · exact .of_eq rfl rfl rfl
    · exact (State.calm_raise _ _).after rfl rfl rfl

theorem State.calm_execDisagreementTimerExpiry (s : State) :
    ∃ t, execDisagreementTimerExpiry s = .next t ∧ s.Calm arms t := by
  refine ite_calm fun _ => .trans ?_ (State.calm_conclude _ s)
  exact (State.calm_raise _ _).after rfl rfl rfl

theorem State.calm_execThermistorReport (s : State) (plate air : Int) :
    ∃ t, execThermistorReport plate air s = .next t ∧ s.Calm arms t := by
  refine ⟨_, rfl, .trans (.trans (.trans ?_ (State.calm_judgePlateBelow _)) (State.calm_judgeHeater _)) (State.calm_conclude _ s)⟩
  exact (State.calm_judgeReport _).after rfl rfl rfl

theorem State.calm_execChamberClockIncrement (s : State) :
    ∃ t, execChamberClockIncrement s = .next t ∧ s.Calm arms t := by
  refine ⟨_, rfl, fun j => ?_, rfl, rfl⟩
  have hmap : ({ s with claims := s.claims.map Claim.second, sensors := s.sensors.second } : State).claim j =
      (s.claim j).second := Vector.getElem_map ..
  rw [hmap]
  exact .single (.second _)

theorem State.calm_execRunTimeExpiry (s : State) (i : ClaimIdx) (ha : ∀ j, arms j (s.claim j).arming) :
    ∃ t, execRunTimeExpiry i s = .next t ∧ s.Calm arms t := by
  refine ite_calm fun h => .trans (s.calm_endAndReport i .done ?_ (by simp) fun j _ => ha j) (State.calm_conclude _ s)
  simp only [Claim.runTimeOver, decide_eq_true_eq] at h
  simp [Claim.inForce, h.1]

theorem State.calm_execDeadlineExpiry (s : State) (i : ClaimIdx) :
    ∃ t, execDeadlineExpiry i s = .next t ∧ s.Calm arms t := by
  refine ite_calm fun h => .trans (s.calm_endAndReport i .lapsed ?_ (by simp) (by simp)) (State.calm_conclude _ s)
  simp only [Claim.deadlineOver, decide_eq_true_eq] at h
  simp [Claim.inForce, h.1]

theorem State.calm_execRotorPulse (s : State) : ∃ t, execRotorPulse s = .next t ∧ s.Calm arms t := by
  unfold execRotorPulse
  split
  · exact ⟨_, rfl, s.calm_takeEarly⟩
  · exact ⟨_, rfl, .of_eq (by simp) (by simp) (by simp)⟩

/-! ## The batch unit and the ports' transactions -/

theorem State.calm_execMassAfterSettleEnd (s : State) : ∃ t, execMassAfterSettleEnd s = .next t ∧ s.Calm arms t := by
  unfold execMassAfterSettleEnd
  split
  · split
    · exact ⟨_, rfl, .of_eq (by simp) (by simp) (by simp)⟩
    · exact ⟨_, rfl, .of_eq rfl rfl rfl⟩
  · exact ⟨_, rfl, .refl _ s⟩

theorem State.calm_reply (s : State) (answer : Word) (sack : Nat) : s.Calm arms (s.reply answer sack) := .of_eq rfl rfl rfl

theorem State.calm_takePeek (s : State) (table entry w : Nat) : s.Calm arms (s.takePeek table entry w) := by
  unfold State.takePeek
  split
  · exact .of_eq rfl rfl rfl
  · split <;> exact .of_eq rfl rfl rfl

theorem State.calm_takePoke (s : State) (table entry w : Nat) : s.Calm arms (s.takePoke table entry w) := .of_eq rfl rfl rfl

theorem State.calm_takeVerify (s : State) : s.Calm arms s.takeVerify := by
  unfold State.takeVerify
  split
  · exact .of_eq rfl rfl rfl
  · exact .refl _ s
  · exact .refl _ s

/-! ## All of them -/

/-- The commands that take or issue the requests of a pass, that write the budget at the arbiter, or that set every block
anew. -/
def movesThePass : Instr → Bool
  | .resetRelease _ | .budgetWrite | .arbitrationPass _ | .grant | .yield | .pokeDataFrame _ => true
  | _ => false

/-- Every other command is calm, if its arming numbers are allowed. -/
theorem exec_calm (s : State) (c : Instr) (hc : movesThePass c = false) (ha : ∀ i, arms i (s.claim i).arming) :
    ∃ t, exec c s = .next t ∧ s.Calm arms t := by
  cases c with
  | resetRelease | budgetWrite | arbitrationPass | grant | yield | pokeDataFrame => cases hc
  | transactionStart p =>
    show ∃ t, execTransactionStart p s = .next t ∧ s.Calm arms t
    unfold execTransactionStart
    split
    · exact ⟨_, rfl, s.calm_updPort _ _⟩
    · exact ⟨_, rfl, .refl _ s⟩
  | transactionTaken p x =>
    show ∃ t, execTransactionTaken p x s = .next t ∧ s.Calm arms t
    unfold execTransactionTaken
    split
    · exact ⟨_, rfl, s.calm_updPort _ _⟩
    · exact ⟨_, rfl, s.calm_updPort _ _⟩
  | busyTransaction x =>
    show ∃ t, execBusyTransaction x s = .next t ∧ s.Calm arms t
    unfold execBusyTransaction
    split
    · exact ⟨_, rfl, .refl _ s⟩
    · exact ⟨_, rfl, s.calm_updPort _ _⟩
  | shortTransaction x => exact ite_calm fun _ => s.calm_updPort _ _
  | nop p => exact onRequest_calm fun _ => s.calm_answer _ _ _
  | status p => exact onRequest_calm fun req => s.calm_takeStatus p req
  | noticeRead p => exact onRequest_calm fun _ => s.calm_answer _ _ _
  | noticeClear p => exact onRequest_calm fun _ => s.calm_updPort _ _
  | noticeLevel p => exact onRequest_calm fun req => s.calm_takeNoticeLevel p req
  | accessRead p => exact onRequest_calm fun req => s.calm_takeAccessRead p req
  | accessWrite p => exact onRequest_calm fun req => s.calm_takeAccessWrite p req
  | portReset p => exact onRequest_calm fun _ => s.calm_takePortReset p
  | rotorRead p => exact onRequest_calm fun req => s.calm_takeRotorRead p req
  | draft p => exact onRequest_calm fun req => s.calm_takeDraft p req
  | arm p => exact onRequest_calm fun req => s.calm_takeArm p req ha
  | disarm p => exact onRequest_calm fun req => s.calm_takeDisarm p req
  | alter p => exact onRequest_calm fun req => s.calm_takeAlter p req
  | claimRead p => exact onRequest_calm fun req => s.calm_takeClaimRead p req
  | batchRead p => exact onRequest_calm fun req => s.calm_takeBatchRead p req
  | batchReserve p => exact onRequest_calm fun req => s.calm_takeBatchReserve p req
  | batchCommit p => exact onRequest_calm fun req => s.calm_takeBatchCommit p req
  | retiredPeek p => exact onRequest_calm fun req => s.calm_takeRetiredPeek p req
  | retiredTake p => exact onRequest_calm fun req => s.calm_takeRetiredTake p req
  | haltClear p => exact onRequest_calm fun _ => s.calm_takeHaltClear p
  | tuningRead p => exact onRequest_calm fun req => s.calm_takeTuningRead p req
  | tuningWrite p => exact onRequest_calm fun req => s.calm_takeTuningWrite p req
  | chamberClockIncrement => exact s.calm_execChamberClockIncrement
  | runTimeExpiry i => exact s.calm_execRunTimeExpiry i ha
  | deadlineExpiry i => exact s.calm_execDeadlineExpiry i
  | lidSwitchChange closed => exact s.calm_execLidSwitchChange closed
  | binSwitchChange closed => exact s.calm_execBinSwitchChange closed
  | latchFeedbackChange engaged => exact s.calm_execLatchFeedbackChange engaged
  | cutoutChange closed => exact s.calm_execCutoutChange closed
  | disagreementTimerExpiry => exact s.calm_execDisagreementTimerExpiry
  | thermistorReport plate air => exact s.calm_execThermistorReport plate air
  | loadCellConversion reading => exact ⟨_, rfl, .of_eq rfl rfl rfl⟩
  | doseSample humidity => exact ite_calm fun _ => .of_eq (by simp) (by simp) (by simp)
  | grindCredit => exact ite_calm fun _ => .of_eq (by simp) (by simp) (by simp)
  | rotorPulse => exact s.calm_execRotorPulse
  | rotorAtRest => exact ite_calm fun _ => (State.calm_reportPass _).after rfl rfl rfl
  | startGraceRunsOut => exact ite_calm fun _ => s.calm_stall
  | stallDeadlinePassed => exact ite_calm fun _ => s.calm_stall
  | jogPhaseEnd => exact ite_calm fun _ => .of_eq rfl rfl rfl
  | probeWindowEnd => exact ite_calm fun _ => s.calm_probeFails
  | onTimeEnd => exact ite_calm fun _ => .of_eq rfl rfl rfl
  | offTimeEnd => exact ite_calm fun _ => .of_eq rfl rfl rfl
  | cleanRunTimerExpiry => exact ite_calm fun _ => .of_eq rfl rfl rfl
  | massBeforeSample =>
    show ∃ t, execMassBeforeSample s = .next t ∧ s.Calm arms t
    unfold execMassBeforeSample
    split <;> exact ⟨_, rfl, .of_eq rfl rfl rfl⟩
  | massAfterSettleStart =>
    show ∃ t, execMassAfterSettleStart s = .next t ∧ s.Calm arms t
    unfold execMassAfterSettleStart
    split <;> exact ⟨_, rfl, .of_eq rfl rfl rfl⟩
  | massAfterSettleEnd => exact s.calm_execMassAfterSettleEnd
  | binInsertion =>
    show ∃ t, execBinInsertion s = .next t ∧ s.Calm arms t
    unfold execBinInsertion
    split <;> exact ⟨_, rfl, .of_eq rfl rfl rfl⟩
  | tareSettleEnd => exact ite_calm fun _ => .of_eq rfl rfl rfl
  | retirement =>
    show ∃ t, execRetirement s = .next t ∧ s.Calm arms t
    unfold execRetirement
    split <;> exact ⟨_, rfl, .of_eq (by simp) (by simp) (by simp)⟩
  | idleFrame bits => exact takeFrame_calm fun _ => s.calm_reply _ _
  | unknownCommandFrame bits => exact takeFrame_calm fun _ => s.calm_reply _ _
  | peek table entry w low => exact takeFrame_calm fun _ => s.calm_takePeek _ _ _
  | poke table entry w low => exact takeFrame_calm fun _ => s.calm_takePoke _ _ _
  | verifyFrame bits => exact takeFrame_calm fun _ => s.calm_takeVerify
  | watch bits => exact takeFrame_calm fun _ => s.calm_reply _ _
  | touched bits => exact takeFrame_calm fun _ => s.calm_reply _ _
  | call bits => exact takeFrame_calm fun _ => (s.calm_postAll _).trans (State.calm_reply _ _ _)
  | resync => exact ite_calm fun _ => .of_eq rfl rfl rfl

end Sys2Proof.Machine
end

section
/-! The claim law (R1, R4, R5, R9, R15): every move of an entry keeps it, and so do a grant and a yield. -/

namespace Sys2Proof.Machine

variable {arms : ClaimIdx → Word → Prop}

/-! ## One entry -/

theorem Claim.lawful_free (i : ClaimIdx) (n : Word) : (Claim.free n).Lawful i := by
  simp [Claim.Lawful, Claim.free, Params.zero]

/-- An entry that a yield may take, or an end: it keeps its owner and its active copy. -/
theorem Claim.state_ne_free_of_inForce {c : Claim} (h : c.inForce = true) : c.state ≠ .free := by
  intro hf
  simp [Claim.inForce, hf] at h

/-- What a holdable claim drives (R15). -/
theorem Claim.isHoldable_iff (c : Claim) : c.isHoldable = true ↔
    c.state = .granted ∧ c.active.kind = .drive ∧ (c.active.target = .heater ∨ c.active.target = .grinder) := by
  simp only [Claim.isHoldable, Claim.grantedOn, Claim.holds, Claim.isHolder, Claim.holding, Bool.or_eq_true,
    Bool.and_eq_true, decide_eq_true_eq]
  cases c.state <;> simp
  tauto

/-- Every move keeps the claim law. -/
theorem Claim.lawful_move {i : ClaimIdx} {c d : Claim} (hl : c.Lawful i) (h : Claim.Move arms i c d) : d.Lawful i := by
  obtain ⟨hfree, howner, hout, hheld, hchain⟩ := hl
  cases h with
  | draft p q =>
    by_cases hf : c.state = .free
    · rw [hfree hf]
      simp [Claim.draft, Claim.Lawful, Claim.free, Params.zero]
    · simp only [Claim.draft, if_neg hf]
      exact ⟨fun h => absurd h hf, howner, hout, hheld, hchain⟩
  | arm hf hok _ =>
    refine ⟨by simp [Claim.armed], fun _ => howner hf, by simp [Claim.armed], by simp [Claim.armed], fun t ht => ?_⟩
    have hfo : c.staged.followOn = some t := ht
    simpa [Params.chainOk, hfo] using hok
  | alter x hf => exact ⟨fun h => absurd h hf, howner, hout, hheld, hchain⟩
  | second =>
    unfold Claim.second
    split
    next hs => exact ⟨by simp [hs], howner, hout, by simp [hs], hchain⟩
    next hs =>
      split
      · exact ⟨hfree, howner, hout, hheld, hchain⟩
      · exact ⟨by simp [hs], howner, hout, by simp [hs], hchain⟩
    all_goals exact ⟨hfree, howner, hout, hheld, hchain⟩
  | hold hh =>
    obtain ⟨hs, hd⟩ := (Claim.isHoldable_iff c).1 hh
    exact ⟨by simp, fun _ => howner (by simp [hs]), by simpa [hs] using hout, fun _ => hd, hchain⟩
  | resume clock hs =>
    exact ⟨by simp [Claim.grantedAt], fun _ => howner (by simp [hs]), by simpa [Claim.grantedAt, hs] using hout,
      by simp [Claim.grantedAt], hchain⟩
  | finish why hf hw =>
    exact ⟨by simp, fun _ => howner (Claim.state_ne_free_of_inForce hf), by simpa using hw, by simp, hchain⟩
  | free => exact Claim.lawful_free i _

theorem Claim.lawful_moves {i : ClaimIdx} {c d : Claim} (hl : c.Lawful i) (h : Claim.Moves arms i c d) :
    d.Lawful i := by
  induction h with
  | refl => exact hl
  | tail _ hm ih => exact Claim.lawful_move ih hm

/-- A grant keeps the claim law (R17). -/
theorem Claim.lawful_grantedAt {i : ClaimIdx} {c : Claim} (hl : c.Lawful i) (hs : c.state = .pending) (clock : Word) :
    (c.grantedAt clock).Lawful i := by
  obtain ⟨-, howner, hout, -, hchain⟩ := hl
  exact ⟨by simp [Claim.grantedAt], fun _ => howner (by simp [hs]), by simpa [Claim.grantedAt, hs] using hout,
    by simp [Claim.grantedAt], hchain⟩

/-- The PENDING claim that a yield leaves keeps the claim law (R14). -/
theorem Claim.lawful_yielded {i : ClaimIdx} {c : Claim} (hl : c.Lawful i) (hf : c.inForce = true) :
    ({ c with state := .pending, yielded := true } : Claim).Lawful i := by
  obtain ⟨-, howner, hout, -, hchain⟩ := hl
  have hne : c.state ≠ .ended := fun h => by simp [Claim.inForce, h] at hf
  exact ⟨by simp, fun _ => howner (Claim.state_ne_free_of_inForce hf), by simpa [hne] using hout, by simp, hchain⟩

/-! ## The claim table -/

theorem State.Calm.claimsLawful {s t : State} (h : s.Calm arms t) (hl : s.ClaimsLawful) : t.ClaimsLawful :=
  fun i => Claim.lawful_moves (hl i) (h.moves i)

theorem State.claimsLawful_congr {s t : State} (h : t.claims = s.claims) (hl : s.ClaimsLawful) : t.ClaimsLawful :=
  fun i => State.claim_congr h i ▸ hl i

theorem State.claimsLawful_setClaim {s : State} {i : ClaimIdx} {c : Claim} (hl : s.ClaimsLawful) (hc : c.Lawful i) :
    (s.setClaim i c).ClaimsLawful := by
  intro j
  rw [State.claim_setClaim]
  split
  next h => exact h ▸ hc
  next => exact hl j

/-- No arming is ruled out. -/
def anyArming (_ : ClaimIdx) (_ : Word) : Prop := True

/-- What a grant request makes of the claim table, before the event is concluded (R17, R31, R52). -/
theorem State.takeGrant_eq (s : State) (i : ClaimIdx) (n : Word) :
    ∃ u : State, u.claims = s.claims ∧ u.arbiter = { s.arbiter with requests := s.arbiter.requests.tail, handover := none } ∧
      u.tuning = s.tuning ∧
      s.takeGrant i n = (if u.grantApplies i n = true then u.enterGranted i else u).conclude s :=
  ⟨{ s.dropRequest with arbiter := { s.dropRequest.arbiter with handover := none } }, rfl, rfl, rfl, rfl⟩

theorem State.grantApplies_iff (s : State) (i : ClaimIdx) (n : Word) :
    s.grantApplies i n = true ↔
      (s.claim i).state = .pending ∧ (s.claim i).arming = n ∧ s.grantChecks (s.claim i) = true := by
  simp [State.grantApplies, and_assoc]

/-- A claim that enters GRANTED from PENDING keeps the claim law (R17). -/
theorem State.claimsLawful_enterGranted {s : State} (hl : s.ClaimsLawful) {i : ClaimIdx}
    (hs : (s.claim i).state = .pending) : (s.enterGranted i).ClaimsLawful :=
  State.claimsLawful_congr (s := s.setClaim i ((s.claim i).grantedAt s.sensors.clock)) (by simp)
    (State.claimsLawful_setClaim hl (Claim.lawful_grantedAt (hl i) hs _))

theorem State.claimsLawful_takeGrant {s : State} (hl : s.ClaimsLawful) (i : ClaimIdx) (n : Word) :
    (s.takeGrant i n).ClaimsLawful := by
  obtain ⟨u, hu, -, -, ht⟩ := s.takeGrant_eq i n
  have hul : u.ClaimsLawful := State.claimsLawful_congr hu hl
  rw [ht]
  refine (State.calm_conclude (arms := anyArming) _ s).claimsLawful ?_
  split
  next h => exact State.claimsLawful_enterGranted hul ((u.grantApplies_iff i n).1 h).1
  next => exact hul

/-- The holder takes a yield: the end PREEMPTED, or PENDING again with the mark (R14). -/
theorem State.claimsLawful_applyYield {s : State} (hl : s.ClaimsLawful) (i : ClaimIdx)
    (hf : (s.claim i).inForce = true) : (s.applyYield i).ClaimsLawful := by
  unfold State.applyYield
  simp only
  split
  · exact (s.calm_endClaim (arms := anyArming) i .preempted hf (by simp) (by simp)).claimsLawful hl
  · exact State.claimsLawful_congr (by simp) (State.claimsLawful_setClaim hl (Claim.lawful_yielded (hl i) hf))

/-- What a yield request makes of the claim table, before the event is concluded (R14, R31, R32). -/
theorem State.takeYield_eq (s : State) (i : ClaimIdx) (d : Bool) :
    ∃ u : State, u.claims = s.claims ∧ u.arbiter.requests = s.arbiter.requests.tail ∧ u.tuning = s.tuning ∧
      s.takeYield i d = (if (s.claim i).isHolder = true then u.applyYield i else u).conclude s := by
  unfold State.takeYield
  simp only [show s.dropRequest.claim i = s.claim i from rfl]
  split
  · split
    · exact ⟨s.dropRequest.beginHandover (s.claim i), rfl, rfl, rfl, rfl⟩
    · exact ⟨s.dropRequest, rfl, rfl, rfl, rfl⟩
  · exact ⟨s.dropRequest, rfl, rfl, rfl, rfl⟩

theorem State.claimsLawful_takeYield {s : State} (hl : s.ClaimsLawful) (i : ClaimIdx) (d : Bool) :
    (s.takeYield i d).ClaimsLawful := by
  obtain ⟨u, hu, -, -, ht⟩ := s.takeYield_eq i d
  have hul : u.ClaimsLawful := State.claimsLawful_congr hu hl
  rw [ht]
  refine (State.calm_conclude (arms := anyArming) _ s).claimsLawful ?_
  split
  next h => exact State.claimsLawful_applyYield hul i (by rw [State.claim_congr hu]; exact Claim.inForce_of_isHolder h)
  next => exact hul

theorem State.claimsLawful_takeRequest {s : State} (hl : s.ClaimsLawful) : s.takeRequest.ClaimsLawful := by
  unfold State.takeRequest
  split
  · exact State.claimsLawful_takeGrant hl _ _
  · exact State.claimsLawful_takeYield hl _ _
  · exact hl

theorem State.claimsLawful_takeRequests (n : Nat) {s : State} (hl : s.ClaimsLawful) :
    (State.takeRequests n s).ClaimsLawful := by
  induction n generalizing s with
  | zero => exact hl
  | succ n ih => exact ih (State.claimsLawful_takeRequest hl)

@[simp] theorem State.takeBudgetWrites_claims (n : Nat) (s : State) : (State.takeBudgetWrites n s).claims = s.claims := by
  induction n generalizing s with
  | zero => rfl
  | succ n ih => exact (ih _).trans (by simp)

theorem State.claimsLawful_settleArbiter {s : State} (hl : s.ClaimsLawful) : s.settleArbiter.ClaimsLawful :=
  State.claimsLawful_congr (State.takeBudgetWrites_claims _ _) (State.claimsLawful_takeRequests _ hl)

/-! ## The data frame of a POKE, and reset -/

/-- All that the write of a data frame can do to the state: nothing, a write of an annotation, of a tuning value that is
not the budget, or of the budget at the arbiter between passes (R165, R172, log 13). -/
theorem State.pokeWrite_cases (s : State) (table entry w : Nat) (seq : Option Word) (value : Word) :
    (s.pokeWrite table entry w seq value).1 = s ∨
    (∃ k x hit, (s.pokeWrite table entry w seq value).1 = s.annotate k x hit) ∨
    (∃ k v, k ≠ 0 ∧ (s.pokeWrite table entry w seq value).1 = s.writeTuning k v) ∨
    (s.pokeWrite table entry w seq value).1 = s.settleArbiter ∨
    ∃ v, s.settleArbiter.budgetFits v = true ∧
      (s.pokeWrite table entry w seq value).1 = s.settleArbiter.applyBudget v := by
  unfold State.pokeWrite
  split
  · split
    next hk =>
      unfold State.pokeTuning
      split
      · exact .inl rfl
      next h _ =>
        split
        · exact .inl rfl
        · split
          · unfold State.pokeBudget
            simp only
            split
            next hb => exact .inr (.inr (.inr (.inr ⟨_, hb, rfl⟩)))
            next => exact .inr (.inr (.inr (.inl rfl)))
          next hne => exact .inr (.inr (.inl ⟨_, _, hne, rfl⟩))
    next => exact .inl rfl
  · split
    · unfold State.pokeBatch
      split
      · split
        · exact .inr (.inl ⟨_, _, _, rfl⟩)
        · exact .inl rfl
      · exact .inl rfl
    · exact .inl rfl

/-- The link's part of a data frame leaves every other block as the write left it. -/
theorem State.takeDataAt_frame (s : State) (table entry w : Nat) (seq : Option Word) (value : Word) :
    ∃ l, s.takeDataAt table entry w seq value = { (s.pokeWrite table entry w seq value).1 with link := l } := by
  unfold State.takeDataAt
  simp only
  split <;> exact ⟨_, rfl⟩

/-- A data frame leaves a state that the test passes, if the test does not look at the link and passes the state as it is
and what any write of the frame makes of it. -/
theorem execPokeDataFrame_next {P : State → Prop} (hlink : ∀ (s : State) l, P s → P { s with link := l }) {s : State}
    (hs : P s) (hw : ∀ table entry w seq value, P (s.pokeWrite table entry w seq value).1) (bits : List Bool) :
    ∃ t, execPokeDataFrame bits s = .next t ∧ P t := by
  refine takeFrame_next hs (fun _ _ => hlink s _ hs) fun frame run => hlink _ _ ?_
  unfold State.takeData
  split
  next table entry w seq _ =>
    obtain ⟨l, hl⟩ := s.takeDataAt_frame table entry w seq frame
    exact hl ▸ hlink _ l (hw table entry w seq frame)
  next => exact hs
  next => exact hs

theorem State.claimsLawful_pokeWrite {s : State} (hl : s.ClaimsLawful) (table entry w : Nat) (seq : Option Word)
    (value : Word) : (s.pokeWrite table entry w seq value).1.ClaimsLawful := by
  obtain h | ⟨k, x, hit, h⟩ | ⟨k, v, -, h⟩ | h | ⟨v, -, h⟩ := s.pokeWrite_cases table entry w seq value <;> rw [h]
  · exact hl
  · exact State.claimsLawful_congr (by simp) hl
  · exact State.claimsLawful_congr (by simp) hl
  · exact State.claimsLawful_settleArbiter hl
  · exact State.claimsLawful_congr (by simp) (State.claimsLawful_settleArbiter hl)

/-- The judging of the first samples is calm (R69). -/
theorem State.calm_judgeFirst (s : State) : s.Calm arms s.judgeFirst := by
  have hsettle : ∀ u : State, u.Calm arms u.settleOutputs := fun u =>
    u.calm_followLatch.trans (.of_eq (by simp [State.settleOutputs]) (by simp [State.settleOutputs])
      (by simp [State.settleOutputs]))
  unfold State.judgeFirst
  simp only
  refine .trans (.trans (.trans ?_ (State.calm_judgeReport _)) (State.calm_derivePlateBelow _)) (hsettle _)
  split
  · exact s.calm_judgeDisagreement
  · exact s.calm_judgeDisagreement.trans (State.calm_raise _ _)

/-- Every entry is FREE right after reset release (R1). -/
theorem claim_of_reset_table {s : State} (h : s.claims = Table.reset) (i : ClaimIdx) : s.claim i = .free 0 := by
  unfold State.claim
  rw [h]
  revert i
  decide

theorem State.claimsLawful_first (first : FirstSamples) (pending : List Instr) :
    (State.first first pending).ClaimsLawful :=
  fun i => by rw [claim_of_reset_table rfl i]; exact Claim.lawful_free i 0

/-- Every command keeps the claim law. -/
theorem exec_claimsLawful {s : State} (hl : s.ClaimsLawful) (c : Instr) : ∃ t, exec c s = .next t ∧ t.ClaimsLawful := by
  cases hc : movesThePass c with
  | false =>
    obtain ⟨t, ht, hcalm⟩ := exec_calm (arms := anyArming) s c hc fun _ => trivial
    exact ⟨t, ht, hcalm.claimsLawful hl⟩
  | true =>
    cases c with
    | resetRelease first =>
      exact ⟨_, rfl, (State.calm_judgeFirst (arms := anyArming) _).claimsLawful (State.claimsLawful_first first s.pending)⟩
    | budgetWrite =>
      show ∃ t, execBudgetWrite s = .next t ∧ t.ClaimsLawful
      unfold execBudgetWrite
      split
      · exact ⟨_, rfl, hl⟩
      · exact ⟨_, rfl, State.claimsLawful_congr (by simp) hl⟩
    | arbitrationPass together =>
      show ∃ t, execArbitrationPass together s = .next t ∧ t.ClaimsLawful
      unfold execArbitrationPass
      split
      · exact ⟨_, rfl, hl⟩
      · exact ⟨_, rfl, hl⟩
    | grant =>
      show ∃ t, execGrant s = .next t ∧ t.ClaimsLawful
      unfold execGrant
      split
      · exact ⟨_, rfl, State.claimsLawful_takeGrant hl _ _⟩
      · exact ⟨_, rfl, hl⟩
      · exact ⟨_, rfl, hl⟩
    | yield =>
      show ∃ t, execYield s = .next t ∧ t.ClaimsLawful
      unfold execYield
      split
      · exact ⟨_, rfl, State.claimsLawful_takeYield hl _ _⟩
      · exact ⟨_, rfl, hl⟩
      · exact ⟨_, rfl, hl⟩
    | pokeDataFrame bits =>
      exact execPokeDataFrame_next (fun _ _ h => h) hl (State.claimsLawful_pokeWrite hl) bits
    | _ => cases hc

/-- Settles O7: by the moves of one entry, which every command but those of the arbiter is made of. -/
theorem stepKeepsTheClaimLaw : Obligations.StepKeepsTheClaimLaw := by
  intro s t hl hstep
  cases hp : s.pending with
  | nil =>
    rw [step_nil s hp] at hstep
    cases hstep
    exact hl
  | cons c rest =>
    rw [step_cons s c rest hp] at hstep
    obtain ⟨u, hu, hul⟩ := exec_claimsLawful (s := s.withPending rest) hl c
    rw [hu] at hstep
    cases hstep
    exact hul

end Sys2Proof.Machine
end

section
/-! The power law and one holder (R26, R27) on the claim table with the requests that are still to be taken: a table asks for
no more than another, and whatever a calm command, a grant or a yield leaves asks for no more than the table with the
request taken at its most. -/

namespace Sys2Proof.Machine

variable {arms : ClaimIdx → Word → Prop}

/-! ## One entry asks for no more than another -/

/-- The entries weigh alike in the power law, now and after any request. -/
def Claim.SameWeight (c d : Claim) : Prop :=
  c.active.kind = d.active.kind ∧ c.active.target = d.active.target ∧ c.active.demand = d.active.demand ∧
    c.active.reduction = d.active.reduction ∧ c.arming = d.arming ∧
    (c.state = d.state ∨ (c.isHolder = true ∧ d.isHolder = true))

/-- The entry holds nothing, and no request that waits can grant it. -/
def Claim.Out (reqs : List Request) (i : ClaimIdx) (c : Claim) : Prop :=
  c.holding = false ∧ (c.state = .pending → .grant i c.arming ∉ reqs)

/-- The entry of index i asks for no more than another in its place, with these requests to be taken. -/
def Claim.Below (reqs : List Request) (i : ClaimIdx) (c d : Claim) : Prop := c.SameWeight d ∨ c.Out reqs i

theorem Claim.SameWeight.refl (c : Claim) : c.SameWeight c := ⟨rfl, rfl, rfl, rfl, rfl, .inl rfl⟩

theorem Claim.Below.refl (reqs : List Request) (i : ClaimIdx) (c : Claim) : c.Below reqs i c := .inl (.refl c)

/-- A holder is GRANTED or HELD. -/
theorem Claim.holding_of_isHolder {c : Claim} (h : c.isHolder = true) : c.holding = true := by
  simp only [Claim.isHolder, Bool.and_eq_true] at h
  exact h.2

/-- Entries of like weight hold an actuator or do not, both. -/
theorem Claim.SameWeight.isHolder {c d : Claim} (h : c.SameWeight d) : c.isHolder = d.isHolder := by
  obtain ⟨hk, -, -, -, -, hs | ⟨hc, hd⟩⟩ := h
  · simp [Claim.isHolder, Claim.holding, hk, hs]
  · rw [hc, hd]

/-- Entries of like weight that do not both hold an actuator are in one state. -/
theorem Claim.SameWeight.state {c d : Claim} (h : c.SameWeight d) (hc : c.isHolder = false) : c.state = d.state := by
  obtain ⟨-, -, -, -, -, hs | ⟨hh, -⟩⟩ := h
  · exact hs
  · rw [hc] at hh; cases hh

theorem Claim.Below.trans {reqs : List Request} {i : ClaimIdx} {c d e : Claim} (h : c.Below reqs i d)
    (k : d.Below reqs i e) : c.Below reqs i e := by
  obtain hcd | hout := h
  · obtain hde | hout := k
    · refine .inl ?_
      have hh := hcd.isHolder
      have hh' := hde.isHolder
      obtain ⟨h1, h2, h3, h4, h5, hs⟩ := hcd
      obtain ⟨k1, k2, k3, k4, k5, ks⟩ := hde
      refine ⟨h1.trans k1, h2.trans k2, h3.trans k3, h4.trans k4, h5.trans k5, ?_⟩
      obtain hs | ⟨hc, -⟩ := hs
      · obtain ks | ⟨hd, he⟩ := ks
        · exact .inl (hs.trans ks)
        · exact .inr ⟨hh.trans hd, he⟩
      · exact .inr ⟨hc, hh' ▸ hh ▸ hc⟩
    · refine .inr ?_
      have hd : d.isHolder = false := by simp [Claim.isHolder, hout.1]
      have hs : c.state = d.state := hcd.state (hcd.isHolder.trans hd)
      exact ⟨by simpa [Claim.holding, hs] using hout.1, fun hp => hcd.2.2.2.2.1 ▸ hout.2 (hs ▸ hp)⟩
  · exact .inr hout

theorem Claim.Below.mono {reqs reqs' : List Request} (h : ∀ r ∈ reqs', r ∈ reqs) {i : ClaimIdx} {c d : Claim}
    (hb : c.Below reqs i d) : c.Below reqs' i d :=
  hb.imp_right fun ho => ⟨ho.1, fun hp hm => ho.2 hp (h _ hm)⟩

/-- An entry that is not in force is out, whatever waits. -/
theorem Claim.out_of_not_inForce {reqs : List Request} {i : ClaimIdx} {c : Claim} (h : c.inForce = false) :
    c.Out reqs i := by
  cases hs : c.state <;> simp_all [Claim.inForce, Claim.Out, Claim.holding]

/-- An entry asks for no more after a move, if an arming is of no number for which a grant waits. -/
theorem Claim.below_move {reqs : List Request} {i : ClaimIdx} {c d : Claim}
    (ha : ∀ n, arms i n → .grant i (n + 1) ∉ reqs) (hl : c.Lawful i) (h : Claim.Move arms i c d) : d.Below reqs i c := by
  cases h with
  | draft p q =>
    by_cases hf : c.state = .free
    · exact .inr (Claim.out_of_not_inForce (by simp [Claim.draft, hf, Claim.inForce]))
    · simp only [Claim.draft, if_neg hf]
      exact .inl ⟨rfl, rfl, rfl, rfl, rfl, .inl rfl⟩
  | arm _ _ harm => exact .inr ⟨by simp [Claim.armed, Claim.holding], fun _ => ha _ harm⟩
  | alter x _ => exact .inl ⟨rfl, rfl, rfl, rfl, rfl, .inl rfl⟩
  | second =>
    unfold Claim.second
    split
    next => exact .inl ⟨rfl, rfl, rfl, rfl, rfl, .inl rfl⟩
    next => split <;> exact .inl ⟨rfl, rfl, rfl, rfl, rfl, .inl rfl⟩
    all_goals exact .refl reqs i c
  | hold hh =>
    obtain ⟨hs, hk, -⟩ := (Claim.isHoldable_iff c).1 hh
    exact .inl ⟨rfl, rfl, rfl, rfl, rfl, .inr (by simp [Claim.isHolder, Claim.holding, hs, hk])⟩
  | resume clock hs =>
    obtain ⟨-, -, -, hheld, -⟩ := hl
    exact .inl ⟨rfl, rfl, rfl, rfl, rfl, .inr (by simp [Claim.isHolder, Claim.holding, Claim.grantedAt, hs, (hheld hs).1])⟩
  | finish why _ _ => exact .inr (Claim.out_of_not_inForce (by simp [Claim.inForce]))
  | free => exact .inr (Claim.out_of_not_inForce (by simp [Claim.inForce, Claim.free]))

theorem Claim.below_moves {reqs : List Request} {i : ClaimIdx} {c d : Claim}
    (ha : ∀ n, arms i n → .grant i (n + 1) ∉ reqs) (hl : c.Lawful i) (h : Claim.Moves arms i c d) : d.Below reqs i c := by
  induction h with
  | refl => exact .refl reqs i c
  | tail hms hm ih => exact (Claim.below_move ha (Claim.lawful_moves hl hms) hm).trans ih

/-! ## One table asks for no more than another -/

/-- Every entry of the table asks for no more than that of the other. -/
def Table.Below (reqs : List Request) (t u : Table) : Prop := ∀ i, (t.get i).Below reqs i (u.get i)

theorem sum_map_all16_le {f g : Fin 16 → Nat} (h : ∀ i, f i ≤ g i) : (all16.map f).sum ≤ (all16.map g).sum := by
  induction all16 with
  | nil => simp
  | cons a l ih =>
    simp only [List.map_cons, List.sum_cons]
    exact Nat.add_le_add (h a) ih

theorem Claim.Below.holds {reqs : List Request} {i : ClaimIdx} {c d : Claim} (h : c.Below reqs i d) {a : Target}
    (hc : c.holds a = true) : d.holds a = true := by
  simp only [Claim.holds, Bool.and_eq_true, decide_eq_true_eq] at hc ⊢
  obtain hs | hout := h
  · exact ⟨hs.isHolder ▸ hc.1, hs.2.1 ▸ hc.2⟩
  · exact absurd (Claim.holding_of_isHolder hc.1) (by simp [hout.1])

/-- A table that asks for no more fits where the other does (R26, R27). -/
theorem Table.Below.fits {reqs : List Request} {t u : Table} (h : t.Below reqs u) {budget : Nat} (hu : u.Fits budget) :
    t.Fits budget := by
  obtain ⟨hone, hsum⟩ := hu
  refine ⟨fun a i j hi hj => hone a i j ((h i).holds hi) ((h j).holds hj), le_trans (Nat.add_le_add ?_ ?_) hsum⟩
  · refine sum_map_all16_le fun i => ?_
    obtain hs | hout := h i
    · rw [hs.isHolder, hs.2.2.1]
    · simp [Claim.isHolder, hout.1]
  · refine sum_map_all16_le fun i => ?_
    obtain hs | hout := h i
    · cases hc : (t.get i).curbInForce with
      | false => simp
      | true =>
        simp only [Claim.curbInForce, Bool.and_eq_true, decide_eq_true_eq] at hc
        have hstate := hs.state (by simp [Claim.isHolder, hc.1])
        simp [Claim.curbInForce, ← hs.1, ← hstate, hc.1, hc.2, hs.2.2.2.1]
    · have : (t.get i).state ≠ .granted := fun hg => by simp [Claim.Out, Claim.holding, hg] at hout
      simp [Claim.curbInForce, this]

/-- An entry of a table after one entry is replaced. -/
theorem Table.get_set (t : Table) (i j : Fin 16) (c : Claim) : (t.set i c).get j = if i = j then c else t.get j := by
  show (t.set (i : Nat) c i.isLt)[(j : Nat)] = if i = j then c else t[(j : Nat)]
  rw [Vector.getElem_set]
  simp only [Fin.ext_iff]

/-- An entry after a request taken at its most, by the entry alone. -/
def Claim.afterRequest (c : Claim) (j : ClaimIdx) : Request → Claim
  | .yield i _ => if i = j ∧ c.isHolder = true then { c with state := .pending } else c
  | .grant i n => if i = j ∧ c.state = .pending ∧ c.arming = n then { c with state := .granted } else c

theorem Claim.afterRequest_yield (c : Claim) (i j : ClaimIdx) (d : Bool) : c.afterRequest j (.yield i d) =
    if i = j ∧ c.isHolder = true then { c with state := .pending } else c := rfl

theorem Claim.afterRequest_grant (c : Claim) (i j : ClaimIdx) (n : Word) : c.afterRequest j (.grant i n) =
    if i = j ∧ c.state = .pending ∧ c.arming = n then { c with state := .granted } else c := rfl

theorem Table.get_after (t : Table) (r : Request) (j : ClaimIdx) : (t.after r).get j = (t.get j).afterRequest j r := by
  cases r with
  | yield i d =>
    rw [Claim.afterRequest_yield]
    simp only [Table.after]
    split
    next h => rw [Table.get_set]; by_cases hij : i = j <;> simp [hij]; simp [← hij, h]
    next h => rw [if_neg]; rintro ⟨rfl, h'⟩; exact h h'
  | grant i n =>
    rw [Claim.afterRequest_grant]
    simp only [Table.after]
    split
    next h => rw [Table.get_set]; by_cases hij : i = j <;> simp [hij]; simp [← hij, h]
    next h => rw [if_neg]; rintro ⟨rfl, h'⟩; exact h h'

/-- The same request leaves of an entry that asks for no more one that asks for no more. -/
theorem Claim.Below.afterRequest {r : Request} {rest : List Request} {j : ClaimIdx} {c d : Claim}
    (h : c.Below (r :: rest) j d) : (c.afterRequest j r).Below rest j (d.afterRequest j r) := by
  obtain hs | hout := h
  · refine .inl ?_
    have hh := hs.isHolder
    obtain ⟨h1, h2, h3, h4, h5, hstate⟩ := hs
    cases r with
    | yield i d' =>
      rw [Claim.afterRequest_yield, Claim.afterRequest_yield, hh]
      split
      · exact ⟨h1, h2, h3, h4, h5, .inl rfl⟩
      · exact ⟨h1, h2, h3, h4, h5, hstate⟩
    | grant i n =>
      have hp : c.state = .pending ↔ d.state = .pending := by
        obtain hstate | ⟨hc, hd⟩ := hstate
        · rw [hstate]
        · have hc' := Claim.holding_of_isHolder hc
          have hd' := Claim.holding_of_isHolder hd
          constructor <;> intro hst <;> simp_all [Claim.holding]
      rw [Claim.afterRequest_grant, Claim.afterRequest_grant]
      by_cases hg : i = j ∧ d.state = .pending ∧ d.arming = n
      · rw [if_pos hg, if_pos ⟨hg.1, hp.2 hg.2.1, h5.trans hg.2.2⟩]
        exact ⟨h1, h2, h3, h4, h5, .inl rfl⟩
      · rw [if_neg hg, if_neg fun hc => hg ⟨hc.1, hp.1 hc.2.1, h5.symm.trans hc.2.2⟩]
        exact ⟨h1, h2, h3, h4, h5, hstate⟩
  · have hstands : c.afterRequest j r = c := by
      cases r with
      | yield i d' => simp [Claim.afterRequest, Claim.isHolder, hout.1]
      | grant i n =>
        rw [Claim.afterRequest_grant, if_neg]
        rintro ⟨rfl, hp, rfl⟩
        exact hout.2 hp (by simp)
    rw [hstands]
    exact .inr ⟨hout.1, fun hp hm => hout.2 hp (by simp [hm])⟩

/-- A table that asks for no more fits through the requests where the other does. -/
theorem Table.FitsThrough.below {budget : Nat} {reqs : List Request} : ∀ {t u : Table}, t.Below reqs u →
    Table.FitsThrough budget u reqs → Table.FitsThrough budget t reqs := by
  induction reqs with
  | nil => intro t u h hu; exact h.fits hu
  | cons r rest ih =>
    intro t u h hu
    refine ⟨h.fits hu.1, ih (fun j => ?_) hu.2⟩
    rw [Table.get_after, Table.get_after]
    exact (h j).afterRequest

/-! ## Calm commands -/

/-- A calm event keeps the power law, if what it arms is of no number for which a grant waits. -/
theorem State.Calm.powerLawful {s t : State} (h : s.Calm arms t)
    (ha : ∀ i n, arms i n → .grant i (n + 1) ∉ s.arbiter.requests) (hl : s.ClaimsLawful) (hp : s.PowerLawful) :
    t.PowerLawful := by
  obtain ⟨hfits, hnodup⟩ := hp
  refine ⟨?_, by rw [h.requests]; exact hnodup⟩
  rw [h.requests, h.budget]
  exact .below (fun i => Claim.below_moves (ha i) (hl i) (h.moves i)) hfits

/-- No arming at all. -/
def noArming (_ : ClaimIdx) (_ : Word) : Prop := False

theorem State.powerLawful_conclude {s old : State} (hl : s.ClaimsLawful) (hp : s.PowerLawful) :
    (s.conclude old).PowerLawful :=
  (s.calm_conclude (arms := noArming) old).powerLawful (fun _ _ h => h.elim) hl hp

/-! ## The requests of the pass, taken -/

/-- A state whose table asks for no more than the earlier one with its first request taken, and that has dropped that
request, keeps the power law. -/
theorem State.powerLawful_of_taken {s t : State} {r : Request} {rest : List Request} (hr : s.arbiter.requests = r :: rest)
    (ht : t.arbiter.requests = rest) (hb : t.tuning = s.tuning) (hp : s.PowerLawful)
    (h : ∀ j, (t.claim j).Below rest j ((s.claim j).afterRequest j r)) : t.PowerLawful := by
  obtain ⟨hfits, hnodup⟩ := hp
  rw [hr] at hfits hnodup
  refine ⟨?_, ?_⟩
  · rw [ht]
    unfold State.budget
    rw [hb]
    refine .below (fun j => ?_) hfits.2
    rw [Table.get_after]
    exact h j
  · rw [ht]
    exact hnodup.sublist ((List.sublist_cons_self r rest).filterMap _)

theorem State.powerLawful_takeGrant {s : State} (hl : s.ClaimsLawful) (hp : s.PowerLawful) {i : ClaimIdx} {n : Word}
    {rest : List Request} (hr : s.arbiter.requests = .grant i n :: rest) : (s.takeGrant i n).PowerLawful := by
  obtain ⟨u, hu, harb, htun, ht⟩ := s.takeGrant_eq i n
  have hul : u.ClaimsLawful := State.claimsLawful_congr hu hl
  have hreq : u.arbiter.requests = rest := by rw [harb, hr]; rfl
  have hnone : ∀ m, .grant i m ∉ rest := by
    intro m hm
    have hnodup := hp.2
    rw [hr] at hnodup
    exact (List.nodup_cons.1 hnodup).1 (List.mem_filterMap.2 ⟨_, hm, rfl⟩)
  rw [ht]
  split
  next happ =>
    obtain ⟨hstate, harm, -⟩ := (u.grantApplies_iff i n).1 happ
    refine State.powerLawful_conclude (State.claimsLawful_enterGranted hul hstate)
      (State.powerLawful_of_taken hr (by simpa using hreq) (by simpa using htun) hp fun j => ?_)
    rw [State.claim_enterGranted]
    rw [State.claim_congr hu] at hstate harm
    by_cases hij : i = j
    · subst hij
      rw [if_pos rfl, Claim.afterRequest_grant, if_pos ⟨rfl, hstate, harm⟩, State.claim_congr hu]
      exact .inl ⟨rfl, rfl, rfl, rfl, rfl, .inl rfl⟩
    · simp only [hij, if_false, Claim.afterRequest, false_and, State.claim_congr hu]
      exact .refl _ _ _
  next =>
    refine State.powerLawful_conclude hul (State.powerLawful_of_taken hr hreq htun hp fun j => ?_)
    rw [State.claim_congr hu, Claim.afterRequest_grant]
    split
    next h =>
      obtain ⟨rfl, hstate, -⟩ := h
      exact .inr ⟨by simp [Claim.holding, hstate], fun _ => hnone _⟩
    next => exact .refl _ _ _

/-- The entries after a yield has been applied (R14). -/
theorem State.claim_applyYield (s : State) (i j : ClaimIdx) :
    (s.applyYield i).claim j = if i = j then (s.claim i).afterYield else s.claim j := by
  unfold State.applyYield Claim.afterYield
  simp only
  split
  next =>
    rw [State.claim_endClaim]
    by_cases hij : i = j <;> by_cases ho : (s.claim i).active.oneShot = true <;>
      simp [hij, ho, State.claim_setClaim, Claim.finished]
  next =>
    rw [State.claim_postOwner, State.claim_setClaim]

/-- What a yield leaves asks for no more than the PENDING claim that it leaves at the most. -/
theorem Claim.below_afterYield (reqs : List Request) (i : ClaimIdx) (c : Claim) :
    c.afterYield.Below reqs i { c with state := .pending } := by
  unfold Claim.afterYield
  split
  · split
    · exact .inr (Claim.out_of_not_inForce (by simp [Claim.inForce, Claim.free]))
    · exact .inr (Claim.out_of_not_inForce (by simp [Claim.inForce]))
  · exact .inl ⟨rfl, rfl, rfl, rfl, rfl, .inl rfl⟩

theorem State.powerLawful_takeYield {s : State} (hl : s.ClaimsLawful) (hp : s.PowerLawful) {i : ClaimIdx} {d : Bool}
    {rest : List Request} (hr : s.arbiter.requests = .yield i d :: rest) : (s.takeYield i d).PowerLawful := by
  obtain ⟨u, hu, hreq, htun, ht⟩ := s.takeYield_eq i d
  have hul : u.ClaimsLawful := State.claimsLawful_congr hu hl
  have hreq : u.arbiter.requests = rest := by rw [hreq, hr]; rfl
  rw [ht]
  split
  next hh =>
    have hf : (u.claim i).inForce = true := by rw [State.claim_congr hu]; exact Claim.inForce_of_isHolder hh
    refine State.powerLawful_conclude (State.claimsLawful_applyYield hul i hf)
      (State.powerLawful_of_taken hr (by simpa using hreq) (by simpa using htun) hp fun j => ?_)
    rw [State.claim_applyYield]
    simp only [State.claim_congr hu]
    by_cases hij : i = j
    · subst hij
      rw [if_pos rfl, Claim.afterRequest_yield, if_pos ⟨rfl, hh⟩]
      exact Claim.below_afterYield rest i _
    · simp only [hij, if_false, Claim.afterRequest, false_and]
      exact .refl _ _ _
  next hh =>
    refine State.powerLawful_conclude hul (State.powerLawful_of_taken hr hreq htun hp fun j => ?_)
    rw [State.claim_congr hu, Claim.afterRequest_yield, if_neg]
    · exact .refl _ _ _
    · rintro ⟨rfl, h⟩
      exact hh h

theorem State.powerLawful_takeRequest {s : State} (hl : s.ClaimsLawful) (hp : s.PowerLawful) :
    s.takeRequest.PowerLawful := by
  unfold State.takeRequest
  split
  next hr => exact State.powerLawful_takeGrant hl hp hr
  next hr => exact State.powerLawful_takeYield hl hp hr
  next => exact hp

/-- A request that has been taken is no longer to be taken (R31). -/
theorem State.takeRequest_requests (s : State) : s.takeRequest.arbiter.requests = s.arbiter.requests.tail := by
  unfold State.takeRequest
  split
  next i n _ _ =>
    obtain ⟨u, -, harb, -, ht⟩ := s.takeGrant_eq i n
    rw [ht, State.conclude_arbiter]
    split <;> simp [harb]
  next i d _ _ =>
    obtain ⟨u, -, hreq, -, ht⟩ := s.takeYield_eq i d
    rw [ht, State.conclude_arbiter]
    split <;> simp [hreq]
  next h => rw [h]; rfl

theorem State.takeRequests_requests (n : Nat) (s : State) :
    (State.takeRequests n s).arbiter.requests = s.arbiter.requests.drop n := by
  induction n generalizing s with
  | zero => rfl
  | succ n ih =>
    show (State.takeRequests n s.takeRequest).arbiter.requests = _
    rw [ih, State.takeRequest_requests, List.drop_tail]

theorem State.powerLawful_takeRequests (n : Nat) {s : State} (hl : s.ClaimsLawful) (hp : s.PowerLawful) :
    (State.takeRequests n s).PowerLawful := by
  induction n generalizing s with
  | zero => exact hp
  | succ n ih => exact ih (State.claimsLawful_takeRequest hl) (State.powerLawful_takeRequest hl hp)

/-! ## Budget writes (R172) -/

/-- The budget replaced at the arbiter leaves the requests and the claim table alone. -/
@[simp] theorem State.applyBudget_requests (s : State) (v : Nat) :
    (s.applyBudget v).arbiter.requests = s.arbiter.requests := by
  unfold State.applyBudget
  rw [State.reportPass_requests]

@[simp] theorem State.applyBudget_budget (s : State) (v : Nat) : (s.applyBudget v).budget = v := by
  unfold State.applyBudget State.budget
  rw [State.reportPass_tuning]
  exact Vector.getElem_set_self ..

/-- A budget within which the table fits may replace the old one between passes (R172). -/
theorem State.powerLawful_applyBudget {s : State} (hp : s.PowerLawful) (hr : s.arbiter.requests = []) {v : Nat}
    (hv : s.budgetFits v = true) : (s.applyBudget v).PowerLawful := by
  obtain ⟨hfits, -⟩ := hp
  rw [hr] at hfits
  unfold State.PowerLawful
  rw [State.applyBudget_requests, State.applyBudget_budget, State.applyBudget_claims, hr]
  exact ⟨⟨hfits.1, by simpa [State.budgetFits] using hv⟩, List.nodup_nil⟩

/-- The power law depends on the claim table, the requests and the budget alone. -/
theorem State.powerLawful_congr {s t : State} (hc : t.claims = s.claims) (hr : t.arbiter.requests = s.arbiter.requests)
    (hb : t.tuning = s.tuning) (hp : s.PowerLawful) : t.PowerLawful := by
  unfold State.PowerLawful State.budget
  rw [hc, hr, hb]
  exact hp

theorem State.powerLawful_answer {s : State} (hp : s.PowerLawful) (p : Port) (st : Status) (data : List Byte) :
    (s.answer p st data).PowerLawful := State.powerLawful_congr rfl rfl rfl hp

/-- The oldest budget write taken between passes keeps the power law, and issues no request (R172). -/
theorem State.powerLawful_takeBudgetWrite {s : State} (hp : s.PowerLawful) (hr : s.arbiter.requests = []) :
    s.takeBudgetWrite.PowerLawful ∧ s.takeBudgetWrite.arbiter.requests = [] := by
  unfold State.takeBudgetWrite
  split
  next p v rest _ =>
    have hu : ({ s with arbiter := { s.arbiter with budgetWrites := rest } } : State).PowerLawful :=
      State.powerLawful_congr rfl rfl rfl hp
    unfold State.judgeBudget
    split
    next hv =>
      refine ⟨State.powerLawful_answer (State.powerLawful_applyBudget hu hr hv) _ _ _, ?_⟩
      rw [State.answer_arbiter, State.applyBudget_requests]
      exact hr
    next => exact ⟨State.powerLawful_congr rfl rfl rfl hp, hr⟩
  next => exact ⟨hp, hr⟩

theorem State.powerLawful_takeBudgetWrites (n : Nat) {s : State} (hp : s.PowerLawful) (hr : s.arbiter.requests = []) :
    (State.takeBudgetWrites n s).PowerLawful ∧ (State.takeBudgetWrites n s).arbiter.requests = [] := by
  induction n generalizing s with
  | zero => exact ⟨hp, hr⟩
  | succ n ih =>
    obtain ⟨hp', hr'⟩ := State.powerLawful_takeBudgetWrite hp hr
    exact ih hp' hr'

/-- The arbiter brought between passes keeps the power law, with no request left (log 13). -/
theorem State.powerLawful_settleArbiter {s : State} (hl : s.ClaimsLawful) (hp : s.PowerLawful) :
    s.settleArbiter.PowerLawful ∧ s.settleArbiter.arbiter.requests = [] :=
  State.powerLawful_takeBudgetWrites _ (State.powerLawful_takeRequests _ hl hp)
    (by rw [State.takeRequests_requests, List.drop_length])

theorem State.powerLawful_pokeWrite {s : State} (hl : s.ClaimsLawful) (hp : s.PowerLawful) (table entry w : Nat)
    (seq : Option Word) (value : Word) : (s.pokeWrite table entry w seq value).1.PowerLawful := by
  obtain ⟨hsp, hsr⟩ := State.powerLawful_settleArbiter hl hp
  obtain h | ⟨k, x, hit, h⟩ | ⟨k, v, hk, h⟩ | h | ⟨v, hv, h⟩ := s.pokeWrite_cases table entry w seq value <;> rw [h]
  · exact hp
  · exact State.powerLawful_congr (by simp) (by simp) (by simp) hp
  · exact (s.calm_writeTuning (arms := noArming) k v hk).powerLawful (fun _ _ h => h.elim) hl hp
  · exact hsp
  · exact State.powerLawful_applyBudget hsp hsr hv

end Sys2Proof.Machine
end

section
/-! A pass of the arbiter issues requests through which the claim table fits (R26, R27, R30 to R44): the reckoning fits
after each turn, and the table with the requests taken at their most is what the reckoning has made of it. -/

namespace Sys2Proof.Machine

/-! ## Sums over the table -/

/-- A sum over the entries after the value of one of them has changed. -/
theorem sum_map_all16_update {f g : Fin 16 → Nat} (i : Fin 16) (h : ∀ j, j ≠ i → f j = g j) :
    (all16.map f).sum + g i = (all16.map g).sum + f i := by
  obtain ⟨a, b, hl⟩ := List.append_of_mem (mem_all16 i)
  have hp := pairwise_all16
  rw [hl, List.pairwise_append, List.pairwise_cons] at hp
  obtain ⟨-, ⟨hb, -⟩, ha⟩ := hp
  have hfa : a.map f = a.map g := List.map_congr_left fun j hj => h j (ne_of_lt (ha j hj i (by simp)))
  have hfb : b.map f = b.map g := List.map_congr_left fun j hj => h j (ne_of_gt (hb j hj))
  rw [hl]
  simp only [List.map_append, List.map_cons, List.sum_append, List.sum_cons, hfa, hfb]
  omega

/-- What an entry adds to the granted sum. -/
def Claim.load (c : Claim) : Nat := if c.isHolder then c.active.demand else 0

/-- What an entry adds to the reductions in force. -/
def Claim.relief (c : Claim) : Nat := if c.curbInForce then c.active.reduction else 0

theorem Table.grantedSum_set (t : Table) (i : Fin 16) (c : Claim) :
    Table.grantedSum (t.set i c) + (t.get i).load = Table.grantedSum t + c.load := by
  have h := sum_map_all16_update (f := fun j => ((t.set i c).get j).load) (g := fun j => (t.get j).load) i
    fun j hj => by simp [Table.get_set, Ne.symm hj]
  simpa [Table.get_set, Table.grantedSum, Claim.load] using h

theorem Table.reductions_set (t : Table) (i : Fin 16) (c : Claim) :
    Table.reductions (t.set i c) + (t.get i).relief = Table.reductions t + c.relief := by
  have h := sum_map_all16_update (f := fun j => ((t.set i c).get j).relief) (g := fun j => (t.get j).relief) i
    fun j hj => by simp [Table.get_set, Ne.symm hj]
  simpa [Table.get_set, Table.reductions, Claim.relief] using h

/-! ## Yields in the reckoning -/

theorem Claim.isHolder_afterYield (c : Claim) : c.afterYield.isHolder = false := by
  unfold Claim.afterYield
  split
  · split <;> simp [Claim.isHolder, Claim.holding, Claim.free]
  · simp [Claim.isHolder, Claim.holding]

theorem Claim.curbInForce_afterYield (c : Claim) : c.afterYield.curbInForce = false := by
  unfold Claim.afterYield
  split
  · split <;> simp [Claim.curbInForce, Claim.free]
  · simp [Claim.curbInForce]

/-- A holder is no curb. -/
theorem Claim.curbInForce_of_isHolder {c : Claim} (h : c.isHolder = true) : c.curbInForce = false := by
  simp only [Claim.isHolder, Bool.and_eq_true, decide_eq_true_eq] at h
  simp [Claim.curbInForce, h.1]

/-- The entries after the yields of a list of different holders. -/
theorem Reckoning.claim_doYields (i : ClaimIdx) (l : List ClaimIdx) (hn : l.Nodup) : ∀ (v : Reckoning) (j : ClaimIdx),
    (v.doYields i l).claim j = if j ∈ l then (v.claim j).afterYield else v.claim j := by
  induction l with
  | nil => intro v j; rfl
  | cons h rest ih =>
    intro v j
    obtain ⟨hh, hrest⟩ := List.nodup_cons.1 hn
    show ((v.doYield i h).doYields i rest).claim j = _
    rw [ih hrest, Reckoning.claim_doYield]
    by_cases hj : h = j
    · subst hj
      simp [hh]
    · simp [hj, Ne.symm hj]

/-- The granted sum and the reductions after the yield of a holder (R30, R41). -/
theorem Reckoning.sums_doYield (v : Reckoning) (i h : ClaimIdx) (hh : (v.claim h).isHolder = true) :
    Table.grantedSum (v.doYield i h).claims + (v.claim h).active.demand = Table.grantedSum v.claims ∧
      Table.reductions (v.doYield i h).claims = Table.reductions v.claims := by
  have hsum : Table.grantedSum (v.doYield i h).claims + (v.claim h).load = _ + (v.claim h).afterYield.load :=
    Table.grantedSum_set v.claims h (v.claim h).afterYield
  have hred : Table.reductions (v.doYield i h).claims + (v.claim h).relief = _ + (v.claim h).afterYield.relief :=
    Table.reductions_set v.claims h (v.claim h).afterYield
  rw [Claim.load, if_pos hh, Claim.load, Claim.isHolder_afterYield] at hsum
  rw [Claim.relief, Claim.curbInForce_of_isHolder hh, Claim.relief, Claim.curbInForce_afterYield] at hred
  exact ⟨by simpa using hsum, by simpa using hred⟩

/-- The granted sum and the reductions after the grant of a PENDING claim (R30, R44). -/
theorem Reckoning.sums_doGrant (v : Reckoning) (i : ClaimIdx) (hp : (v.claim i).state = .pending) :
    Table.grantedSum (v.doGrant i).claims =
        Table.grantedSum v.claims + (if (v.claim i).active.kind = .drive then (v.claim i).active.demand else 0) ∧
      Table.reductions (v.doGrant i).claims =
        Table.reductions v.claims + (if (v.claim i).active.kind = .curb then (v.claim i).active.reduction else 0) := by
  have hsum : Table.grantedSum (v.doGrant i).claims + (v.claim i).load = _ + _ :=
    Table.grantedSum_set v.claims i { v.claim i with state := .granted }
  have hred : Table.reductions (v.doGrant i).claims + (v.claim i).relief = _ + _ :=
    Table.reductions_set v.claims i { v.claim i with state := .granted }
  constructor
  · simpa [Claim.load, Claim.isHolder, Claim.holding, hp] using hsum
  · simpa [Claim.relief, Claim.curbInForce, hp] using hred

/-- The granted sum and the reductions after the yields of different holders (R41). -/
theorem Reckoning.sums_doYields (i : ClaimIdx) (l : List ClaimIdx) (hn : l.Nodup) : ∀ (v : Reckoning),
    (∀ h ∈ l, (v.claim h).isHolder = true) →
    Table.grantedSum (v.doYields i l).claims + v.freedBy l = Table.grantedSum v.claims ∧
      Table.reductions (v.doYields i l).claims = Table.reductions v.claims := by
  induction l with
  | nil => intro v _; simp [Reckoning.doYields, Reckoning.freedBy]
  | cons h rest ih =>
    intro v hl
    obtain ⟨hh, hrest⟩ := List.nodup_cons.1 hn
    have hhold : (v.claim h).isHolder = true := hl h (by simp)
    have hstands : ∀ k ∈ rest, (v.doYield i h).claim k = v.claim k := fun k hk => by
      rw [Reckoning.claim_doYield, if_neg]; rintro rfl; exact hh hk
    obtain ⟨hsum, hred⟩ := ih hrest (v.doYield i h) fun k hk => by rw [hstands k hk]; exact hl k (by simp [hk])
    have hfreed : (v.doYield i h).freedBy rest = v.freedBy rest := by
      unfold Reckoning.freedBy
      rw [List.map_congr_left fun k hk => by rw [hstands k hk]]
    obtain ⟨hset, hset'⟩ := Reckoning.sums_doYield v i h hhold
    rw [hfreed] at hsum
    refine ⟨?_, hred.trans hset'⟩
    have hcons : v.freedBy (h :: rest) = (v.claim h).active.demand + v.freedBy rest := by simp [Reckoning.freedBy]
    show Table.grantedSum ((v.doYield i h).doYields i rest).claims + _ = _
    omega

/-! ## Admission (R41 to R43) -/

/-- The holder of the target that an admitted claim displaces (R42, R43). -/
theorem Reckoning.mem_displaced {v : Reckoning} {c : Claim} {h : ClaimIdx} (hm : h ∈ v.displaced c) :
    (v.claim h).holds c.active.target = true := by
  unfold Reckoning.displaced at hm
  split at hm
  · cases hm
  all_goals
    rw [Option.mem_toList] at hm
    exact (Table.holder_eq_some.1 hm).1

theorem Reckoning.nodup_displaced (v : Reckoning) (c : Claim) : (v.displaced c).Nodup := by
  unfold Reckoning.displaced
  split
  · exact List.nodup_nil
  all_goals
    cases Table.holder v.claims c.active.target <;> simp

theorem Claim.isHolder_of_holds {c : Claim} {a : Target} (h : c.holds a = true) : c.isHolder = true := by
  simp only [Claim.holds, Bool.and_eq_true] at h
  exact h.1

/-- The holders that yield for an admitted claim are different holders, the one of its target among them, and the claim
fits when they are gone (R41 to R44). -/
theorem Reckoning.admission_eq_some {v : Reckoning} {i : ClaimIdx} {l : List ClaimIdx} (h : v.admission i = some l) :
    l.Nodup ∧ (∀ k ∈ l, (v.claim k).isHolder = true) ∧ (∀ k ∈ v.displaced (v.claim i), k ∈ l) ∧
      v.fits (v.claim i) (v.freedBy l) = true := by
  unfold Reckoning.admission at h
  simp only [Option.map_eq_some_iff] at h
  obtain ⟨w, hw, rfl⟩ := h
  obtain ⟨k, -, rfl, hfit, -⟩ := (Reckoning.walk_eq_some v _ _ _ _).1 hw
  generalize hlist : (if (v.claim i).active.level.val < v.yieldLevel then
    v.yieldList (v.claim i).active.level (v.displaced (v.claim i)) else []) = list at hfit
  have hmem : ∀ j ∈ list, (v.claim j).isHolder = true ∧ j ∉ v.displaced (v.claim i) := by
    intro j hj
    rw [← hlist] at hj
    split at hj
    · obtain ⟨h1, -, -, h2⟩ := (Reckoning.mem_yieldList v _ _ j).1 hj
      exact ⟨h1, h2⟩
    · cases hj
  have hnodup : list.Nodup := by
    rw [← hlist]
    split
    · refine (Reckoning.pairwise_yieldList v _ _).imp fun hab heq => ?_
      subst heq
      rcases hab with hab | ⟨-, hab⟩ <;> exact lt_irrefl _ hab
    · exact List.nodup_nil
  refine ⟨?_, ?_, fun j hj => List.mem_append_left _ hj, ?_⟩
  · refine List.nodup_append.2 ⟨v.nodup_displaced _, hnodup.sublist (List.take_sublist _ _), ?_⟩
    rintro a ha b hb rfl
    exact (hmem a (List.mem_of_mem_take hb)).2 ha
  · intro j hj
    rcases List.mem_append.1 hj with hj | hj
    · exact Claim.isHolder_of_holds (Reckoning.mem_displaced hj)
    · exact (hmem j (List.mem_of_mem_take hj)).1
  · simpa [Reckoning.freedBy] using hfit

/-- No other claim holds the actuator of an eligible DRIVE claim when the holder that it displaces is gone (R34, R42). -/
theorem Reckoning.displaced_of_eligible {v : Reckoning} {i : ClaimIdx} (hone : Table.OneHolder v.claims)
    (he : v.eligible i = true) (hk : (v.claim i).active.kind = .drive) {j : ClaimIdx}
    (hj : (v.claim j).holds (v.claim i).active.target = true) : j ∈ v.displaced (v.claim i) := by
  have hbars : v.actuatorBars (v.claim i) = false := by
    simp only [Reckoning.eligible, hk, Bool.and_eq_true, Bool.not_eq_true'] at he
    exact he.2.2
  have hholder : Table.holder v.claims (v.claim i).active.target = some j :=
    Table.holder_eq_some.2 ⟨hj, fun k hk => le_of_eq (hone _ j k hj hk)⟩
  unfold Reckoning.displaced
  cases htarget : (v.claim i).active.target with
  | none => simp [Reckoning.actuatorBars, htarget] at hbars
  | heater | grinder | fan | latch =>
    rw [htarget] at hholder
    simp [hholder]

/-! ## A grant in the reckoning -/

/-- A reckoning in which the yields of an admitted claim count fits with the claim granted too (R42, R43). -/
theorem Reckoning.fits_doGrant {v : Reckoning} {i : ClaimIdx} {l : List ClaimIdx} (hfits : Table.Fits v.claims v.budget)
    (he : v.eligible i = true) (ha : v.admission i = some l) :
    Table.Fits ((v.doYields i l).doGrant i).claims v.budget := by
  obtain ⟨hone, hsum⟩ := hfits
  obtain ⟨hnodup, hholders, hdisp, hadm⟩ := Reckoning.admission_eq_some ha
  obtain ⟨hgranted, hreduced⟩ := Reckoning.sums_doYields i l hnodup v hholders
  have hpend : (v.claim i).state = .pending := by
    simp only [Reckoning.eligible, Bool.and_eq_true, decide_eq_true_eq] at he
    exact he.1.1
  have hi : i ∉ l := fun hm => by
    have := Claim.holding_of_isHolder (hholders i hm)
    simp [Claim.holding, hpend] at this
  have hclaim : ∀ j, (v.doYields i l).claim j = if j ∈ l then (v.claim j).afterYield else v.claim j :=
    Reckoning.claim_doYields i l hnodup v
  have hself : (v.doYields i l).claims.get i = v.claim i := (hclaim i).trans (if_neg hi)
  have hstill : ∀ a j, ((v.doYields i l).claim j).holds a = true → j ∉ l ∧ (v.claim j).holds a = true := by
    intro a j hj
    rw [hclaim] at hj
    split at hj
    · exact absurd (Claim.isHolder_of_holds hj) (by simp [Claim.isHolder_afterYield])
    next hm => exact ⟨hm, hj⟩
  have hother : ∀ a j, j ≠ i → (((v.doYields i l).doGrant i).claims.get j).holds a = true →
      ((v.doYields i l).claim j).holds a = true := by
    intro a j hj h
    have hget := Reckoning.claim_doGrant (v.doYields i l) i j
    rw [if_neg (Ne.symm hj)] at hget
    exact hget ▸ h
  have hmine : ((v.doYields i l).doGrant i).claims.get i = { v.claim i with state := .granted } :=
    (Reckoning.claim_doGrant _ i i).trans (by rw [if_pos rfl]; exact congrArg (fun c : Claim => { c with state := .granted }) hself)
  have halone : ∀ a j, j ≠ i → (({ v.claim i with state := .granted } : Claim)).holds a = true →
      (((v.doYields i l).doGrant i).claims.get j).holds a = true → False := by
    intro a j hj hh hja
    obtain ⟨hjl, hja⟩ := hstill a j (hother a j hj hja)
    simp only [Claim.holds, Claim.isHolder, Bool.and_eq_true, decide_eq_true_eq] at hh
    obtain ⟨⟨hk, -⟩, rfl⟩ := hh
    exact hjl (hdisp j (Reckoning.displaced_of_eligible hone he hk hja))
  refine ⟨fun a j k hj hk => ?_, ?_⟩
  · by_cases hji : j = i
    · by_cases hki : k = i
      · rw [hji, hki]
      · subst hji
        rw [hmine] at hj
        exact (halone a k hki hj hk).elim
    · by_cases hki : k = i
      · subst hki
        rw [hmine] at hk
        exact (halone a j hji hk hj).elim
      · exact hone a j k (hstill a j (hother a j hji hj)).2 (hstill a k (hother a k hki hk)).2
  · obtain ⟨hset, hset'⟩ := Reckoning.sums_doGrant (v.doYields i l) i
      (by rw [show (v.doYields i l).claim i = v.claim i from hself]; exact hpend)
    rw [show (v.doYields i l).claim i = v.claim i from hself] at hset hset'
    rw [hset, hset']
    cases hk : (v.claim i).active.kind with
    | drive =>
      simp only [Reckoning.fits, hk, decide_eq_true_eq] at hadm
      unfold Reckoning.effective at hadm
      simp only [reduceCtorEq, if_true, if_false]
      omega
    | curb =>
      simp only [Reckoning.fits, hk, decide_eq_true_eq] at hadm
      simp only [reduceCtorEq, if_true, if_false]
      omega

/-! ## The requests of a pass -/

/-- The table through a list of requests, one after the other, each taken at its most. -/
def Table.afterAll (t : Table) (l : List Request) : Table := l.foldl Table.after t

theorem Table.fitsThrough_append {budget : Nat} (l : List Request) (r : Request) : ∀ t : Table,
    Table.FitsThrough budget t (l ++ [r]) ↔
      Table.FitsThrough budget t l ∧ ((t.afterAll l).after r).Fits budget := by
  induction l with
  | nil => intro t; exact Iff.rfl
  | cons a l ih =>
    intro t
    show t.Fits budget ∧ Table.FitsThrough budget (t.after a) (l ++ [r]) ↔
      (t.Fits budget ∧ Table.FitsThrough budget (t.after a) l) ∧ (((t.after a).afterAll l).after r).Fits budget
    rw [ih]
    exact and_assoc.symm

/-- An entry of the table with the requests issued taken at their most, beside that of the reckoning: of like weight, or
holding nothing where the reckoning's is out of force. -/
def Claim.Tracks (c d : Claim) : Prop := c.SameWeight d ∨ (c.holding = false ∧ d.inForce = false)

/-- What a reckoning keeps in the course of a pass that began with this table and budget: the table fits through the
requests issued so far, and what they make of it is what the reckoning has made of it, which fits. -/
structure Reckoning.Through (t : Table) (budget : Nat) (v : Reckoning) : Prop where
  budget_eq : v.budget = budget
  through : Table.FitsThrough budget t v.issued
  tracks : ∀ j, ((t.afterAll v.issued).get j).Tracks (v.claim j)
  fits : Table.Fits v.claims budget

/-- A table that the reckoning tracks fits where the reckoning does. -/
theorem Reckoning.fits_of_tracks {t : Table} {budget : Nat} {v : Reckoning}
    (h : ∀ j, (t.get j).Tracks (v.claim j)) (hf : Table.Fits v.claims budget) : t.Fits budget := by
  have hb : Table.Below [] t v.claims := fun j => (h j).imp_right fun ho => ⟨ho.1, fun _ => List.not_mem_nil⟩
  exact hb.fits hf

theorem Table.afterAll_append (t : Table) (l : List Request) (r : Request) :
    t.afterAll (l ++ [r]) = (t.afterAll l).after r := by
  simp [Table.afterAll, List.foldl_append]

/-- A reckoning that goes on by one request, and tracks the table with that request taken, keeps what it kept. -/
theorem Reckoning.Through.step {t : Table} {budget : Nat} {v w : Reckoning} {r : Request} (h : v.Through t budget)
    (hb : w.budget = v.budget) (hi : w.issued = v.issued ++ [r]) (hf : Table.Fits w.claims budget)
    (ht : ∀ j, (((t.afterAll v.issued).get j).afterRequest j r).Tracks (w.claim j)) : w.Through t budget := by
  have htracks : ∀ j, (((t.afterAll v.issued).after r).get j).Tracks (w.claim j) := fun j => by
    rw [Table.get_after]; exact ht j
  refine ⟨hb.trans h.budget_eq, ?_, ?_, hf⟩
  · rw [hi, Table.fitsThrough_append]
    exact ⟨h.through, Reckoning.fits_of_tracks htracks hf⟩
  · rw [hi, Table.afterAll_append]
    exact htracks

/-- The yield of a holder in the reckoning keeps what a pass keeps (R14, R30). -/
theorem Reckoning.Through.doYield {t : Table} {budget : Nat} {v : Reckoning} (hv : v.Through t budget) (i h : ClaimIdx)
    (hh : (v.claim h).isHolder = true) : (v.doYield i h).Through t budget := by
  refine hv.step rfl rfl ?_ fun j => ?_
  · have hb : Table.Below [] (v.doYield i h).claims v.claims := fun j => by
      have hj := Reckoning.claim_doYield v i h j
      split at hj
      · exact .inr ⟨by rw [show (v.doYield i h).claims.get j = _ from hj]; unfold Claim.afterYield; split <;> [split; skip] <;> rfl,
          fun _ => List.not_mem_nil⟩
      · exact .inl (by rw [show (v.doYield i h).claims.get j = _ from hj]; exact .refl _)
    exact hb.fits hv.fits
  · rw [Reckoning.claim_doYield, Claim.afterRequest_yield]
    by_cases hj : h = j
    · subst hj
      obtain hs | ⟨-, ho⟩ := hv.tracks h
      · rw [if_pos ⟨rfl, hs.isHolder.trans hh⟩, if_pos rfl]
        unfold Claim.afterYield
        split
        · split
          · exact .inr ⟨rfl, rfl⟩
          · exact .inr ⟨rfl, rfl⟩
        · exact .inl ⟨hs.1, hs.2.1, hs.2.2.1, hs.2.2.2.1, hs.2.2.2.2.1, .inl rfl⟩
      · rw [Claim.inForce_of_isHolder hh] at ho
        cases ho
    · rw [if_neg fun h' => hj h'.1, if_neg hj]
      exact hv.tracks j

theorem Reckoning.Through.doYields {t : Table} {budget : Nat} (i : ClaimIdx) (l : List ClaimIdx) (hn : l.Nodup) :
    ∀ {v : Reckoning}, v.Through t budget → (∀ h ∈ l, (v.claim h).isHolder = true) →
    (v.doYields i l).Through t budget := by
  induction l with
  | nil => intro v hv _; exact hv
  | cons h rest ih =>
    intro v hv hl
    obtain ⟨hh, hrest⟩ := List.nodup_cons.1 hn
    refine ih hrest (hv.doYield i h (hl h (by simp))) fun k hk => ?_
    rw [Reckoning.claim_doYield, if_neg (by rintro rfl; exact hh hk)]
    exact hl k (by simp [hk])

/-- The grant of a PENDING claim in a reckoning that fits with it keeps what a pass keeps (R17, R30). -/
theorem Reckoning.Through.doGrant {t : Table} {budget : Nat} {v : Reckoning} (hv : v.Through t budget) (i : ClaimIdx)
    (hp : (v.claim i).state = .pending) (hf : Table.Fits (v.doGrant i).claims budget) :
    (v.doGrant i).Through t budget := by
  refine hv.step rfl rfl hf fun j => ?_
  rw [Reckoning.claim_doGrant, Claim.afterRequest_grant]
  by_cases hj : i = j
  · subst hj
    obtain hs | ⟨-, ho⟩ := hv.tracks i
    · have hnot : ((t.afterAll v.issued).get i).isHolder = false := by
        rw [hs.isHolder]; simp [Claim.isHolder, Claim.holding, hp]
      rw [if_pos ⟨rfl, (hs.state hnot).trans hp, hs.2.2.2.2.1⟩, if_pos rfl]
      exact .inl ⟨hs.1, hs.2.1, hs.2.2.1, hs.2.2.2.1, hs.2.2.2.2.1, .inl rfl⟩
    · simp [Claim.inForce, hp] at ho
  · rw [if_neg fun h => hj h.1, if_neg hj]
    exact hv.tracks j

/-- The grants that a reckoning has issued, in order. -/
def Reckoning.grants (v : Reckoning) : List ClaimIdx := v.issued.filterMap Request.granted

theorem Reckoning.grants_doYields (i : ClaimIdx) (l : List ClaimIdx) : ∀ v : Reckoning, (v.doYields i l).grants = v.grants := by
  induction l with
  | nil => intro v; rfl
  | cons h rest ih =>
    intro v
    show ((v.doYield i h).doYields i rest).grants = _
    rw [ih]
    simp [Reckoning.grants, Reckoning.doYield, Request.granted]

/-- What a pass keeps of its turns as well: every grant is that of a claim which has had its turn, and none comes twice
(R40). -/
def Reckoning.GrantsOnce (v : Reckoning) : Prop := v.grants.Nodup ∧ ∀ i ∈ v.grants, i ∈ v.turned

/-- The reckoning with the turn of a claim noted (R40). -/
def Reckoning.noted (v : Reckoning) (i : ClaimIdx) : Reckoning := { v with turned := i :: v.turned }

/-- All that a turn can do: a clearing yield, nothing, or the yields and the grant of an admitted claim (R39, R40, R44). -/
theorem Reckoning.turn_cases (v : Reckoning) (i : ClaimIdx) :
    (∃ h, (v.noted i).clears i = some h ∧ v.turn i = (v.noted i).doYield i h) ∨
    v.turn i = v.noted i ∨
    ∃ l, (v.noted i).clears i = none ∧ (v.noted i).admission i = some l ∧
      v.turn i = ((v.noted i).doYields i l).doGrant i := by
  have hturn : v.turn i = match (v.noted i).clears i with
      | some h => (v.noted i).doYield i h
      | none =>
        match (v.noted i).admission i with
        | some list => ((v.noted i).doYields i list).doGrant i
        | none => v.noted i := rfl
  rw [hturn]
  cases (v.noted i).clears i <;> cases (v.noted i).admission i <;> simp

/-- The holder of which a claim is entitled to a clearing yield is one (R39). -/
theorem Reckoning.isHolder_of_clears {v : Reckoning} {i h : ClaimIdx} (hc : v.clears i = some h) :
    (v.claim h).isHolder = true := by
  unfold Reckoning.clears at hc
  simp only at hc
  split at hc
  · split at hc
    next k hk =>
      split at hc
      · cases hc
        have hgr := ((find_all16 _ _).1 hk).1
        simp only [Claim.grantedOn, Bool.and_eq_true] at hgr
        exact Claim.isHolder_of_holds hgr.1
      · cases hc
    · cases hc
  · cases hc

theorem Reckoning.pending_of_eligible {v : Reckoning} {i : ClaimIdx} (he : v.eligible i = true) :
    (v.claim i).state = .pending := by
  simp only [Reckoning.eligible, Bool.and_eq_true, decide_eq_true_eq] at he
  exact he.1.1

/-- The yields and the grant of an admitted claim keep what a pass keeps (R42, R43, R44). -/
theorem Reckoning.Through.push {t : Table} {budget : Nat} {v : Reckoning} (hv : v.Through t budget) {i : ClaimIdx}
    {l : List ClaimIdx} (he : v.eligible i = true) (ha : v.admission i = some l) :
    ((v.doYields i l).doGrant i).Through t budget := by
  obtain ⟨hnodup, hholders, -, -⟩ := Reckoning.admission_eq_some ha
  have hpend := Reckoning.pending_of_eligible he
  have hi : (v.doYields i l).claim i = v.claim i := by
    rw [Reckoning.claim_doYields i l hnodup, if_neg]
    intro hm
    have := Claim.holding_of_isHolder (hholders i hm)
    simp [Claim.holding, hpend] at this
  refine (Reckoning.Through.doYields i l hnodup hv hholders).doGrant i (by rw [hi]; exact hpend) ?_
  have hf := Reckoning.fits_doGrant (by rw [hv.budget_eq]; exact hv.fits) he ha
  rwa [hv.budget_eq] at hf

/-- A turn of a candidate keeps what a pass keeps (R39, R40, R44). -/
theorem Reckoning.Through.turn {t : Table} {budget : Nat} {v : Reckoning} (hv : v.Through t budget) (hg : v.GrantsOnce)
    {i : ClaimIdx} (hc : v.candidate i = true) : (v.turn i).Through t budget ∧ (v.turn i).GrantsOnce := by
  simp only [Reckoning.candidate, Bool.and_eq_true, Bool.not_eq_true', List.contains_eq_mem,
    decide_eq_false_iff_not, Bool.or_eq_true] at hc
  obtain ⟨hturned, hmay⟩ := hc
  have hn : (v.noted i).Through t budget := ⟨hv.budget_eq, hv.through, hv.tracks, hv.fits⟩
  have hstill : ∀ w : Reckoning, w.grants = v.grants → w.turned = i :: v.turned → w.GrantsOnce := fun w hw ht =>
    ⟨hw ▸ hg.1, fun j hj => by rw [ht]; exact List.mem_cons_of_mem _ (hg.2 j (hw ▸ hj))⟩
  obtain ⟨h, hcl, heq⟩ | heq | ⟨l, hcl, ha, heq⟩ := v.turn_cases i <;> rw [heq]
  · exact ⟨hn.doYield i h (Reckoning.isHolder_of_clears hcl),
      hstill _ (Reckoning.grants_doYields i [h] (v.noted i)) rfl⟩
  · exact ⟨hn, hstill _ rfl rfl⟩
  · have he : (v.noted i).eligible i = true := by
      have hcl' : v.clears i = none := hcl
      have he' : v.eligible i = true := by simpa [hcl'] using hmay
      exact he'
    have hgrants : (((v.noted i).doYields i l).doGrant i).grants = v.grants ++ [i] := by
      have hy : ((v.noted i).doYields i l).grants = v.grants := Reckoning.grants_doYields i l (v.noted i)
      rw [← hy]
      simp [Reckoning.grants, Reckoning.doGrant, Request.granted]
    have hturn : (((v.noted i).doYields i l).doGrant i).turned = i :: v.turned :=
      (Reckoning.doYields_sameReading i l (v.noted i)).2
    refine ⟨hn.push he ha, ?_, fun j hj => ?_⟩
    · rw [hgrants, List.nodup_append]
      refine ⟨hg.1, by simp, ?_⟩
      rintro a ha b hb rfl
      exact hturned (List.mem_singleton.1 hb ▸ hg.2 a ha)
    · rw [hgrants, List.mem_append, List.mem_singleton] at hj
      rw [hturn]
      rcases hj with hj | rfl
      · exact List.mem_cons_of_mem _ (hg.2 j hj)
      · exact List.mem_cons_self

theorem Reckoning.Through.turns {t : Table} {budget : Nat} (n : Nat) : ∀ {v : Reckoning}, v.Through t budget →
    v.GrantsOnce → (Reckoning.turns n v).Through t budget ∧ (Reckoning.turns n v).GrantsOnce := by
  induction n with
  | zero => intro v hv hg; exact ⟨hv, hg⟩
  | succ n ih =>
    intro v hv hg
    unfold Reckoning.turns
    split
    next i hi =>
      obtain ⟨hv', hg'⟩ := hv.turn hg ((Reckoning.next_eq_some v i).1 hi).1
      exact ih hv' hg'
    next => exact ⟨hv, hg⟩

/-- A pass on a table that fits issues requests through which it fits, and grants no claim twice (R27, R40). -/
theorem State.powerLawful_pass {s : State} (hf : Table.Fits s.claims s.budget) :
    Table.FitsThrough s.budget s.claims s.pass.issued ∧ (s.pass.issued.filterMap Request.granted).Nodup := by
  have hbegin : s.reckoning.Through s.claims s.budget := ⟨rfl, hf, fun _ => .inl (.refl _), hf⟩
  obtain ⟨hv, hg⟩ := hbegin.turns 16 ⟨List.nodup_nil, fun _ h => absurd h List.not_mem_nil⟩
  exact ⟨hv.through, hg.1⟩

/-! ## Reset -/

/-- A table of FREE entries fits any budget (R1). -/
theorem Table.fits_of_free {t : Table} (h : ∀ i, t.get i = .free 0) (budget : Nat) : t.Fits budget := by
  refine ⟨fun a i j hi _ => ?_, ?_⟩
  · rw [h i] at hi
    simp [Claim.holds, Claim.isHolder, Claim.holding, Claim.free] at hi
  · have hsum : Table.grantedSum t = 0 ∧ Table.reductions t = 0 := by
      simp [Table.grantedSum, Table.reductions, h, Claim.isHolder, Claim.holding, Claim.curbInForce, Claim.free]
    omega

theorem State.powerLawful_of_reset_table {s : State} (hc : s.claims = Table.reset) (hr : s.arbiter.requests = []) :
    s.PowerLawful := by
  unfold State.PowerLawful
  rw [hr]
  exact ⟨Table.fits_of_free (claim_of_reset_table hc) _, List.nodup_nil⟩

/-! ## Every step -/

/-- Every command keeps the power law. -/
theorem exec_powerLawful {s : State} (hl : s.ClaimsLawful) (hp : s.PowerLawful) (hn : s.NoArmingReturns) (c : Instr) :
    ∃ t, exec c s = .next t ∧ t.PowerLawful := by
  cases hc : movesThePass c with
  | false =>
    obtain ⟨t, ht, hcalm⟩ := exec_calm (arms := fun i n => n = (s.claim i).arming) s c hc fun _ => rfl
    exact ⟨t, ht, hcalm.powerLawful (fun i n hi hm => hn i (n + 1) hm (by rw [hi])) hl hp⟩
  | true =>
    cases c with
    | resetRelease first =>
      exact ⟨_, rfl, (State.calm_judgeFirst (arms := noArming) _).powerLawful (fun _ _ h => h.elim)
        (State.claimsLawful_first first s.pending) (State.powerLawful_of_reset_table rfl rfl)⟩
    | budgetWrite =>
      show ∃ t, execBudgetWrite s = .next t ∧ t.PowerLawful
      unfold execBudgetWrite
      split
      · exact ⟨_, rfl, hp⟩
      next hu =>
        have hr : s.arbiter.requests = [] := by simpa [State.passUnderWay] using hu
        exact ⟨_, rfl, (State.powerLawful_takeBudgetWrite hp hr).1⟩
    | arbitrationPass together =>
      show ∃ t, execArbitrationPass together s = .next t ∧ t.PowerLawful
      unfold execArbitrationPass
      split
      next hd =>
        have hr : s.arbiter.requests = [] := by
          simp only [State.passUnderWay, Bool.and_eq_true, Bool.not_not, List.isEmpty_iff] at hd
          exact hd.2
        have hf := hp.1
        rw [hr] at hf
        exact ⟨_, rfl, State.powerLawful_pass hf⟩
      · exact ⟨_, rfl, hp⟩
    | grant =>
      show ∃ t, execGrant s = .next t ∧ t.PowerLawful
      unfold execGrant
      split
      next hr => exact ⟨_, rfl, State.powerLawful_takeGrant hl hp hr⟩
      · exact ⟨_, rfl, hp⟩
      · exact ⟨_, rfl, hp⟩
    | yield =>
      show ∃ t, execYield s = .next t ∧ t.PowerLawful
      unfold execYield
      split
      next hr => exact ⟨_, rfl, State.powerLawful_takeYield hl hp hr⟩
      · exact ⟨_, rfl, hp⟩
      · exact ⟨_, rfl, hp⟩
    | pokeDataFrame bits =>
      exact execPokeDataFrame_next (fun _ _ h => h) hp (State.powerLawful_pokeWrite hl hp) bits
    | _ => cases hc

/-- Settles O13: what a calm command, a grant or a yield leaves asks for no more than the table with the requests taken at
their most, and a pass issues requests through which the table fits. -/
theorem stepKeepsOneHolderAndThePowerLaw : Obligations.StepKeepsOneHolderAndThePowerLaw := by
  intro s t hl hp hn hstep
  cases hq : s.pending with
  | nil =>
    rw [step_nil s hq] at hstep
    cases hstep
    exact hp
  | cons c rest =>
    rw [step_cons s c rest hq] at hstep
    obtain ⟨u, hu, hup⟩ := exec_powerLawful (s := s.withPending rest) hl hp hn c
    rw [hu] at hstep
    cases hstep
    exact hup

end Sys2Proof.Machine
end

section
/-! What the ports' requests to the claim table write and refuse (R2 to R8, R11, R12), and the chamber clock at the claim
table (R22, R23, R75). -/

namespace Sys2Proof.Machine

/-! ## Selectors -/

theorem claimIndex_ofNat {b : Byte} {i : ClaimIdx} (h : b = BitVec.ofNat 8 i.val) : claimIndex b = some i := by
  have hb : b.toNat = i.val := by rw [h]; simp; omega
  unfold claimIndex
  rw [dif_pos (by omega)]
  exact congrArg some (Fin.ext hb)

theorem claimIndex_eq_some {b : Byte} {i : ClaimIdx} : claimIndex b = some i ↔ b.toNat = i.val := by
  unfold claimIndex
  split
  · simp [Fin.ext_iff]
  · simp only [reduceCtorEq, false_iff]
    omega

theorem claimIndex_eq_none {b : Byte} : claimIndex b = none ↔ 15 < b.toNat := by
  unfold claimIndex
  split
  · simp only [reduceCtorEq, false_iff]
    omega
  · simp only [true_iff]
    omega

/-- An index is not the selector of the lowest FREE entry. -/
theorem ofNat_index_ne {b : Byte} {i : ClaimIdx} (h : b = BitVec.ofNat 8 i.val) : b ≠ 255 := by
  intro h255
  have hb : b.toNat = i.val := by rw [h]; simp; omega
  have : b.toNat = 255 := by rw [h255]; rfl
  omega

theorem Table.lowestFree_eq_some {t : Table} {i : ClaimIdx} :
    Table.lowestFree t = some i ↔ (t.get i).state = .free ∧ ∀ j, (t.get j).state = .free → i ≤ j := by
  unfold Table.lowestFree
  rw [find_all16]
  simp

theorem Table.lowestFree_eq_none {t : Table} : Table.lowestFree t = none ↔ ∀ i, (t.get i).state ≠ .free := by
  simp [Table.lowestFree, mem_all16]

/-! ## The entry that a request names (R6, R8, R11, R12) -/

theorem State.draftEntry_of_index {s : State} {p : Port} {b : Byte} {i : ClaimIdx} (h : b = BitVec.ofNat 8 i.val) :
    s.draftEntry p b = if (s.claim i).state = .free ∨ (s.claim i).owner = some p then .ok i else .error .notOwner := by
  unfold State.draftEntry
  rw [if_neg (ofNat_index_ne h), claimIndex_ofNat h]

theorem State.draftEntry_out_of_range {s : State} {p : Port} {b : Byte} (h : 15 < b.toNat) (h255 : b ≠ 255) :
    s.draftEntry p b = .error .range := by
  unfold State.draftEntry
  rw [if_neg h255, claimIndex_eq_none.2 h]

theorem State.draftEntry_lowest {s : State} {p : Port} {i : ClaimIdx} (h : Table.lowestFree s.claims = some i) :
    s.draftEntry p 255 = .ok i := by
  unfold State.draftEntry
  rw [if_pos rfl, h]

theorem State.draftEntry_full {s : State} {p : Port} (h : Table.lowestFree s.claims = none) :
    s.draftEntry p 255 = .error .full := by
  unfold State.draftEntry
  rw [if_pos rfl, h]

theorem State.ownEntry_out_of_range {s : State} {p : Port} {b : Byte} (h : 15 < b.toNat) :
    s.ownEntry p b = .error .range := by
  unfold State.ownEntry
  rw [claimIndex_eq_none.2 h]

theorem State.ownEntry_of_index {s : State} {p : Port} {b : Byte} {i : ClaimIdx} (h : b = BitVec.ofNat 8 i.val) :
    s.ownEntry p b = if (s.claim i).state = .free then .error .state
      else if (s.claim i).owner = some p then .ok i else .error .notOwner := by
  unfold State.ownEntry
  rw [claimIndex_ofNat h]

/-! ## DRAFT (R6, R7) -/

theorem State.takeDraft_error {s : State} {p : Port} {req : List Byte} {st : Status}
    (h : s.draftEntry p (byteAt req 1) = .error st) : s.takeDraft p req = s.refuse p st := by
  unfold State.takeDraft
  rw [h]

theorem State.takeDraft_invalid {s : State} {p : Port} {req : List Byte} {i : ClaimIdx}
    (h : s.draftEntry p (byteAt req 1) = .ok i) (hq : draftParams req = none) :
    s.takeDraft p req = s.refuse p .range := by
  unfold State.takeDraft
  rw [h, hq]

theorem State.takeDraft_ok {s : State} {p : Port} {req : List Byte} {i : ClaimIdx} {q : Params}
    (h : s.draftEntry p (byteAt req 1) = .ok i) (hq : draftParams req = some q) :
    s.takeDraft p req =
      ((s.setClaim i ((s.claim i).draft p q)).touchClaims s.claims).answer p .ok [BitVec.ofNat 8 i.val] := by
  unfold State.takeDraft
  rw [h, hq]

theorem filter_all16_eq (i : Fin 16) : (all16.filter fun j => decide (j = i)) = [i] := by
  revert i
  decide

/-- One entry whose state changes is what the last-touched latch names (R166). -/
theorem touchedAfter_of_one {old new : Table} {i : ClaimIdx} {before : Option Touched}
    (h : ∀ j, (old.get j).state ≠ (new.get j).state ↔ j = i) : touchedAfter old new before = some (.claim i) := by
  have hone : changedEntries old new = [i] := by
    rw [← filter_all16_eq i]
    exact List.filter_congr fun j _ => decide_eq_decide.2 (h j)
  unfold touchedAfter
  rw [hone]
  rfl

/-- With no entry's state changed the last-touched latch stands (R166). -/
theorem touchedAfter_of_none {old new : Table} {before : Option Touched}
    (h : ∀ j, (old.get j).state = (new.get j).state) : touchedAfter old new before = before := by
  have hnone : changedEntries old new = [] := by simp [changedEntries, h]
  unfold touchedAfter
  rw [hnone]
  rfl

theorem State.touched_setClaim_changed {s : State} {i : ClaimIdx} {c : Claim} (h : c.state ≠ (s.claim i).state) :
    touchedAfter s.claims (s.setClaim i c).claims s.link.touched = some (.claim i) :=
  touchedAfter_of_one fun j => by
    show (s.claim j).state ≠ ((s.setClaim i c).claim j).state ↔ j = i
    rw [State.claim_setClaim]
    by_cases hij : i = j
    · subst hij
      simp [h.symm]
    · simp [hij, Ne.symm hij]

theorem State.touched_setClaim_same {s : State} {i : ClaimIdx} {c : Claim} (h : c.state = (s.claim i).state) :
    touchedAfter s.claims (s.setClaim i c).claims s.link.touched = s.link.touched :=
  touchedAfter_of_none fun j => by
    show (s.claim j).state = ((s.setClaim i c).claim j).state
    rw [State.claim_setClaim]
    split
    next hij => rw [← hij, h]
    next => rfl

/-- The entry that an accepted DRAFT writes. -/
theorem State.draftEntry_eq_ok {s : State} {p : Port} {b : Byte} {i : ClaimIdx}
    (h : (b = BitVec.ofNat 8 i.val ∧ ((s.claim i).state = .free ∨ (s.claim i).owner = some p)) ∨
      (b = 255 ∧ (s.claim i).state = .free ∧ ∀ j, j < i → (s.claim j).state ≠ .free)) :
    s.draftEntry p b = .ok i := by
  rcases h with ⟨hb, hown⟩ | ⟨hb, hfree, hlow⟩
  · rw [State.draftEntry_of_index hb, if_pos hown]
  · rw [hb]
    refine State.draftEntry_lowest (Table.lowestFree_eq_some.2 ⟨hfree, fun j hj => ?_⟩)
    by_contra hlt
    exact hlow j (not_le.1 hlt) hj

/-- Settles O30. -/
theorem draftWritesTheStagedCopy : Obligations.DraftWritesTheStagedCopy := by
  intro p req s i q hasks hentry hq
  let u := s.setClaim i ((s.claim i).draft p q)
  refine ⟨(u.touchClaims s.claims).answer p .ok [BitVec.ofNat 8 i.val], ?_, ?_, ?_, ?_, ?_⟩
  · show onRequest s p 0x08 (s.takeDraft p) = _
    rw [onRequest_asks hasks, State.takeDraft_ok (State.draftEntry_eq_ok hentry) hq]
  · intro hfree
    have hc : (s.claim i).draft p q = { s.claim i with owner := some p, state := .draft, staged := q } := if_pos hfree
    refine ⟨(State.claim_setClaim_self s i _).trans hc, ?_⟩
    have ht := State.touched_setClaim_changed (s := s) (i := i) (c := (s.claim i).draft p q) (by simp [hc, hfree])
    show { s.link with touched := touchedAfter s.claims u.claims s.link.touched } = _
    rw [ht]
  · intro hfree
    have hc : (s.claim i).draft p q = { s.claim i with staged := q } := if_neg hfree
    refine ⟨(State.claim_setClaim_self s i _).trans hc, ?_⟩
    have ht := State.touched_setClaim_same (s := s) (i := i) (c := (s.claim i).draft p q) (by simp [hc])
    show { s.link with touched := touchedAfter s.claims u.claims s.link.touched } = _
    rw [ht]
  · intro j hj
    exact (State.claim_setClaim s i j _).trans (if_neg (Ne.symm hj))
  · rw [← answer_eq_replied hasks]
    rfl

/-! ## ALTER (R12) -/

theorem flagChange_eq_some {code : BitVec 2} (h : code ≠ 0) :
    ∃ x, flagChange code = some x ∧ ∀ b, x.apply b = alteredFlag code b := by
  revert h
  revert code
  decide

theorem alterCodes_eq_some {req : List Byte} (h0 : (byteAt req 2).extractLsb' 0 2 ≠ 0)
    (h1 : (byteAt req 2).extractLsb' 2 2 ≠ 0) (h2 : (byteAt req 2).extractLsb' 4 2 ≠ 0) :
    ∃ x, alterCodes req = some x ∧ ∀ q : Params, q.alter x = q.alteredBy (byteAt req 2) := by
  obtain ⟨x, hx, ax⟩ := flagChange_eq_some h0
  obtain ⟨y, hy, ay⟩ := flagChange_eq_some h1
  obtain ⟨z, hz, az⟩ := flagChange_eq_some h2
  refine ⟨(x, y, z), ?_, fun q => ?_⟩
  · simp only [alterCodes, hx, hy, hz]
  · simp only [Params.alter, Params.alteredBy, ax, ay, az]

theorem alterCodes_eq_none {req : List Byte} (h : (byteAt req 2).extractLsb' 0 2 = 0 ∨
    (byteAt req 2).extractLsb' 2 2 = 0 ∨ (byteAt req 2).extractLsb' 4 2 = 0) : alterCodes req = none := by
  have h0 : flagChange 0 = none := rfl
  unfold alterCodes
  rcases h with h | h | h <;> simp only [h, h0]
  · cases flagChange ((byteAt req 2).extractLsb' 0 2) <;> rfl
  · cases flagChange ((byteAt req 2).extractLsb' 0 2) <;> cases flagChange ((byteAt req 2).extractLsb' 2 2) <;> rfl

theorem State.reportPass_passDue (s : State) : s.reportPass.passDue = true := by
  unfold State.reportPass State.passDue
  split <;> simp

/-- ALTER of an entry: the entry, and the pass of a changed BULK flag in force (R12). -/
theorem State.alterEntry_cases (s : State) (i : ClaimIdx) (x : FlagChange × FlagChange × FlagChange) :
    ((s.claim i).inForce = true ∧ ((s.claim i).alter x).active.bulk ≠ (s.claim i).active.bulk →
      s.alterEntry i x = (s.setClaim i ((s.claim i).alter x)).reportPass) ∧
    (¬((s.claim i).inForce = true ∧ ((s.claim i).alter x).active.bulk ≠ (s.claim i).active.bulk) →
      s.alterEntry i x = s.setClaim i ((s.claim i).alter x)) := by
  constructor
  · intro h
    exact if_pos (by simpa using h)
  · intro h
    exact if_neg (by simpa using h)

/-- Settles O36. -/
theorem alterChangesTheFlags : Obligations.AlterChangesTheFlags := by
  intro p req s i hasks hidx hstate howner h0 h1 h2
  obtain ⟨x, hx, halter⟩ := alterCodes_eq_some h0 h1 h2
  have hentry : s.ownEntry p (byteAt req 1) = .ok i := State.ownEntry_eq_ok.2 ⟨claimIndex_ofNat hidx, hstate, howner⟩
  have hc : (s.claim i).alter x = { s.claim i with
      active := (s.claim i).active.alteredBy (byteAt req 2)
      staged := (s.claim i).staged.alteredBy (byteAt req 2) } := by
    unfold Claim.alter
    rw [halter, halter]
  obtain ⟨hpass, hnone⟩ := s.alterEntry_cases i x
  have hclaims : (s.alterEntry i x).claims = (s.setClaim i ((s.claim i).alter x)).claims := by
    by_cases h : (s.claim i).inForce = true ∧ ((s.claim i).alter x).active.bulk ≠ (s.claim i).active.bulk
    · rw [hpass h, State.reportPass_claims]
    · rw [hnone h]
  have hrest : s.alterEntry i x =
      { s with claims := (s.alterEntry i x).claims, arbiter := (s.alterEntry i x).arbiter } := by
    by_cases h : (s.claim i).inForce = true ∧ ((s.claim i).alter x).active.bulk ≠ (s.claim i).active.bulk
    · rw [hpass h]
      unfold State.reportPass
      split <;> rfl
    · rw [hnone h]
      rfl
  have hclaim : ∀ j, (s.alterEntry i x).claim j = (s.setClaim i ((s.claim i).alter x)).claim j :=
    State.claim_congr hclaims
  have hi : (s.alterEntry i x).claim i = (s.claim i).alter x := by rw [hclaim]; simp
  refine ⟨(s.alterEntry i x).answer p .ok [], ?_, ?_, ?_, ?_, ?_, ?_⟩
  · show onRequest s p 0x0B (s.takeAlter p) = _
    rw [onRequest_asks hasks]
    unfold State.takeAlter
    rw [hentry, hx]
  · exact hi.trans hc
  · intro j hj
    show (s.alterEntry i x).claim j = s.claim j
    rw [hclaim, State.claim_setClaim, if_neg (Ne.symm hj)]
  · rw [← answer_eq_replied hasks]
    generalize s.alterEntry i x = u at hrest
    rw [hrest]
    rfl
  · intro h
    have hs := hpass (by rwa [← hi])
    rw [hs]
    exact ⟨State.reportPass_passDue _, State.reportPass_requests _⟩
  · intro h
    have hs := hnone (by rwa [← hi])
    rw [hs]
    rfl

/-! ## Refusals (R6, R8, R11, R12) -/

theorem State.takeArm_error {s : State} {p : Port} {req : List Byte} {st : Status}
    (h : s.ownEntry p (byteAt req 1) = .error st) : s.takeArm p req = s.refuse p st := by
  unfold State.takeArm
  rw [h]

theorem State.takeDisarm_error {s : State} {p : Port} {req : List Byte} {st : Status}
    (h : s.ownEntry p (byteAt req 1) = .error st) : s.takeDisarm p req = s.refuse p st := by
  unfold State.takeDisarm
  rw [h]

theorem State.takeAlter_error {s : State} {p : Port} {req : List Byte} {st : Status}
    (h : s.ownEntry p (byteAt req 1) = .error st) : s.takeAlter p req = s.refuse p st := by
  unfold State.takeAlter
  rw [h]

theorem State.takeArm_refusal {s : State} {p : Port} {req : List Byte} {i : ClaimIdx} {st : Status}
    (h : s.ownEntry p (byteAt req 1) = .ok i) (hr : armRefusal (s.port p).access i (s.claim i).staged = some st) :
    s.takeArm p req = s.refuse p st := by
  unfold State.takeArm
  rw [h]
  show (match armRefusal (s.port p).access i (s.claim i).staged with
    | some st => s.refuse p st
    | none => (((s.setClaim i (s.claim i).armed).reportPass).conclude s).answer p .ok []) = _
  rw [hr]

/-- ARM, DISARM and ALTER of an entry that the port may not name: refused with the status of the entry's checks. -/
theorem exec_ownEntry_error {p : Port} {req : List Byte} {s : State} {c : Instr} {code : Byte} {st : Status}
    (hc : (c, code) ∈ ([(.arm p, 0x09), (.disarm p, 0x0A), (.alter p, 0x0B)] : List (Instr × Byte)))
    (hasks : s.Asks p code req) (h : s.ownEntry p (byteAt req 1) = .error st) :
    exec c s = .next (s.replied p st code []) := by
  rw [← refuse_eq_replied hasks]
  simp only [List.mem_cons, Prod.mk.injEq, List.not_mem_nil, or_false] at hc
  rcases hc with ⟨rfl, rfl⟩ | ⟨rfl, rfl⟩ | ⟨rfl, rfl⟩
  · show onRequest s p 0x09 (s.takeArm p) = _
    rw [onRequest_asks hasks, State.takeArm_error h]
  · show onRequest s p 0x0A (s.takeDisarm p) = _
    rw [onRequest_asks hasks, State.takeDisarm_error h]
  · show onRequest s p 0x0B (s.takeAlter p) = _
    rw [onRequest_asks hasks, State.takeAlter_error h]

theorem exec_draft_error {p : Port} {req : List Byte} {s : State} {st : Status} (hasks : s.Asks p 0x08 req)
    (h : s.takeDraft p req = s.refuse p st) : exec (.draft p) s = .next (s.replied p st 0x08 []) := by
  show onRequest s p 0x08 (s.takeDraft p) = _
  rw [onRequest_asks hasks, h, refuse_eq_replied hasks]

theorem exec_arm_refusal {p : Port} {req : List Byte} {s : State} {i : ClaimIdx} {st : Status}
    (hasks : s.Asks p 0x09 req) (h : s.ownEntry p (byteAt req 1) = .ok i)
    (hr : armRefusal (s.port p).access i (s.claim i).staged = some st) :
    exec (.arm p) s = .next (s.replied p st 0x09 []) := by
  show onRequest s p 0x09 (s.takeArm p) = _
  rw [onRequest_asks hasks, State.takeArm_refusal h hr, refuse_eq_replied hasks]

/-- Settles O32. -/
theorem claimRequestsAreRefusedInOrder : Obligations.ClaimRequestsAreRefusedInOrder := by
  intro p req s
  refine ⟨fun hasks => ⟨?_, ?_, ?_, ?_, ?_⟩, fun c code hc hasks => ⟨?_, fun i hidx => ⟨?_, ?_⟩⟩,
    fun i hidx hstate howner => ?_⟩
  · intro h15 h255
    exact exec_draft_error hasks (State.takeDraft_error (State.draftEntry_out_of_range h15 h255))
  · intro h255 hfull
    exact exec_draft_error hasks
      (State.takeDraft_error (h255 ▸ State.draftEntry_full (Table.lowestFree_eq_none.2 hfull)))
  · intro i hidx hstate howner
    refine exec_draft_error hasks (State.takeDraft_error (st := .notOwner) ?_)
    rw [State.draftEntry_of_index hidx, if_neg (by simp [hstate, howner])]
  · intro i hidx hown hq
    refine exec_draft_error hasks (State.takeDraft_invalid (i := i) ?_ hq)
    rw [State.draftEntry_of_index hidx, if_pos hown]
  · intro h255 ⟨j, hj⟩ hq
    cases hl : Table.lowestFree s.claims with
    | none => exact absurd hj (Table.lowestFree_eq_none.1 hl j)
    | some i => exact exec_draft_error hasks (State.takeDraft_invalid (h255 ▸ State.draftEntry_lowest hl) hq)
  · intro h15
    exact exec_ownEntry_error hc hasks (State.ownEntry_out_of_range h15)
  · intro hfree
    refine exec_ownEntry_error hc hasks ?_
    rw [State.ownEntry_of_index hidx, if_pos hfree]
  · intro hfree howner
    refine exec_ownEntry_error hc hasks ?_
    rw [State.ownEntry_of_index hidx, if_neg hfree, if_neg howner]
  · have hentry : s.ownEntry p (byteAt req 1) = .ok i :=
      State.ownEntry_eq_ok.2 ⟨claimIndex_ofNat hidx, hstate, howner⟩
    refine ⟨fun hasks hcons => ?_, fun hasks hcons hperm => ?_, fun hasks hcons hperm hfloor => ?_,
      fun k hasks hcons hperm hfloor hk hki => ?_, fun hasks hcodes => ?_⟩
    · exact exec_arm_refusal hasks hentry (by simp [armRefusal, hcons])
    · exact exec_arm_refusal hasks hentry (by simp [armRefusal, hcons, hperm])
    · exact exec_arm_refusal hasks hentry (by simp [armRefusal, hcons, hperm, hfloor])
    · exact exec_arm_refusal hasks hentry
        (by simp [armRefusal, hcons, hperm, not_lt.2 hfloor, Params.chainOk, hk, not_lt.2 hki])
    · show onRequest s p 0x0B (s.takeAlter p) = _
      rw [onRequest_asks hasks, ← refuse_eq_replied hasks]
      unfold State.takeAlter
      rw [hentry, alterCodes_eq_none hcodes]

/-! ## The checks of a claim's own fields (R2, R3, R8, R152) -/

/-- Settles O34, by the kind and then the target of the claim. -/
theorem consistencyAndPermissionAreThoseOfTheClaim : Obligations.ConsistencyAndPermissionAreThoseOfTheClaim := by
  refine ⟨fun q => ⟨?_, ?_, ?_, ?_, ?_, ?_⟩, fun acc q => ⟨?_, fun hk => ⟨?_, ?_, ?_, ?_⟩⟩⟩
  · intro hk
    simp [Params.consistent, hk]
  · intro hk ht
    simp [Params.consistent, Params.settingValid, hk, ht]
  · intro hk ht
    simp [Params.consistent, Params.settingValid, Target.demandRange, hk, ht, and_assoc]
  · intro hk ht
    simp only [Params.consistent, Params.settingValid, Target.demandRange, hk, ht, Params.pulsed, Bool.and_eq_true,
      Bool.or_eq_true, Bool.not_eq_true', decide_eq_true_eq, and_assoc]
    unfold Params.offTime
    cases q.settingB.getLsbD 14 <;> simp
  · intro hk ht
    simp [Params.consistent, Params.settingValid, Target.demandRange, hk, ht, and_assoc]
  · intro hk ht
    simp [Params.consistent, Params.settingValid, Target.demandRange, hk, ht, and_assoc]
  · intro hk
    simp [Access.permits, hk]
  all_goals
    intro ht
    simp [Access.permits, Access.drives, hk, ht]

/-! ## The chamber clock (R22, R23, R75, R76) -/

theorem Sensors.second_eq (m : Sensors) : m.second = { m with
    clock := m.clock + 1
    divider := if m.divider = 5 then 0 else m.divider + 1
    samplesDue := if m.divider = 5 then m.samplesDue + 1 else m.samplesDue } := by
  unfold Sensors.second Config.sampleDivision
  by_cases h : m.divider = 5
  · simp [h]
  · simp [h]

/-- Settles O38: each entry by its state, and the divider by its last count. -/
theorem clockAndLoadCellEvents : Obligations.ClockAndLoadCellEvents := by
  refine ⟨fun s => ⟨{ s with claims := s.claims.map Claim.second, sensors := s.sensors.second }, rfl, rfl, fun i => ?_,
    s.sensors.second_eq⟩, fun s g => ⟨?_, ?_, ?_, rfl⟩⟩
  · have hclaim : State.claim { s with claims := s.claims.map Claim.second, sensors := s.sensors.second } i =
        (s.claim i).second := by
      show (s.claims.map Claim.second).get i = _
      simp [State.claim, Vector.get_eq_getElem]
    rw [hclaim]
    refine ⟨fun h => ?_, fun h hd => ?_, fun h hd => ?_, fun hg hp => ?_⟩
    · simp [Claim.second, h]
    · simp [Claim.second, h, hd]
    · simp [Claim.second, h, hd]
    · unfold Claim.second
      cases h : (s.claim i).state with
      | granted => exact absurd h hg
      | pending => exact absurd h hp
      | free | draft | held | ended => rfl
  · intro h0 h1
    show Host.Outcome.next { s with sensors := s.sensors.storeLoad (.grams g) } = _
    have hmass : min g.toNat Config.massTop = g.toNat := min_eq_left (by unfold Config.massTop; omega)
    have hfault : ¬(g < 0 ∨ (Config.massTop : Int) < g) := by unfold Config.massTop; omega
    simp only [Sensors.storeLoad, hmass, hfault, decide_false]
  · intro h0
    show Host.Outcome.next { s with sensors := s.sensors.storeLoad (.grams g) } = _
    have hmass : min g.toNat Config.massTop = 0 := by rw [Int.toNat_of_nonpos (le_of_lt h0)]; exact Nat.zero_min _
    simp only [Sensors.storeLoad, hmass, h0, true_or, decide_true]
  · intro h1
    show Host.Outcome.next { s with sensors := s.sensors.storeLoad (.grams g) } = _
    have hmass : min g.toNat Config.massTop = 20000 := min_eq_right (by unfold Config.massTop; omega)
    have hfault : g < 0 ∨ (Config.massTop : Int) < g := by unfold Config.massTop; omega
    simp only [Sensors.storeLoad, hmass, hfault, decide_true]

end Sys2Proof.Machine
end

section
/-! The fields that a DRAFT carries, each read from its bits (R6, R173). -/

namespace Sys2Proof.Machine

/-! ## Fields as numbers -/

theorem toNat_half (hi lo : Byte) : (half hi lo).toNat = hi.toNat * 256 + lo.toNat := by
  unfold half
  rw [BitVec.toNat_append, ← Nat.shiftLeft_add_eq_or_of_lt lo.isLt, Nat.shiftLeft_eq]

theorem toNat_halfAt (req : List Byte) (k : Nat) :
    (halfAt req k).toNat = (byteAt req k).toNat * 256 + (byteAt req (k + 1)).toNat := toNat_half _ _

theorem toNat_highNibble (b : Byte) : (highNibble b).toNat = b.toNat / 16 := by
  have := b.isLt
  simp only [highNibble, BitVec.extractLsb'_toNat, Nat.shiftRight_eq_div_pow]
  omega

theorem toNat_lowNibble (b : Byte) : (lowNibble b).toNat = b.toNat % 16 := by
  simp [lowNibble]

/-! ## The codes of layout C -/

theorem kindOf_eq_some {b : BitVec 4} {k : Kind} (h : kindOf b = some k) : k = .drive ↔ b = 0 := by
  revert h
  revert b k
  decide

theorem kindOf_ne_none {b : BitVec 4} : (∃ k, kindOf b = some k) ↔ b.toNat ≤ 1 := by
  rw [← Option.isSome_iff_exists]
  revert b
  decide

theorem targetOf_eq_some {b : BitVec 4} {t : Target} (h : targetOf b = some t) :
    (t = .heater ↔ b = 0) ∧ (t = .grinder ↔ b = 1) ∧ (t = .fan ↔ b = 2) ∧ (t = .latch ↔ b = 3) := by
  revert h
  revert b t
  decide

theorem targetOf_ne_none {b : BitVec 4} : (∃ t, targetOf b = some t) ↔ b.toNat ∈ [0, 1, 2, 3, 7] := by
  rw [← Option.isSome_iff_exists]
  revert b
  decide

theorem followOnOf_eq_some {b : Byte} {f : Option ClaimIdx} (h : followOnOf b = some f) :
    (f = none ↔ b = 255) ∧ ∀ t, f = some t → b.toNat = t.val := by
  unfold followOnOf at h
  split at h
  next hb =>
    cases h
    exact ⟨⟨fun _ => hb, fun _ => rfl⟩, fun t ht => by cases ht⟩
  next hb =>
    obtain ⟨i, hi, rfl⟩ := Option.map_eq_some_iff.1 h
    refine ⟨iff_of_false (by simp) hb, fun t ht => ?_⟩
    cases ht
    exact claimIndex_eq_some.1 hi

theorem followOnOf_ne_none {b : Byte} : (∃ f, followOnOf b = some f) ↔ b.toNat ≤ 15 ∨ b = 255 := by
  unfold followOnOf
  by_cases hb : b = 255
  · simp [hb]
  · rw [if_neg hb]
    cases hi : claimIndex b with
    | none =>
      have := claimIndex_eq_none.1 hi
      exact iff_of_false (by simp) (by rintro (h | h); exacts [by omega, hb h])
    | some i =>
      have := claimIndex_eq_some.1 hi
      exact iff_of_true ⟨some i, rfl⟩ (.inl (by omega))

/-! ## DRAFT's fields (R6, R173) -/

/-- A DRAFT is valid when each of its fields is in the range that it has whatever the kind and actuator, and then it
stages those fields. -/
theorem draftParams_eq_some {req : List Byte} {q : Params} :
    draftParams req = some q ↔ ∃ k t f, kindOf (highNibble (byteAt req 2)) = some k ∧
      targetOf (lowNibble (byteAt req 2)) = some t ∧ followOnOf (byteAt req 15) = some f ∧
      ((halfAt req 8).toNat ≤ 1800 ∧ 1 ≤ (halfAt req 11).toNat) ∧
      q = { kind := k, target := t, settingA := byteAt req 3, settingB := halfAt req 4, demand := (halfAt req 6).toNat
            reduction := (halfAt req 8).toNat, level := (highNibble (byteAt req 10)).toFin
            bulk := (byteAt req 10).getLsbD 0, oneShot := (byteAt req 10).getLsbD 1
            singleTry := (byteAt req 10).getLsbD 2, duration := (halfAt req 11).toNat
            deadline := (halfAt req 13).toNat, followOn := f } := by
  unfold draftParams
  constructor
  · intro h
    split at h
    next k t f hk ht hf =>
      split at h
      · cases h
      next hr =>
        cases h
        exact ⟨k, t, f, hk, ht, hf, by omega, rfl⟩
    · cases h
  · rintro ⟨k, t, f, hk, ht, hf, hr, rfl⟩
    rw [hk, ht, hf]
    exact if_neg (by omega)

/-- Settles O31. -/
theorem draftReadsLayoutC : Obligations.DraftReadsLayoutC := by
  intro req
  refine ⟨fun q hq => ?_, ?_⟩
  · obtain ⟨k, t, f, hk, ht, hf, ⟨hred, hdur⟩, rfl⟩ := draftParams_eq_some.1 hq
    obtain ⟨hheater, hgrinder, hfan, hlatch⟩ := targetOf_eq_some ht
    obtain ⟨hnone, hindex⟩ := followOnOf_eq_some hf
    exact ⟨kindOf_eq_some hk, hheater, hgrinder, hfan, hlatch, rfl, rfl, toNat_halfAt req 6, toNat_halfAt req 8, hred,
      toNat_highNibble _, rfl, rfl, rfl, toNat_halfAt req 11, hdur, toNat_halfAt req 13, hnone, hindex⟩
  · rw [Option.ne_none_iff_exists']
    simp only [draftParams_eq_some]
    rw [← toNat_halfAt req 8, ← toNat_halfAt req 11, ← toNat_highNibble, ← toNat_lowNibble, ← kindOf_ne_none,
      ← targetOf_ne_none, ← followOnOf_ne_none]
    constructor
    · rintro ⟨q, k, t, f, hk, ht, hf, ⟨hred, hdur⟩, rfl⟩
      exact ⟨⟨k, hk⟩, ⟨t, ht⟩, hred, hdur, ⟨f, hf⟩⟩
    · rintro ⟨⟨k, hk⟩, ⟨t, ht⟩, hred, hdur, ⟨f, hf⟩⟩
      exact ⟨_, k, t, f, hk, ht, hf, ⟨hred, hdur⟩, rfl⟩

end Sys2Proof.Machine
end

section
/-! The requests that only read (R13, R99, R115, R141, R153, R155, R159). -/

namespace Sys2Proof.Machine

/-! ## Selectors -/

theorem portNumber_ofNat {b : Byte} {m : Port} (h : b = BitVec.ofNat 8 m.val) : portNumber b = some m := by
  have hb : b.toNat = m.val := by rw [h]; simp; omega
  unfold portNumber
  rw [dif_pos (by omega)]
  exact congrArg some (Fin.ext hb)

theorem portNumber_out_of_range {b : Byte} (h : 2 < b.toNat) : portNumber b = none := by
  unfold portNumber
  rw [dif_neg (by omega)]

/-- A record that a seq selects is found at its position (R115). -/
theorem BatchUnit.find_of_carries {u : BatchUnit} {k : Nat} {r : BatchRecord} {seq : Word} (h : u.Carries k r seq) :
    u.find seq = some k := by
  obtain ⟨hk, hseq, hfirst⟩ := h
  obtain ⟨hlt, hr⟩ := List.getElem?_eq_some_iff.1 hk
  unfold BatchUnit.find
  rw [List.findIdx?_eq_some_iff_getElem]
  refine ⟨hlt, by simp [hr, hseq], fun j hj => ?_⟩
  simpa using hfirst j _ hj (List.getElem?_eq_getElem (Nat.lt_trans hj hlt))

theorem BatchUnit.find_eq_none {u : BatchUnit} {seq : Word} (h : ∀ r ∈ u.records, r.seq ≠ seq) : u.find seq = none := by
  unfold BatchUnit.find
  rw [List.findIdx?_eq_none_iff]
  intro r hr
  simpa using h r hr

theorem batchSelector_position {req : List Byte} (h : byteAt req 1 = 0) (h7 : (byteAt req 3).toNat ≤ 7) :
    batchSelector req = some (.position (byteAt req 3).toNat) := by
  unfold batchSelector
  rw [if_pos h, if_pos h7]

theorem batchSelector_seq {req : List Byte} (h : byteAt req 1 = 1) : batchSelector req = some (.seq (wordAt req 3)) := by
  unfold batchSelector
  rw [if_neg (by rw [h]; decide), if_pos h]

theorem batchSelector_none {req : List Byte}
    (h : 1 < (byteAt req 1).toNat ∨ (byteAt req 1 = 0 ∧ 7 < (byteAt req 3).toNat)) : batchSelector req = none := by
  unfold batchSelector
  rcases h with h | ⟨h, h7⟩
  · rw [if_neg (by rintro h0; rw [h0] at h; exact absurd h (by decide)),
      if_neg (by rintro h1; rw [h1] at h; exact absurd h (by decide))]
  · rw [if_pos h, if_neg (by omega)]

theorem byte_le_one {b : Byte} : b.toNat ≤ 1 ↔ b = 0 ∨ b = 1 := by
  constructor
  · intro h
    rcases Nat.le_one_iff_eq_zero_or_eq_one.1 h with h | h
    · exact .inl (BitVec.eq_of_toNat_eq h)
    · exact .inr (BitVec.eq_of_toNat_eq h)
  · rintro (rfl | rfl) <;> decide

/-! ## What the reads answer -/

theorem State.takeStatus_out_of_range {s : State} {p : Port} {req : List Byte} (h : 1 < (byteAt req 1).toNat) :
    s.takeStatus p req = s.refuse p .range := by
  have hne : ¬(byteAt req 1 = 0 ∨ byteAt req 1 = 1) := fun he => by have := byte_le_one.2 he; omega
  unfold State.takeStatus
  rw [if_neg fun h0 => hne (.inl h0), if_neg fun h1 => hne (.inr h1)]

theorem Claim.part_out_of_range {c : Claim} {b : Byte} (h : 2 < b.toNat) : c.part b = none := by
  unfold Claim.part
  have hne : ∀ k : Byte, k.toNat ≤ 2 → b ≠ k := fun k hk he => by rw [he] at h; omega
  rw [if_neg (hne 0 (by decide)), if_neg (hne 1 (by decide)), if_neg (hne 2 (by decide))]

theorem State.takeClaimRead_part {s : State} {p : Port} {req : List Byte} {i : ClaimIdx} {data : List Byte}
    (h : byteAt req 1 = BitVec.ofNat 8 i.val) (hd : (s.claim i).part (byteAt req 2) = some data) :
    s.takeClaimRead p req = s.answer p .ok data := by
  unfold State.takeClaimRead
  rw [claimIndex_ofNat h]
  show (match (s.claim i).part (byteAt req 2) with
    | none => s.refuse p .range
    | some data => s.answer p .ok data) = _
  rw [hd]

theorem State.takeClaimRead_out_of_range {s : State} {p : Port} {req : List Byte}
    (h : 15 < (byteAt req 1).toNat ∨ 2 < (byteAt req 2).toNat) : s.takeClaimRead p req = s.refuse p .range := by
  unfold State.takeClaimRead
  cases hi : claimIndex (byteAt req 1) with
  | none => rfl
  | some i =>
    rcases h with h | h
    · rw [claimIndex_eq_none.2 h] at hi
      cases hi
    · show (match (s.claim i).part (byteAt req 2) with
        | none => s.refuse p .range
        | some data => s.answer p .ok data) = _
      rw [Claim.part_out_of_range h]

theorem State.takeBatchRead_at {s : State} {p : Port} {req : List Byte} {sel : BatchSelector} {k : Nat} {r : BatchRecord}
    (hsel : batchSelector req = some sel) (hk : s.batch.select sel = some k) (hr : s.batch.records[k]? = some r) :
    (byteAt req 2 = 0 → s.takeBatchRead p req = s.answer p .ok (r.part0 k)) ∧
    (byteAt req 2 = 1 → s.takeBatchRead p req = s.answer p .ok r.part1) := by
  unfold State.takeBatchRead
  constructor <;> intro h <;> simp [hsel, hk, h, BatchUnit.partAt, hr]

theorem State.takeBatchRead_notFound {s : State} {p : Port} {req : List Byte} {sel : BatchSelector}
    (hpart : (byteAt req 2).toNat ≤ 1) (hsel : batchSelector req = some sel) (hk : s.batch.select sel = none) :
    s.takeBatchRead p req = s.refuse p .notFound := by
  unfold State.takeBatchRead
  rcases byte_le_one.1 hpart with h | h <;> simp [hsel, hk, h]

theorem State.takeBatchRead_out_of_range {s : State} {p : Port} {req : List Byte}
    (h : 1 < (byteAt req 1).toNat ∨ 1 < (byteAt req 2).toNat ∨ (byteAt req 1 = 0 ∧ 7 < (byteAt req 3).toNat)) :
    s.takeBatchRead p req = s.refuse p .range := by
  unfold State.takeBatchRead
  cases hsel : batchSelector req with
  | none => rfl
  | some sel =>
    have hpart : 1 < (byteAt req 2).toNat := by
      rcases h with h | h | h
      · rw [batchSelector_none (.inl h)] at hsel
        cases hsel
      · exact h
      · rw [batchSelector_none (.inr h)] at hsel
        cases hsel
    have hne : ¬(byteAt req 2 = 0 ∨ byteAt req 2 = 1) := fun he => by have := byte_le_one.2 he; omega
    exact if_pos (not_or.1 hne)

theorem State.takeRetiredPeek_cons {s : State} {p : Port} {req : List Byte} {x : Summary} {rest : List Summary}
    {data : List Byte} (hq : s.batch.retired = x :: rest) (hpart : (byteAt req 1).toNat ≤ 2)
    (hd : x.part (rest.length + 1) (byteAt req 1) = some data) : s.takeRetiredPeek p req = s.answer p .ok data := by
  unfold State.takeRetiredPeek
  rw [if_neg (by omega), hq]
  show s.answer p .ok ((x.part (rest.length + 1) (byteAt req 1)).getD []) = _
  rw [hd]
  rfl

/-! ## The reads (R13, R99, R115, R141, R153, R155, R159) -/

/-- A request that its block answers with data is replied to, and nothing else changes. -/
theorem onRequest_answers {s : State} {p : Port} {code : Byte} {req : List Byte} {f : List Byte → State} {st : Status}
    {data : List Byte} (h : s.Asks p code req) (hf : f req = s.answer p st data) :
    onRequest s p code f = .next (s.replied p st code data) := by
  rw [onRequest_asks h, hf, answer_eq_replied h]

/-- Settles O23. -/
theorem readsChangeNothing : Obligations.ReadsChangeNothing := by
  intro p req s
  refine ⟨fun h => ?_, fun h h1 => ?_, fun h h1 => ?_, fun h h1 => ?_, fun h => ?_, fun m h hm => ?_, fun h hm => ?_,
    fun h h4 => ?_, fun h h4 => ?_, fun i h hi => ⟨fun h2 => ?_, fun h2 => ?_, fun h2 => ?_⟩, fun h hr => ?_,
    fun k r h hk => ?_, fun h h2 hk => ?_, fun h hr => ?_, fun x rest h hq => ⟨fun h1 => ?_, fun h1 => ?_, fun h1 => ?_⟩,
    fun h h1 hq => ?_, fun h h1 => ?_⟩
  · exact onRequest_answers h rfl
  · exact onRequest_answers h (if_pos h1)
  · exact onRequest_answers h ((if_neg (by rw [h1]; decide)).trans (if_pos h1))
  · exact onRequest_answers h (State.takeStatus_out_of_range h1)
  · exact onRequest_answers h rfl
  · refine onRequest_answers h (f := s.takeAccessRead p) ?_
    unfold State.takeAccessRead
    rw [portNumber_ofNat hm]
    rfl
  · refine onRequest_answers h (f := s.takeAccessRead p) ?_
    unfold State.takeAccessRead
    rw [portNumber_out_of_range hm]
    rfl
  · exact onRequest_answers h (if_pos h4)
  · exact onRequest_answers h (if_neg (by omega))
  · exact onRequest_answers h (State.takeClaimRead_part hi (by rw [h2]; rfl))
  · exact onRequest_answers h (State.takeClaimRead_part hi (by rw [h2]; rfl))
  · exact onRequest_answers h (State.takeClaimRead_part hi (by rw [h2]; rfl))
  · exact onRequest_answers h (State.takeClaimRead_out_of_range hr)
  · obtain ⟨sel, hsel, hsk, hrec⟩ : ∃ sel, batchSelector req = some sel ∧ s.batch.select sel = some k ∧
        s.batch.records[k]? = some r := by
      rcases hk with ⟨h1, rfl, h7, hrec⟩ | ⟨h1, hcar⟩
      · have hlt := (List.getElem?_eq_some_iff.1 hrec).1
        exact ⟨_, batchSelector_position h1 h7, if_pos hlt, hrec⟩
      · exact ⟨_, batchSelector_seq h1, BatchUnit.find_of_carries hcar, hcar.1⟩
    obtain ⟨hpart0, hpart1⟩ := State.takeBatchRead_at (p := p) hsel hsk hrec
    exact ⟨fun h2 => onRequest_answers h (hpart0 h2), fun h2 => onRequest_answers h (hpart1 h2)⟩
  · rcases hk with ⟨h1, hnone⟩ | ⟨h1, h7, hlen⟩
    · exact onRequest_answers h
        (State.takeBatchRead_notFound h2 (batchSelector_seq h1) (BatchUnit.find_eq_none hnone))
    · exact onRequest_answers h
        (State.takeBatchRead_notFound h2 (batchSelector_position h1 h7) (if_neg (by omega)))
  · exact onRequest_answers h (State.takeBatchRead_out_of_range hr)
  · exact onRequest_answers h (State.takeRetiredPeek_cons hq (by rw [h1]; decide) (by rw [h1]; rfl))
  · exact onRequest_answers h (State.takeRetiredPeek_cons hq (by rw [h1]; decide) (by rw [h1]; rfl))
  · exact onRequest_answers h (State.takeRetiredPeek_cons hq (by rw [h1]; decide) (by rw [h1]; rfl))
  · refine onRequest_answers h (f := s.takeRetiredPeek p) ?_
    unfold State.takeRetiredPeek
    rw [if_neg (by omega), hq]
    rfl
  · exact onRequest_answers h (if_pos h1)

end Sys2Proof.Machine
end

section
/-! The fields of the replies, each in its place (R4, R84, R102, R139, R173). -/

namespace Sys2Proof.Machine

/-! ## Fields placed and read back -/

/-- The two bytes of a field are read back as the field. -/
theorem half_bytes (h : Half) : half (h.extractLsb' 8 8) (h.extractLsb' 0 8) = h := by
  unfold half
  rw [BitVec.extractLsb'_append_extractLsb'_eq_extractLsb' (show 8 = 0 + 8 from rfl)]
  exact BitVec.extractLsb'_eq_self

/-- The four bytes of a field are read back as the field. -/
theorem word_bytes (w : Word) :
    word (w.extractLsb' 24 8) (w.extractLsb' 16 8) (w.extractLsb' 8 8) (w.extractLsb' 0 8) = w := by
  unfold word
  rw [BitVec.extractLsb'_append_extractLsb'_eq_extractLsb' (show 24 = 16 + 8 from rfl),
    BitVec.extractLsb'_append_extractLsb'_eq_extractLsb' (show 16 = 8 + 8 from rfl),
    BitVec.extractLsb'_append_extractLsb'_eq_extractLsb' (show 8 = 0 + 8 from rfl)]
  exact BitVec.extractLsb'_eq_self

theorem low_half_bytes (w : Word) : half (w.extractLsb' 8 8) (w.extractLsb' 0 8) = w.extractLsb' 0 16 :=
  BitVec.extractLsb'_append_extractLsb'_eq_extractLsb' (show 8 = 0 + 8 from rfl)

theorem toNat_ofNat_fin {n : Nat} (h : n ≤ 256) (i : Fin n) : (BitVec.ofNat 8 i.val).toNat = i.val := by
  have := i.isLt
  rw [BitVec.toNat_ofNat]
  exact Nat.mod_eq_of_lt (by omega)

theorem carriesOwner_ownerCode (o : Option Port) : CarriesOwner (ownerCode o) o := by
  refine ⟨?_, ?_⟩
  · rintro rfl; rfl
  · rintro p rfl; exact toNat_ofNat_fin (by decide) p

theorem carriesFollowOn_followOnCode (f : Option ClaimIdx) : CarriesFollowOn (followOnCode f) f := by
  refine ⟨?_, ?_⟩
  · rintro rfl; rfl
  · rintro i rfl; exact toNat_ofNat_fin (by decide) i

theorem carriesMass_massCode (m : Option Nat) : CarriesMass (massCode m) m := by
  refine ⟨?_, ?_⟩
  · rintro rfl; rfl
  · rintro g rfl; rfl

/-! ## Claims (R4, R173) -/

theorem Params.kindTargetByte_codes (q : Params) :
    (q.kind, q.kindTargetByte.extractLsb' 4 4) ∈ kindCodes ∧ (q.target, q.kindTargetByte.extractLsb' 0 4) ∈ targetCodes := by
  unfold Params.kindTargetByte
  cases q.kind <;> cases q.target <;> decide

theorem Params.levelFlagsByte_fields (q : Params) :
    q.levelFlagsByte.toNat / 16 = q.level.val ∧ q.levelFlagsByte.getLsbD 3 = false ∧
      q.levelFlagsByte.getLsbD 2 = q.singleTry ∧ q.levelFlagsByte.getLsbD 1 = q.oneShot ∧
      q.levelFlagsByte.getLsbD 0 = q.bulk := by
  unfold Params.levelFlagsByte
  generalize q.level = l, q.singleTry = a, q.oneShot = b, q.bulk = c
  revert l a b c
  decide

theorem Params.isCarried_layoutC (q : Params) : q.IsCarried q.layoutC := by
  obtain ⟨hkind, htarget⟩ := q.kindTargetByte_codes
  obtain ⟨hlevel, hzero, htry, hshot, hbulk⟩ := q.levelFlagsByte_fields
  exact ⟨rfl, hkind, htarget, rfl, half_bytes _, half_bytes _, half_bytes _, hlevel, hzero, htry, hshot, hbulk,
    half_bytes _, half_bytes _, carriesFollowOn_followOnCode _⟩

theorem ClaimState.code_mem (x : ClaimState) : (x, x.code) ∈ claimStateCodes := by cases x <;> decide

theorem ClaimOutcome.code_mem (x : ClaimOutcome) : (x, x.code) ∈ claimOutcomeCodes := by cases x <;> decide

theorem two_flags (a b : Bool) :
    (flagBit a 0 ||| flagBit b 1).getLsbD 0 = a ∧ (flagBit a 0 ||| flagBit b 1).getLsbD 1 = b ∧
      (flagBit a 0 ||| flagBit b 1).extractLsb' 2 6 = 0 := by
  revert a b
  decide

/-! ## The rotor (R84, R173) -/

theorem DriveMode.code_place (m : DriveMode) (d : Direction) :
    (m, (m.code ||| d.code <<< 4).extractLsb' 0 2) ∈ driveModeCodes ∧ (m.code ||| d.code <<< 4).extractLsb' 2 2 = 0 ∧
      (d, (m.code ||| d.code <<< 4).extractLsb' 4 2) ∈ directionCodes ∧
      (m.code ||| d.code <<< 4).extractLsb' 6 2 = 0 := by
  cases m <;> cases d <;> decide

theorem JogPhase.code_place (j : JogPhase) (n : Nat) :
    (j, (j.code ||| fieldAt n 4).extractLsb' 0 3) ∈ jogPhaseCodes ∧
      (n ≤ 3 → (j.code ||| fieldAt n 4).toNat / 16 = n) := by
  constructor
  · have hlow : (j.code ||| fieldAt n 4).extractLsb' 0 3 = j.code.extractLsb' 0 3 := by
      apply BitVec.eq_of_getLsbD_eq
      intro k hk
      have h4 : k < 4 := by omega
      simp [fieldAt, hk, h4]
    rw [hlow]
    cases j <;> decide
  · intro hn
    interval_cases n <;> cases j <;> decide

theorem three_flags (a b c : Bool) :
    (flagBit a 0 ||| flagBit b 1 ||| flagBit c 2).getLsbD 0 = a ∧
      (flagBit a 0 ||| flagBit b 1 ||| flagBit c 2).getLsbD 1 = b ∧
      (flagBit a 0 ||| flagBit b 1 ||| flagBit c 2).getLsbD 2 = c ∧
      (flagBit a 0 ||| flagBit b 1 ||| flagBit c 2).extractLsb' 3 5 = 0 := by
  revert a b c
  decide

theorem periodCode_some (n : Nat) :
    periodCode (some n) = BitVec.ofNat 16 (if n / 1000 < 65535 then n / 1000 else 65534) := by
  show BitVec.ofNat 16 (min (n / 1000) 65534) = _
  congr 1
  split <;> omega

theorem PulseRecord.ringByte_fields (x : PulseRecord) :
    (x.direction, x.ringByte.extractLsb' 0 2) ∈ directionCodes ∧ x.ringByte.extractLsb' 2 4 = 0 ∧
      x.ringByte.getLsbD 6 = true ∧ x.ringByte.getLsbD 7 = x.early := by
  unfold PulseRecord.ringByte
  cases x.direction <;> cases x.early <;> decide

@[simp] theorem Rotor.length_position (r : Rotor) (k : Nat) : (r.position k).length = 5 := by
  unfold Rotor.position
  split <;> rfl

/-- A ring position stands in its part, two to a part. -/
theorem Rotor.byteAt_part (r : Rotor) (k j : Nat) (hj : j < 5) :
    byteAt (r.part (1 + k / 2)) (5 * (k % 2) + j) = byteAt (r.position k) j := by
  have hpart : r.part (1 + k / 2) = r.position (2 * (k / 2)) ++ r.position (2 * (k / 2) + 1) := by
    unfold Rotor.part
    rw [if_neg (by omega), Nat.add_sub_cancel_left]
  unfold byteAt
  rw [hpart]
  rcases Nat.mod_two_eq_zero_or_one k with h | h
  · rw [List.getD_append _ _ _ _ (by simp; omega), h, show 2 * (k / 2) = k by omega]
    simp
  · rw [List.getD_append_right _ _ _ _ (by simp; omega), h, show 2 * (k / 2) + 1 = k by omega]
    simp

theorem Rotor.part_of_record {r : Rotor} {k : Nat} {x : PulseRecord} (h : r.ring[k]? = some x) :
    wordAt (r.part (1 + k / 2)) (5 * (k % 2)) = x.stamp ∧
      byteAt (r.part (1 + k / 2)) (5 * (k % 2) + 4) = x.ringByte := by
  have hp : r.position k = bytesOfWord x.stamp ++ [x.ringByte] := by
    unfold Rotor.position
    rw [h]
  constructor
  · show word (byteAt _ (5 * (k % 2) + 0)) (byteAt _ (5 * (k % 2) + 1)) (byteAt _ (5 * (k % 2) + 2))
      (byteAt _ (5 * (k % 2) + 3)) = _
    rw [r.byteAt_part k 0 (by omega), r.byteAt_part k 1 (by omega), r.byteAt_part k 2 (by omega),
      r.byteAt_part k 3 (by omega), hp]
    exact word_bytes _
  · rw [r.byteAt_part k 4 (by omega), hp]
    rfl

theorem Rotor.part_of_no_record {r : Rotor} {k : Nat} (h : r.ring[k]? = none) (j : Nat) (hj : j < 5) :
    byteAt (r.part (1 + k / 2)) (5 * (k % 2) + j) = 0 := by
  have hp : r.position k = [0, 0, 0, 0, 0] := by
    unfold Rotor.position
    rw [h]
  rw [r.byteAt_part k j hj, hp]
  revert j
  decide

/-! ## Batch records and summaries (R102, R139, R173) -/

theorem BatchState.code_place (x : BatchState) (k : Fin 8) (a b c : Bool) :
    ∀ y, y = (fieldAt k.val 0 ||| x.code <<< 3 ||| flagBit a 5 ||| flagBit b 6 ||| flagBit c 7) →
    (y.extractLsb' 0 3).toNat = k.val ∧ (x, (y.extractLsb' 3 2).setWidth 8) ∈ batchStateCodes ∧ y.getLsbD 5 = a ∧
      y.getLsbD 6 = b ∧ y.getLsbD 7 = c := by
  rintro _ rfl
  revert k a b c
  cases x <;> decide

theorem Summary.outcome_place (x : Summary) (a b : Bool) :
    ∀ y, y = (x.outcomeCode ||| flagBit a 4 ||| flagBit b 5) →
    y.extractLsb' 0 2 = (if x.finished then 1 else 2) ∧ y.getLsbD 4 = a ∧ y.getLsbD 5 = b ∧ y.extractLsb' 2 2 = 0 ∧
      y.extractLsb' 6 2 = 0 := by
  rintro _ rfl
  unfold Summary.outcomeCode
  cases x.finished <;> cases a <;> cases b <;> decide

/-! ## Ports (R153, R159, R173) -/

theorem four_flags (a b c d : Bool) : ∀ y, y = (flagBit a 0 ||| flagBit b 1 ||| flagBit c 2 ||| flagBit d 3) →
    y.getLsbD 0 = a ∧ y.getLsbD 1 = b ∧ y.getLsbD 2 = c ∧ y.getLsbD 3 = d ∧ y.extractLsb' 4 4 = 0 := by
  rintro _ rfl
  revert a b c d
  decide

theorem five_flags (a b c d e : Bool) :
    ∀ y, y = (flagBit a 0 ||| flagBit b 1 ||| flagBit c 2 ||| flagBit d 3 ||| flagBit e 4) →
    y.getLsbD 0 = a ∧ y.getLsbD 1 = b ∧ y.getLsbD 2 = c ∧ y.getLsbD 3 = d ∧ y.getLsbD 4 = e ∧
      y.extractLsb' 5 3 = 0 := by
  rintro _ rfl
  revert a b c d e
  decide

theorem PortClass.code_mem (c : PortClass) : (c, c.code) ∈ classCodes := by cases c <;> decide

/-- Two levels in one byte. -/
theorem toNat_two_levels (a b : Fin 16) : (fieldAt a.val 4 ||| fieldAt b.val 0).toNat = 16 * a.val + b.val := by
  revert a b
  decide

theorem PortState.byteAt_levelBytes (q : PortState) (k : Fin 8) :
    (byteAt q.levelBytes k.val).toNat =
      16 * (q.levels.get ⟨2 * k.val, by omega⟩).val + (q.levels.get ⟨2 * k.val + 1, by omega⟩).val := by
  rw [← toNat_two_levels]
  fin_cases k <;> rfl

/-! ## The replies -/

/-- Settles O25. -/
theorem repliesCarryTheirFields : Obligations.RepliesCarryTheirFields := by
  refine ⟨Params.isCarried_layoutC, fun c => ?_, fun r => ?_, PulseRecord.ringByte_fields, fun r k hk => ?_,
    fun x n => ?_, fun a => ?_, fun q => ?_⟩
  · obtain ⟨hstamp, hyielded, hzero⟩ := two_flags c.grantStamp.isSome c.yielded
    refine ⟨c.state.code_mem, carriesOwner_ownerCode _, rfl, rfl, rfl, half_bytes _, half_bytes _, half_bytes _,
      half_bytes _, c.outcome.code_mem, hstamp, hyielded, hzero, fun w hw => ?_, fun hw => ?_, rfl, rfl⟩
    · exact (word_bytes (c.grantStamp.getD 0)).trans (by rw [hw]; rfl)
    · exact (word_bytes (c.grantStamp.getD 0)).trans (by rw [hw]; rfl)
  · obtain ⟨hmode, hmode0, hdir, hdir0⟩ := r.mode.code_place r.output
    obtain ⟨hphase, hattempts⟩ := r.jogPhase.code_place r.attempts
    obtain ⟨hrest, hlab, hoff, hzero⟩ := three_flags r.atRest r.laboured r.offPhaseDue
    exact ⟨hmode, hmode0, hdir, hdir0, hphase, hattempts, rfl, fun h => (half_bytes _).trans (by rw [h]; rfl),
      fun n h => (half_bytes _).trans (by rw [h, periodCode_some]), hrest, hlab, hoff, hzero, rfl, word_bytes _, rfl,
      fun k => ⟨fun x => Rotor.part_of_record, Rotor.part_of_no_record⟩⟩
  · obtain ⟨hpos, hstate, hmerged, hdose, hgrind⟩ := r.state.code_place ⟨k, by omega⟩ r.merged r.doseOverride.isSome
      r.grindOverride.isSome _ rfl
    refine ⟨word_bytes _, hpos, hstate, hmerged, hdose, hgrind, ?_, half_bytes _, half_bytes _, rfl, low_half_bytes _,
      rfl, word_bytes _, fun w h => ?_, fun h => ?_, half_bytes _, fun v h => ?_, fun h => ?_, fun v h => ?_, fun h => ?_, rfl⟩
    · rw [show halfAt (r.part0 k) 5 = massCode r.mass from half_bytes _]
      exact carriesMass_massCode _
    · exact (word_bytes (r.curedAt.getD 0)).trans (by rw [h]; rfl)
    · exact (word_bytes (r.curedAt.getD 0)).trans (by rw [h]; rfl)
    · exact (half_bytes (r.doseOverride.getD 0)).trans (by rw [h]; rfl)
    · exact (half_bytes (r.doseOverride.getD 0)).trans (by rw [h]; rfl)
    · exact (half_bytes (r.grindOverride.getD 0)).trans (by rw [h]; rfl)
    · exact (half_bytes (r.grindOverride.getD 0)).trans (by rw [h]; rfl)
  · obtain ⟨hout, hover, hmass, hz2, hz6⟩ := x.outcome_place x.overrun x.mass.isSome _ rfl
    refine ⟨word_bytes _, hout, hover, hmass, hz2, hz6, ?_, half_bytes _, half_bytes _, rfl, rfl, word_bytes _,
      word_bytes _, word_bytes _, rfl, word_bytes _, fun w h => ?_, fun h => ?_, half_bytes _, rfl⟩
    · rw [show halfAt (x.part0 n) 5 = massCode x.mass from half_bytes _]
      exact carriesMass_massCode _
    · exact (word_bytes (x.curedAt.getD 0)).trans (by rw [h]; rfl)
    · exact (word_bytes (x.curedAt.getD 0)).trans (by rw [h]; rfl)
  · obtain ⟨h0, h1, h2, h3, h4⟩ := four_flags a.heater a.grinder a.fan a.latch _ rfl
    obtain ⟨k0, k1, k2, k3, k4, k5⟩ := five_flags a.curb a.annotate a.tuning a.haltClear a.access _ rfl
    exact ⟨rfl, h0, h1, h2, h3, h4, k0, k1, k2, k3, k4, k5, rfl⟩
  · refine ⟨q.cls.code_mem, rfl, q.byteAt_levelBytes, fun h => by rw [h]; rfl, fun n h => ?_⟩
    rw [h]
    exact toNat_ofNat_fin (by decide) n

end Sys2Proof.Machine
end

section
/-! The state right after reset (R1, R26, R27, R69, R100, R145, R169). -/

namespace Sys2Proof.Machine

theorem claimsLawful_reset : State.reset.ClaimsLawful := fun i => by
  rw [claim_of_reset_table rfl i]
  exact Claim.lawful_free i 0

/-- Settles O3: the entries are FREE, and each other block's law is read off its reset values. -/
theorem resetStateIsLawful : Obligations.ResetStateIsLawful := by
  have interlock : State.reset.interlock.HaltLawful ∧ State.reset.interlock.InputLawful := by decide
  have rotor : State.reset.rotor.DriveLawful ∧ State.reset.rotor.CountsLawful := by decide
  have chamber : State.reset.ChamberLawful := by decide
  have batch : State.reset.BatchLawful := by decide
  have ports : State.reset.PortsLawful := by decide
  have ranges : State.reset.TuningLawful ∧ State.reset.sensors.Lawful ∧ State.reset.link.Lawful := by decide
  exact ⟨⟨claimsLawful_reset, interlock.1, interlock.2, chamber, rotor.1, rotor.2, batch, ports, ranges⟩,
    State.powerLawful_of_reset_table rfl rfl⟩

end Sys2Proof.Machine
end

section
/-! What an event posts and what its end makes of the claim table: the notices of the shared operations, a resumption
whole (R16, R17), and the outputs and the latch as they follow the claim table when the event is concluded (R53, R78, R81,
R89). -/

namespace Sys2Proof.Machine

/-! ## Notices -/

/-- From the first state to the second the ports change by notices alone, and by those that the test names (R157). -/
structure State.Notifies (s t : State) (named : Source → Port → Prop) : Prop where
  posts : s.PostsExactly t named
  ports : s.PortsButNotices t

theorem State.Notifies.of_ports_eq {s t : State} (h : t.ports = s.ports) : s.Notifies t fun _ _ => False :=
  ⟨postsExactly_of_ports_eq h, portsButNotices_of_ports_eq h⟩

theorem State.Notifies.trans {s t u : State} {a b : Source → Port → Prop} (h : s.Notifies t a) (k : t.Notifies u b) :
    s.Notifies u fun n q => a n q ∨ b n q :=
  ⟨postsExactly_trans h.posts k.posts, portsButNotices_trans h.ports k.ports⟩

theorem State.Notifies.iff {s t : State} {a b : Source → Port → Prop} (h : s.Notifies t a) (hab : ∀ n q, a n q ↔ b n q) :
    s.Notifies t b :=
  ⟨fun n q => (h.posts n q).trans (or_congr_right (hab n q)), h.ports⟩

/-- The notices between two states are those between two others with the same ports. -/
theorem State.Notifies.congr {s s' t t' : State} {a : Source → Port → Prop} (h : s.Notifies t a)
    (hs : s'.ports = s.ports) (ht : t'.ports = t.ports) : s'.Notifies t' a :=
  (((State.Notifies.of_ports_eq hs.symm).trans h).trans (.of_ports_eq ht)).iff (by simp)

theorem State.Notifies.posted {s t : State} {a : Source → Port → Prop} (h : s.Notifies t a) {n : Source} {p : Port}
    (ha : a n p) : t.Posted n p := (h.posts n p).2 (.inr ha)

theorem State.notifies_post (s : State) (n : Source) (p : Port) :
    s.Notifies (s.post n p) fun m q => m = n ∧ q = p :=
  ⟨fun m q => posted_post_iff s n m p q, portsButNotices_post s n p⟩

theorem State.notifies_postAll (s : State) (n : Source) : s.Notifies (s.postAll n) fun m _ => m = n :=
  ⟨postsExactly_postAll s n, portsButNotices_postAll s n⟩

theorem State.notifies_postOwner (s : State) (n : Source) (o : Option Port) :
    s.Notifies (s.postOwner n o) fun m q => m = n ∧ o = some q := by
  refine ⟨postsExactly_postOwner s n o, ?_⟩
  cases o with
  | none => exact portsButNotices_refl s
  | some p => exact portsButNotices_post s n p

/-- A fold of steps that notify notifies, of what any of its steps does. -/
theorem State.Notifies.foldl {α : Type} {f : State → α → State} {a : State → α → Source → Port → Prop}
    (h : ∀ s x, State.Notifies s (f s x) (a s x)) (l : List α) : ∀ s : State,
    ∃ b, s.Notifies (l.foldl f s) b := by
  induction l with
  | nil => intro s; exact ⟨_, .of_ports_eq rfl⟩
  | cons x l ih =>
    intro s
    obtain ⟨b, hb⟩ := ih (f s x)
    exact ⟨_, (h s x).trans hb⟩

/-! ## An entry that enters GRANTED -/

@[simp] theorem Table.holder_eq_none {t : Table} {a : Target} :
    Table.holder t a = none ↔ ∀ i, (t.get i).holds a = false := by
  simp [Table.holder, mem_all16]

theorem Table.granted_eq_some {t : Table} {a : Target} {i : ClaimIdx} :
    Table.granted t a = some i ↔ (t.get i).grantedOn a = true ∧ ∀ j, (t.get j).grantedOn a = true → i ≤ j :=
  find_all16 _ i

theorem Table.granted_eq_none {t : Table} {a : Target} :
    Table.granted t a = none ↔ ∀ i, (t.get i).grantedOn a = false := by
  simp [Table.granted, mem_all16]

/-- The only claim GRANTED on an actuator is found. -/
theorem Table.granted_of_only {t : Table} {a : Target} {i : ClaimIdx} (hi : (t.get i).grantedOn a = true)
    (h : ∀ j, j ≠ i → (t.get j).grantedOn a = false) : Table.granted t a = some i :=
  Table.granted_eq_some.2 ⟨hi, fun j hj => by
    by_cases hji : j = i
    · exact le_of_eq hji.symm
    · rw [h j hji] at hj; cases hj⟩

theorem Claim.grantedOn_iff (c : Claim) (a : Target) :
    c.grantedOn a = true ↔ c.state = .granted ∧ c.active.kind = .drive ∧ c.active.target = a := by
  simp only [Claim.grantedOn, Claim.holds, Claim.isHolder, Claim.holding, Bool.and_eq_true, decide_eq_true_eq]
  cases c.state <;> simp

theorem Claim.holds_iff (c : Claim) (a : Target) :
    c.holds a = true ↔ (c.state = .granted ∨ c.state = .held) ∧ c.active.kind = .drive ∧ c.active.target = a := by
  simp only [Claim.holds, Claim.isHolder, Claim.holding, Bool.and_eq_true, decide_eq_true_eq]
  cases c.state <;> simp

theorem Claim.holds_of_grantedOn {c : Claim} {a : Target} (h : c.grantedOn a = true) : c.holds a = true := by
  simp only [Claim.grantedOn, Bool.and_eq_true] at h
  exact h.1

theorem Claim.grantedOn_of_not_holds {c : Claim} {a : Target} (h : c.holds a = false) : c.grantedOn a = false := by
  simp [Claim.grantedOn, h]

/-- Some claim is GRANTED on the actuator, or it is passing to one (R44, log 9). -/
theorem State.driven_iff (s : State) (a : Target) :
    s.driven a = true ↔ (∃ j, (s.claim j).grantedOn a = true) ∨ s.handsOver a = true := by
  unfold State.driven
  rw [Bool.or_eq_true]
  refine or_congr_left ?_
  cases h : Table.granted s.claims a with
  | none => simp [State.claim, Table.granted_eq_none.1 h]
  | some i => exact ⟨fun _ => ⟨i, (Table.granted_eq_some.1 h).1⟩, fun _ => rfl⟩

/-- The drive of a GRINDER claim that enters GRANTED is that of R88 to R96. -/
theorem Rotor.enterGranted_eq (r : Rotor) (now : Nat) (i : ClaimIdx) (c : Claim) :
    r.enterGranted now c.active.grinderSetting i c.arming = r.grantedBy now i c := by
  have hdir : c.active.direction ≠ .off := by
    unfold Params.direction
    split <;> simp
  unfold Rotor.enterGranted Rotor.drive Rotor.startGrace Rotor.setOutput Rotor.grantedBy
  simp only [Params.grinderSetting, Params.pulsed, Params.offTime]
  by_cases hsame : c.active.direction = r.output
  · have hoff : r.output ≠ .off := hsame ▸ hdir
    simp only [hsame, if_true, hoff, if_false]
    simp [Params.direction, ← hsame]
  · by_cases hoff : r.output = .off
    · simp only [hdir, hoff, if_true, if_false]
      simp [Params.direction]
    · simp only [hsame, hdir, hoff, if_false]
      simp [Params.direction]

end Sys2Proof.Machine
end

section
/-! A resumption whole (R16, R17): every HELD claim returns to GRANTED, its owner is told, and the output of an actuator
without another holder follows. -/

namespace Sys2Proof.Machine

/-! ## One entry enters GRANTED -/

theorem State.enterGranted_ports (s : State) (i : ClaimIdx) :
    (s.enterGranted i).ports = (s.postOwner .granted (s.claim i).owner).ports := by
  unfold State.enterGranted
  simp only
  split <;> cases (s.claim i).owner <;> rfl

theorem State.notifies_enterGranted (s : State) (i : ClaimIdx) :
    s.Notifies (s.enterGranted i) fun n q => n = .granted ∧ (s.claim i).owner = some q :=
  (s.notifies_postOwner .granted (s.claim i).owner).congr rfl (s.enterGranted_ports i)

/-- The claim's entering GRANTED is the driving of that actuator. -/
abbrev Claim.DrivesOn (c : Claim) (a : Target) : Prop := c.active.kind = .drive ∧ c.active.target = a

theorem State.rotor_enterGranted (s : State) (i : ClaimIdx) : (s.enterGranted i).rotor =
    if (s.claim i).DrivesOn .grinder then s.rotor.grantedBy s.time i (s.claim i) else s.rotor := by
  unfold State.enterGranted Claim.DrivesOn
  rw [← Rotor.enterGranted_eq]
  cases hk : (s.claim i).active.kind <;> cases ht : (s.claim i).active.target <;> simp [hk, ht]

theorem State.drives_enterGranted_other {s : State} {i : ClaimIdx} (h : ¬(s.claim i).DrivesOn .heater) :
    (s.enterGranted i).drives = s.drives := by
  unfold State.enterGranted
  unfold Claim.DrivesOn at h
  cases hk : (s.claim i).active.kind <;> cases ht : (s.claim i).active.target <;> simp_all

theorem State.drives_judgeHeater_postOwner (s : State) (n : Source) (o : Option Port) :
    (s.postOwner n o).judgeHeater.drives = s.judgeHeater.drives := by
  unfold State.judgeHeater
  simp [State.claim]

theorem State.drives_enterGranted_heater {s : State} {i : ClaimIdx} (h : (s.claim i).DrivesOn .heater) :
    (s.enterGranted i).drives =
      (s.setClaim i ((s.claim i).grantedAt s.sensors.clock)).judgeHeater.drives := by
  obtain ⟨hk, ht⟩ := h
  unfold State.enterGranted
  simp only [hk, ht]
  exact State.drives_judgeHeater_postOwner _ _ _

/-- The heater output that the table of R79 gives is the one that R80 asks for. -/
theorem heaterJudged_of_regulate {s t : State} {i : ClaimIdx}
    (h : t.drives.heaterOn =
      regulate s.drives.heaterOn ((s.claim i).active.settingA.toNat : Int) s.sensors.plate) : s.HeaterJudged t i := by
  unfold regulate Config.heaterBand at h
  refine ⟨fun hf => ?_, fun hf => ⟨fun hlow => ?_, fun hhigh => ?_, fun hlow hhigh => ?_⟩⟩ <;> rw [h]
  · rw [if_pos hf]
  · rw [if_neg (by simp [hf]), if_pos hlow]
  · rw [if_neg (by simp [hf]), if_neg (by omega), if_pos hhigh]
  · rw [if_neg (by simp [hf]), if_neg (by omega), if_neg (by omega)]

/-- The heater is judged at once for a claim that enters GRANTED as its only holder, in a chamber fit for it (R78, R80). -/
theorem State.heaterJudged_enterGranted {s : State} {i : ClaimIdx} (hok : s.chamberOk = true)
    (hd : (s.claim i).DrivesOn .heater) (honly : ∀ j, j ≠ i → (s.claim j).holds .heater = false) :
    s.HeaterJudged (s.enterGranted i) i := by
  apply heaterJudged_of_regulate
  rw [State.drives_enterGranted_heater hd]
  have hself : (s.setClaim i ((s.claim i).grantedAt s.sensors.clock)).claim i = (s.claim i).grantedAt s.sensors.clock :=
    State.claim_setClaim_self s i _
  have hg : Table.granted (s.setClaim i ((s.claim i).grantedAt s.sensors.clock)).claims .heater = some i := by
    refine Table.granted_of_only ?_ fun j hj => ?_
    · show ((s.setClaim i ((s.claim i).grantedAt s.sensors.clock)).claim i).grantedOn .heater = true
      rw [hself, Claim.grantedOn_iff]
      exact ⟨rfl, hd⟩
    · show ((s.setClaim i ((s.claim i).grantedAt s.sensors.clock)).claim j).grantedOn .heater = false
      rw [State.claim_setClaim, if_neg (Ne.symm hj)]
      exact Claim.grantedOn_of_not_holds (honly j hj)
  unfold State.chamberOk at hok
  simp only [Bool.and_eq_true, Bool.not_eq_true'] at hok
  unfold State.judgeHeater
  simp only [hg, hself]
  simp [hok, Claim.grantedAt]

/-! ## A resume request (R16) -/

/-- An entry after a resume request. -/
def Claim.resumed (c : Claim) (clock : Word) : Claim := if c.state = .held then c.grantedAt clock else c

theorem Claim.resumed_of_held {c : Claim} (h : c.state = .held) (clock : Word) : c.resumed clock = c.grantedAt clock :=
  if_pos h

theorem Claim.resumed_of_not_held {c : Claim} (h : c.state ≠ .held) (clock : Word) : c.resumed clock = c := if_neg h

theorem Claim.state_resumed_ne_held (c : Claim) (clock : Word) : (c.resumed clock).state ≠ .held := by
  unfold Claim.resumed
  split
  · simp [Claim.grantedAt]
  · assumption

@[simp] theorem Claim.resumed_resumed (c : Claim) (clock : Word) : (c.resumed clock).resumed clock = c.resumed clock :=
  Claim.resumed_of_not_held (c.state_resumed_ne_held clock) clock

@[simp] theorem Claim.active_resumed (c : Claim) (clock : Word) : (c.resumed clock).active = c.active := by
  unfold Claim.resumed
  split <;> rfl

@[simp] theorem Claim.holds_resumed (c : Claim) (clock : Word) (a : Target) :
    (c.resumed clock).holds a = c.holds a := by
  unfold Claim.resumed
  split
  next h => exact Bool.eq_iff_iff.2 (by rw [Claim.holds_iff, Claim.holds_iff]; simp [Claim.grantedAt, h])
  next => rfl

theorem State.claim_resumeOne (s : State) (i j : ClaimIdx) :
    (s.resumeOne i).claim j = if i = j then (s.claim j).resumed s.sensors.clock else s.claim j := by
  unfold State.resumeOne Claim.resumed
  by_cases hij : i = j
  · subst hij
    by_cases h : (s.claim i).state = .held <;> simp [h, State.claim_enterGranted]
  · by_cases h : (s.claim i).state = .held <;> simp [h, hij, State.claim_enterGranted]

theorem State.claim_foldl_resumeOne (l : List ClaimIdx) (j : ClaimIdx) : ∀ s : State,
    (l.foldl State.resumeOne s).claim j = if j ∈ l then (s.claim j).resumed s.sensors.clock else s.claim j := by
  induction l with
  | nil => intro s; rfl
  | cons i l ih =>
    intro s
    rw [List.foldl_cons, ih, State.claim_resumeOne, State.resumeOne_sensors]
    by_cases hij : i = j
    · subst hij
      by_cases hl : i ∈ l <;> simp [hl]
    · by_cases hl : j ∈ l <;> simp [hl, hij, Ne.symm hij]

theorem State.claim_resumeAll (s : State) (j : ClaimIdx) : s.resumeAll.claim j = (s.claim j).resumed s.sensors.clock := by
  unfold State.resumeAll
  rw [State.claim_foldl_resumeOne, if_pos (mem_all16 j)]

theorem State.notifies_resumeOne (s : State) (i : ClaimIdx) :
    s.Notifies (s.resumeOne i) fun n q => n = .granted ∧ (s.claim i).state = .held ∧ (s.claim i).owner = some q := by
  unfold State.resumeOne
  split
  next h => exact (s.notifies_enterGranted i).iff (by simp [h])
  next h => exact (State.Notifies.of_ports_eq rfl).iff (by simp [h])

theorem State.notifies_foldl_resumeOne (l : List ClaimIdx) : ∀ s : State,
    s.Notifies (l.foldl State.resumeOne s) fun n q =>
      n = .granted ∧ ∃ j ∈ l, (s.claim j).state = .held ∧ (s.claim j).owner = some q := by
  induction l with
  | nil => intro s; exact (State.Notifies.of_ports_eq rfl).iff (by simp)
  | cons i l ih =>
    intro s
    refine ((s.notifies_resumeOne i).trans (ih (s.resumeOne i))).iff fun n q => ?_
    have hrest : ∀ j, ((s.resumeOne i).claim j).state = .held ∧ ((s.resumeOne i).claim j).owner = some q ↔
        j ≠ i ∧ (s.claim j).state = .held ∧ (s.claim j).owner = some q := by
      intro j
      rw [State.claim_resumeOne]
      by_cases hij : i = j
      · simp [hij, Claim.state_resumed_ne_held]
      · simp [hij, Ne.symm hij]
    simp only [hrest, List.mem_cons, exists_eq_or_imp]
    constructor
    · rintro (⟨hn, h⟩ | ⟨hn, j, hj, -, h⟩)
      · exact ⟨hn, .inl h⟩
      · exact ⟨hn, .inr ⟨j, hj, h⟩⟩
    · rintro ⟨hn, h | ⟨j, hj, h⟩⟩
      · exact .inl ⟨hn, h⟩
      · by_cases hji : j = i
        · exact .inl ⟨hn, hji ▸ h⟩
        · exact .inr ⟨hn, j, hj, hji, h⟩

theorem State.notifies_resumeAll (s : State) : s.Notifies s.resumeAll fun n q =>
    n = .granted ∧ ∃ j, (s.claim j).state = .held ∧ (s.claim j).owner = some q :=
  (s.notifies_foldl_resumeOne all16).iff (by simp [mem_all16])

/-! ## The outputs at a resumption (R80, R89) -/

theorem Claim.not_drivesOn_of_held {c : Claim} {a : Target} (h : c.holds a = false) (hs : c.state = .held) :
    ¬c.DrivesOn a := fun hd => by
  rw [(Claim.holds_iff c a).2 ⟨.inr hs, hd⟩] at h
  cases h

/-- What no HELD entry of a list has, none has after one more resumption either. -/
theorem State.held_resumeOne {s : State} {i : ClaimIdx} {l : List ClaimIdx} {a : Target}
    (h : ∀ k ∈ i :: l, (s.claim k).state = .held → ¬(s.claim k).DrivesOn a) :
    ∀ k ∈ l, ((s.resumeOne i).claim k).state = .held → ¬((s.resumeOne i).claim k).DrivesOn a := by
  intro k hk hheld
  rw [State.claim_resumeOne] at hheld ⊢
  split at hheld
  · exact absurd hheld (Claim.state_resumed_ne_held _ _)
  next hik =>
    rw [if_neg hik]
    exact h k (by simp [hk]) hheld

theorem State.rotor_foldl_resumeOne {l : List ClaimIdx} : ∀ {s : State},
    (∀ k ∈ l, (s.claim k).state = .held → ¬(s.claim k).DrivesOn .grinder) →
    (l.foldl State.resumeOne s).rotor = s.rotor := by
  induction l with
  | nil => intro s _; rfl
  | cons i l ih =>
    intro s h
    have hi : (s.resumeOne i).rotor = s.rotor := by
      unfold State.resumeOne
      split
      next hheld => rw [State.rotor_enterGranted, if_neg (h i (by simp) hheld)]
      next => rfl
    rw [List.foldl_cons, ih (State.held_resumeOne h), hi]

theorem State.drives_foldl_resumeOne {l : List ClaimIdx} : ∀ {s : State},
    (∀ k ∈ l, (s.claim k).state = .held → ¬(s.claim k).DrivesOn .heater) →
    (l.foldl State.resumeOne s).drives = s.drives := by
  induction l with
  | nil => intro s _; rfl
  | cons i l ih =>
    intro s h
    have hi : (s.resumeOne i).drives = s.drives := by
      unfold State.resumeOne
      split
      next hheld => exact State.drives_enterGranted_other (h i (by simp) hheld)
      next => rfl
    rw [List.foldl_cons, ih (State.held_resumeOne h), hi]

/-- The entries before and after one of them. -/
theorem exists_all16_eq (i : ClaimIdx) : ∃ a b, all16 = a ++ i :: b ∧ i ∉ a ∧ i ∉ b := by
  obtain ⟨a, b, hl⟩ := List.append_of_mem (mem_all16 i)
  have hn : (a ++ i :: b).Nodup := hl ▸ (by decide : all16.Nodup)
  have hmid := List.nodup_middle.1 hn
  refine ⟨a, b, hl, ?_, ?_⟩ <;> intro hi <;> simp [hi] at hmid

/-- The turn of one entry in a resume request: before it nothing of that entry has changed. -/
theorem State.resumeAll_at (s : State) {i : ClaimIdx} (hheld : (s.claim i).state = .held) : ∃ a b : List ClaimIdx,
    i ∉ a ∧ i ∉ b ∧ (a.foldl State.resumeOne s).claim i = s.claim i ∧
    s.resumeAll = b.foldl State.resumeOne ((a.foldl State.resumeOne s).enterGranted i) := by
  obtain ⟨a, b, hl, ha, hb⟩ := exists_all16_eq i
  have hi : (a.foldl State.resumeOne s).claim i = s.claim i := by rw [State.claim_foldl_resumeOne, if_neg ha]
  refine ⟨a, b, ha, hb, hi, ?_⟩
  unfold State.resumeAll
  rw [hl, List.foldl_append, List.foldl_cons]
  congr 1
  unfold State.resumeOne
  rw [if_pos (hi ▸ hheld)]

theorem State.foldl_resumeOne_frame (l : List ClaimIdx) : ∀ s : State,
    (l.foldl State.resumeOne s).sensors = s.sensors ∧ (l.foldl State.resumeOne s).time = s.time ∧
    (l.foldl State.resumeOne s).interlock = s.interlock := by
  induction l with
  | nil => intro s; exact ⟨rfl, rfl, rfl⟩
  | cons i l ih =>
    intro s
    obtain ⟨hm, ht, hu⟩ := ih (s.resumeOne i)
    exact ⟨hm.trans (by simp), ht.trans (by simp), hu.trans (by simp)⟩

theorem State.holds_foldl_resumeOne (l : List ClaimIdx) (s : State) (j : ClaimIdx) (a : Target) :
    ((l.foldl State.resumeOne s).claim j).holds a = (s.claim j).holds a := by
  rw [State.claim_foldl_resumeOne]
  split
  · exact Claim.holds_resumed _ _ _
  · rfl

theorem State.holds_enterGranted_ne {s : State} {i j : ClaimIdx} (h : j ≠ i) (a : Target) :
    ((s.enterGranted i).claim j).holds a = (s.claim j).holds a := by
  rw [State.claim_enterGranted, if_neg (Ne.symm h)]

theorem State.rotor_resumeAll {s : State} {i : ClaimIdx} (hheld : (s.claim i).state = .held)
    (hd : (s.claim i).DrivesOn .grinder) (honly : ∀ j, j ≠ i → (s.claim j).holds .grinder = false) :
    s.resumeAll.rotor = s.rotor.grantedBy s.time i (s.claim i) := by
  obtain ⟨a, b, ha, hb, hi, hall⟩ := s.resumeAll_at hheld
  have hne : ∀ (k : ClaimIdx) (l : List ClaimIdx), i ∉ l → k ∈ l → k ≠ i := fun k l hl hk he => hl (he ▸ hk)
  have hbefore : (a.foldl State.resumeOne s).rotor = s.rotor :=
    State.rotor_foldl_resumeOne fun k hk => Claim.not_drivesOn_of_held (honly k (hne k a ha hk))
  rw [hall, State.rotor_foldl_resumeOne, State.rotor_enterGranted, hi, if_pos hd, hbefore,
    (s.foldl_resumeOne_frame a).2.1]
  intro k hk
  apply Claim.not_drivesOn_of_held
  rw [State.holds_enterGranted_ne (hne k b hb hk), State.holds_foldl_resumeOne]
  exact honly k (hne k b hb hk)

theorem State.heaterJudged_resumeAll {s : State} {i : ClaimIdx} (hok : s.chamberOk = true)
    (hheld : (s.claim i).state = .held) (hd : (s.claim i).DrivesOn .heater)
    (honly : ∀ j, j ≠ i → (s.claim j).holds .heater = false) : s.HeaterJudged s.resumeAll i := by
  obtain ⟨a, b, ha, hb, hi, hall⟩ := s.resumeAll_at hheld
  have hne : ∀ (k : ClaimIdx) (l : List ClaimIdx), i ∉ l → k ∈ l → k ≠ i := fun k l hl hk he => hl (he ▸ hk)
  obtain ⟨hm, -, hu⟩ := s.foldl_resumeOne_frame a
  have hbefore : (a.foldl State.resumeOne s).drives = s.drives :=
    State.drives_foldl_resumeOne fun k hk => Claim.not_drivesOn_of_held (honly k (hne k a ha hk))
  have hafter : s.resumeAll.drives = ((a.foldl State.resumeOne s).enterGranted i).drives := by
    rw [hall]
    refine State.drives_foldl_resumeOne fun k hk => Claim.not_drivesOn_of_held ?_
    rw [State.holds_enterGranted_ne (hne k b hb hk), State.holds_foldl_resumeOne]
    exact honly k (hne k b hb hk)
  have hj : (a.foldl State.resumeOne s).HeaterJudged ((a.foldl State.resumeOne s).enterGranted i) i := by
    refine State.heaterJudged_enterGranted ?_ (hi ▸ hd) fun j hj => ?_
    · unfold State.chamberOk at hok ⊢
      rw [hu]
      exact hok
    · rw [State.holds_foldl_resumeOne]
      exact honly j hj
  unfold State.HeaterJudged at hj ⊢
  rwa [hafter, ← hm, ← hi, ← hbefore]

/-- A resume request in a chamber fit for it resumes each HELD claim (R16). -/
theorem State.resumed_resumeAll {s : State} (hok : s.chamberOk = true) {i : ClaimIdx}
    (hheld : (s.claim i).state = .held) : s.Resumed s.resumeAll i :=
  ⟨(s.claim_resumeAll i).trans (Claim.resumed_of_held hheld _),
    fun _ hp => s.notifies_resumeAll.posted ⟨rfl, i, hheld, hp⟩,
    fun hk => ⟨fun ht honly => State.heaterJudged_resumeAll hok hheld ⟨hk, ht⟩ honly,
      fun ht honly => State.rotor_resumeAll hheld ⟨hk, ht⟩ honly⟩⟩

end Sys2Proof.Machine
end

section
/-! The end of an event (R53, R61, R78, R81, R89): the latch command and with it the HELD claims, the rotor, the heater and
the fan follow the claim table, and what the notices of the event are (R157). -/

namespace Sys2Proof.Machine

/-! ## The latch at the end of an event -/

/-- The end of an event resumes the HELD claims: no claim drives the latch any more, and the chamber is fit (R53). -/
def State.ResumesHeld (u : State) : Prop :=
  u.driven .latch = false ∧ u.interlock.latchCommand = .release ∧ u.chamberOk = true

theorem State.chamberOk_setLatchCommand (s : State) (k : LatchCommand) :
    (s.setLatchCommand k).chamberOk = s.chamberOk := by
  unfold State.setLatchCommand State.chamberOk
  split <;> rfl

theorem State.chamberOk_of_interlock {s t : State} (h : t.interlock = s.interlock) : t.chamberOk = s.chamberOk := by
  unfold State.chamberOk
  rw [h]

theorem State.driven_congr {s t : State} (hc : t.claims = s.claims) (ha : t.arbiter.handover = s.arbiter.handover)
    (a : Target) : t.driven a = s.driven a := by
  unfold State.driven State.handsOver
  rw [hc, ha]

/-- A resumption at the end of an event is one of the event's state with the command at ENGAGE. -/
theorem State.followLatch_of_resumes {u : State} (h : u.ResumesHeld) :
    u.followLatch = (u.setLatchCommand .engage).resumeAll := by
  obtain ⟨hd, hc, hk⟩ := h
  obtain ⟨hd', -⟩ | ⟨-, hc', -⟩ | ⟨-, -, hk', -⟩ | ⟨-, -, -, heq⟩ := u.followLatch_cases
  · rw [hd] at hd'; cases hd'
  · rw [hc] at hc'; cases hc'
  · rw [hk] at hk'; cases hk'
  · exact heq

/-- Without a resumption the latch command alone follows. -/
theorem State.followLatch_of_not_resumes {u : State} (h : ¬u.ResumesHeld) :
    u.followLatch = u.setLatchCommand (if u.driven .latch then .release else .engage) := by
  obtain ⟨hd, heq⟩ | ⟨hd, hc, heq⟩ | ⟨hd, -, -, heq⟩ | ⟨hd, hc, hk, -⟩ := u.followLatch_cases
  · rw [heq, hd]; rfl
  · rw [heq, hd]
    exact (if_pos hc).symm
  · rw [heq, hd]; rfl
  · exact absurd ⟨hd, hc, hk⟩ h

theorem State.followLatch_interlock (u : State) : u.followLatch.interlock =
    (u.setLatchCommand (if u.driven .latch then .release else .engage)).interlock := by
  by_cases h : u.ResumesHeld
  · rw [State.followLatch_of_resumes h, State.resumeAll_interlock, h.1]
    rfl
  · rw [State.followLatch_of_not_resumes h]

theorem State.chamberOk_followLatch (u : State) : u.followLatch.chamberOk = u.chamberOk :=
  (State.chamberOk_of_interlock u.followLatch_interlock).trans (u.chamberOk_setLatchCommand _)

theorem State.claim_followLatch_of_resumes {u : State} (h : u.ResumesHeld) (j : ClaimIdx) :
    u.followLatch.claim j = (u.claim j).resumed u.sensors.clock := by
  rw [State.followLatch_of_resumes h, State.claim_resumeAll, State.claim_setLatchCommand, State.setLatchCommand_sensors]

theorem State.claims_followLatch_of_not_resumes {u : State} (h : ¬u.ResumesHeld) : u.followLatch.claims = u.claims := by
  rw [State.followLatch_of_not_resumes h, State.setLatchCommand_claims]

theorem State.claim_followLatch_of_not_held {u : State} {j : ClaimIdx} (h : (u.claim j).state ≠ .held) :
    u.followLatch.claim j = u.claim j := by
  by_cases hr : u.ResumesHeld
  · rw [State.claim_followLatch_of_resumes hr, Claim.resumed_of_not_held h]
  · exact State.claim_congr (State.claims_followLatch_of_not_resumes hr) j

theorem State.notifies_followLatch (u : State) : u.Notifies u.followLatch fun n q =>
    n = .granted ∧ u.ResumesHeld ∧ ∃ j, (u.claim j).state = .held ∧ (u.claim j).owner = some q := by
  by_cases hr : u.ResumesHeld
  · rw [State.followLatch_of_resumes hr]
    refine ((State.notifies_resumeAll (u.setLatchCommand .engage)).congr (s' := u) ?_ rfl).iff fun n q => ?_
    · exact (u.setLatchCommand_ports _).symm
    · simp [hr]
  · rw [State.followLatch_of_not_resumes hr]
    exact (State.Notifies.of_ports_eq (u.setLatchCommand_ports _)).iff (by simp [hr])

/-! ## What the end of an event keeps -/

theorem State.conclude_claims (u old : State) : (u.conclude old).claims = u.followLatch.claims := by
  simp [State.conclude, State.settleOutputs]

theorem State.claim_conclude (u old : State) (j : ClaimIdx) : (u.conclude old).claim j = u.followLatch.claim j := by
  exact State.claim_congr (u.conclude_claims old) j

theorem State.conclude_ports (u old : State) : (u.conclude old).ports = u.followLatch.ports := by
  simp [State.conclude, State.settleOutputs]

theorem State.conclude_interlock (u old : State) : (u.conclude old).interlock = u.followLatch.interlock := by
  simp [State.conclude, State.settleOutputs]

theorem State.conclude_rotor (u old : State) : (u.conclude old).rotor = u.followLatch.followRotor.rotor := by
  simp [State.conclude, State.settleOutputs]

theorem State.conclude_heaterOn (u old : State) : (u.conclude old).drives.heaterOn =
    u.followLatch.followRotor.followHeater.drives.heaterOn := by
  simp [State.conclude, State.settleOutputs, State.followFan]

theorem State.fanDuty_followFan (x : State) (old : Table) :
    (x.followFan.touchClaims old).drives.fanDuty = (x.followFan.touchClaims old).fanDutyWanted := rfl

theorem State.conclude_fanDuty (u old : State) :
    (u.conclude old).drives.fanDuty = (u.conclude old).fanDutyWanted := by
  unfold State.conclude State.settleOutputs
  exact State.fanDuty_followFan _ _

theorem State.link_touchClaims (x : State) (old : Table) :
    (x.touchClaims old).link = { x.link with touched := (x.touchClaims old).link.touched } := rfl

theorem State.beyondTheTable_conclude (u old : State) : u.BeyondTheTable (u.conclude old) := by
  refine ⟨by simp, by simp, by simp, by simp, by simp, ?_⟩
  have hl := u.settleOutputs.link_touchClaims old.claims
  rwa [State.settleOutputs_link] at hl

theorem State.chamberOk_conclude (u old : State) : (u.conclude old).chamberOk = u.chamberOk :=
  (State.chamberOk_of_interlock (u.conclude_interlock old)).trans u.chamberOk_followLatch

/-- The rotor stands at the end of an event while the grinder is driven in a chamber fit for it (R89). -/
theorem State.conclude_rotor_of_driven {u : State} (old : State) (hok : u.chamberOk = true)
    (hd : u.followLatch.driven .grinder = true) : (u.conclude old).rotor = u.followLatch.rotor := by
  rw [State.conclude_rotor]
  unfold State.followRotor
  rw [hd, u.chamberOk_followLatch, hok]
  rfl

theorem State.conclude_rotor_of_not_driven {u : State} (old : State) (hd : u.followLatch.driven .grinder = false) :
    (u.conclude old).rotor = u.followLatch.rotor.stop u.time := by
  rw [State.conclude_rotor]
  unfold State.followRotor
  simp [hd]

theorem State.conclude_heaterOn_of_driven {u : State} (old : State) (hok : u.chamberOk = true)
    (hd : u.followLatch.driven .heater = true) : (u.conclude old).drives.heaterOn = u.followLatch.drives.heaterOn := by
  have hf : u.followLatch.followRotor.chamberOk = true :=
    (State.chamberOk_of_interlock (by simp)).trans (u.chamberOk_followLatch.trans hok)
  have hdr : u.followLatch.followRotor.driven .heater = true := by
    rw [← hd]
    exact State.driven_congr (by simp) (by simp) _
  rw [State.conclude_heaterOn]
  unfold State.followHeater
  rw [hf, hdr]
  simp

/-! ## A resumption seen from the state before the event -/

/-- A resumption is carried over: to an earlier state in which the entry, the clock, the plate, the drives and the rotor
are the same and no more claims hold, and from a later state that agrees with it on the entry and the outputs. -/
theorem State.Resumed.carry {s s' t t' : State} {i : ClaimIdx} (h : s.Resumed t i) (hc : s'.claim i = s.claim i)
    (hm : s'.sensors = s.sensors) (hd : s'.drives = s.drives) (hr : s'.rotor = s.rotor) (htime : s'.time = s.time)
    (hholds : ∀ j a, j ≠ i → (s'.claim j).holds a = false → (s.claim j).holds a = false)
    (hct : t'.claim i = t.claim i) (hp : ∀ p, t.Posted .granted p → t'.Posted .granted p)
    (hheater : (s.claim i).DrivesOn .heater → t'.drives.heaterOn = t.drives.heaterOn)
    (hrotor : (s.claim i).DrivesOn .grinder → t'.rotor = t.rotor) : s'.Resumed t' i := by
  obtain ⟨hclaim, hpost, hout⟩ := h
  refine ⟨by rw [hct, hclaim, hc, hm], fun p ho => hp p (hpost p (hc ▸ ho)), fun hk => ?_⟩
  rw [hc] at hk ⊢
  obtain ⟨hh, hg⟩ := hout hk
  refine ⟨fun ht honly => ?_, fun ht honly => ?_⟩
  · have hj := hh ht fun j hj => hholds j _ hj (honly j hj)
    unfold State.HeaterJudged at hj ⊢
    rwa [hc, hm, hd, hheater ⟨hk, ht⟩]
  · rw [hrotor ⟨hk, ht⟩, hg ht fun j hj => hholds j _ hj (honly j hj), hr, htime]

/-- The end of an event keeps the outputs of what its own resumption started, and so does a later change of the latch
command alone. -/
theorem State.Resumed.conclude {s u : State} {i : ClaimIdx} (h : s.Resumed u.followLatch i) (hok : u.chamberOk = true)
    (old : State) : s.Resumed (u.conclude old) i := by
  have hdriven : ∀ a, (s.claim i).DrivesOn a → u.followLatch.driven a = true := fun a hd =>
    (State.driven_iff _ a).2 (.inl ⟨i, by rw [h.1]; exact (Claim.grantedOn_iff _ a).2 ⟨rfl, hd⟩⟩)
  refine h.carry rfl rfl rfl rfl rfl (fun _ _ _ hh => hh) (u.claim_conclude old i) (fun p hp => ?_) (fun hd => ?_)
    fun hd => ?_
  · unfold State.Posted State.port at hp ⊢
    rwa [State.conclude_ports]
  · exact State.conclude_heaterOn_of_driven old hok (hdriven _ hd)
  · exact State.conclude_rotor_of_driven old hok (hdriven _ hd)

/-! ## The end of an event that has changed entries -/

/-- No change of the event itself is that of a resumption: an entry that has changed is not HELD, and has not gone from
HELD to GRANTED. -/
def State.LeavesTheHeld (s u : State) : Prop := ∀ j, u.claim j = s.claim j ∨
  ((u.claim j).state ≠ .held ∧ ((s.claim j).state = .held → (u.claim j).state ≠ .granted))

theorem State.othersStand_conclude {s u : State} {named : ClaimIdx → Bool} (hclock : u.sensors.clock = s.sensors.clock)
    (h : ∀ j, named j = false → u.claim j = s.claim j) (old : State) : s.OthersStand (u.conclude old) named := by
  intro j hj
  rw [State.claim_conclude]
  by_cases hr : u.ResumesHeld
  · by_cases hheld : (u.claim j).state = .held
    · right
      rw [State.claim_followLatch_of_resumes hr, Claim.resumed_of_held hheld, hclock, h j hj]
      exact ⟨h j hj ▸ hheld, rfl⟩
    · left
      rw [State.claim_followLatch_of_not_held hheld, h j hj]
  · left
    rw [State.claim_congr (State.claims_followLatch_of_not_resumes hr) j, h j hj]

theorem State.claim_conclude_of_not_held {u : State} {j : ClaimIdx} (h : (u.claim j).state ≠ .held) (old : State) :
    (u.conclude old).claim j = u.claim j := by
  rw [State.claim_conclude, State.claim_followLatch_of_not_held h]

/-- The notices of the end of an event are those of the event's resumptions (R16). -/
theorem State.notifies_conclude_resumes {s u : State} (h : s.LeavesTheHeld u) (old : State) :
    u.Notifies (u.conclude old) (s.ResumeNotice (u.conclude old)) := by
  refine (u.notifies_followLatch.congr rfl (u.conclude_ports old)).iff fun n q => and_congr_right fun _ => ?_
  simp only [State.claim_conclude]
  constructor
  · rintro ⟨hr, j, hheld, ho⟩
    have hj : u.claim j = s.claim j := (h j).resolve_right fun hne => hne.1 hheld
    refine ⟨j, hj ▸ hheld, ?_, hj ▸ ho⟩
    rw [State.claim_followLatch_of_resumes hr, Claim.resumed_of_held hheld]
    rfl
  · rintro ⟨j, hheld, hgranted, ho⟩
    have hj : u.claim j = s.claim j := (h j).resolve_right fun hne =>
      hne.2 hheld (by rwa [State.claim_followLatch_of_not_held hne.1] at hgranted)
    rw [← hj] at hheld ho
    refine ⟨?_, j, hheld, ho⟩
    by_contra hr
    rw [State.claim_congr (State.claims_followLatch_of_not_resumes hr) j, hheld] at hgranted
    cases hgranted

/-- The notices of an event are its own and those of its resumptions (R16, R157). -/
theorem State.notifies_conclude {s u : State} {named : Source → Port → Prop} (hn : s.Notifies u named)
    (h : s.LeavesTheHeld u) (old : State) :
    s.Notifies (u.conclude old) fun n q => named n q ∨ s.ResumeNotice (u.conclude old) n q :=
  hn.trans (State.notifies_conclude_resumes h old)

/-! ## The latch as entries leave GRANTED (R53, R61) -/

theorem Claim.holds_eq_false {c : Claim} (h : c.holding = false) (a : Target) : c.holds a = false := by
  simp [Claim.holds, Claim.isHolder, h]

theorem Claim.ne_held_of_holding {c : Claim} (h : c.holding = false) : c.state ≠ .held := by
  intro hs
  simp [Claim.holding, hs] at h

/-- What an event has done at the claim table before its end: the entries that the test names hold nothing any more, no
other has begun or ceased to, and nothing else that the latch and the outputs follow has changed. -/
structure State.Leaves (s u : State) (leaves : ClaimIdx → Bool) : Prop where
  left : ∀ j, leaves j = true → (u.claim j).holding = false
  stays : ∀ j, leaves j = false → u.claim j = s.claim j ∨
    ((s.claim j).holding = false ∧ (u.claim j).holding = false)
  interlock : u.interlock = s.interlock
  rotor : u.rotor = s.rotor
  drives : u.drives = s.drives
  sensors : u.sensors = s.sensors
  time : u.time = s.time
  handover : u.arbiter.handover = s.arbiter.handover

theorem State.Leaves.grantedOn {s u : State} {leaves : ClaimIdx → Bool} (h : s.Leaves u leaves) (j : ClaimIdx)
    (a : Target) : (u.claim j).grantedOn a = (!leaves j && (s.claim j).grantedOn a) := by
  cases hj : leaves j with
  | true => exact Claim.grantedOn_of_not_holds (Claim.holds_eq_false (h.left j hj) a)
  | false =>
    rcases h.stays j hj with heq | ⟨hs, hu⟩
    · simp [heq]
    · simp [Claim.grantedOn_of_not_holds (Claim.holds_eq_false hs a),
        Claim.grantedOn_of_not_holds (Claim.holds_eq_false hu a)]

theorem State.Leaves.holds {s u : State} {leaves : ClaimIdx → Bool} (h : s.Leaves u leaves) {j : ClaimIdx}
    {a : Target} (hs : (s.claim j).holds a = false) : (u.claim j).holds a = false := by
  cases hj : leaves j with
  | true => exact Claim.holds_eq_false (h.left j hj) a
  | false =>
    rcases h.stays j hj with heq | ⟨-, hu⟩
    · rwa [heq]
    · exact Claim.holds_eq_false hu a

theorem driven_of_handover_none {s : State} (h : s.arbiter.handover = none) (a : Target) :
    s.driven a = true ↔ ∃ j, (s.claim j).grantedOn a = true := by
  rw [State.driven_iff]
  simp [State.handsOver, h]

theorem disagrees_iff (u : Interlock) : u.disagrees = true ↔ (u.latchCommand = .engage ↔ u.feedbackEngaged = false) := by
  unfold Interlock.disagrees
  cases u.latchCommand <;> cases u.feedbackEngaged <;> decide

/-- What becomes of the latch as entries leave GRANTED is what the end of the event makes of it (R53, R61). -/
theorem State.Leaves.latchFollows {s u : State} {leaves : ClaimIdx → Bool} (h : s.Leaves u leaves) (old : State) :
    s.LatchFollowsLeaving (u.conclude old) leaves := by
  intro hho hlatch
  have hdu : u.driven .latch = true ↔ ∃ j, leaves j = false ∧ (s.claim j).grantedOn .latch = true := by
    rw [driven_of_handover_none (h.handover.trans hho)]
    simp [h.grantedOn]
  have hds := driven_of_handover_none hho .latch
  refine ⟨fun hstand => ?_, fun hsome hleft => ?_⟩
  · have hsame : u.driven .latch = s.driven .latch := Bool.eq_iff_iff.2 (by
      rw [hdu, hds]
      rcases hstand with ⟨j, hj, hg⟩ | hnone
      · exact iff_of_true ⟨j, hj, hg⟩ ⟨j, hg⟩
      · simp [hnone])
    rw [State.conclude_interlock, State.followLatch_interlock, setLatchCommand_stands, h.interlock]
    rw [h.interlock, hsame]
    cases hd : s.driven .latch with
    | true => exact hlatch.2 hd
    | false =>
      cases hc : s.interlock.latchCommand with
      | engage => rfl
      | release => rw [hlatch.1 hc] at hd; cases hd
  · have hrel : s.interlock.latchCommand = .release := hlatch.2 (hds.2 hsome)
    have hnot : u.driven .latch = false := by
      rw [← Bool.not_eq_true, hdu]
      rintro ⟨j, hj, hg⟩
      rw [hleft j hj] at hg
      cases hg
    refine ⟨?_, fun hok j hj hheld => ?_⟩
    · rw [State.conclude_interlock, State.followLatch_interlock, hnot, if_neg (by simp),
        setLatchCommand_interlock (by rw [h.interlock, hrel]; simp), h.interlock, h.time]
    · have hres : u.ResumesHeld :=
        ⟨hnot, by rw [h.interlock, hrel], (State.chamberOk_of_interlock h.interlock).trans hok⟩
      have hsame : u.claim j = s.claim j := (h.stays j hj).resolve_right fun hne =>
        Claim.ne_held_of_holding hne.1 hheld
      have hres' : (u.setLatchCommand .engage).Resumed u.followLatch j := by
        rw [State.followLatch_of_resumes hres]
        refine State.resumed_resumeAll ((u.chamberOk_setLatchCommand _).trans hres.2.2) ?_
        rw [State.claim_setLatchCommand, hsame]
        exact hheld
      refine State.Resumed.conclude (hres'.carry ?_ ?_ ?_ ?_ ?_ ?_ rfl (fun _ hp => hp) (fun _ => rfl) fun _ => rfl)
        hres.2.2 old
      · rw [State.claim_setLatchCommand, hsame]
      · rw [State.setLatchCommand_sensors, h.sensors]
      · rw [State.setLatchCommand_drives, h.drives]
      · rw [State.setLatchCommand_rotor, h.rotor]
      · rw [State.setLatchCommand_time, h.time]
      · intro k a _ hk
        rw [State.claim_setLatchCommand]
        exact h.holds hk

/-! ## The reply after the end of an event -/

theorem posted_answer (x : State) (p : Port) (st : Status) (data : List Byte) (n : Source) (q : Port) :
    (x.answer p st data).Posted n q ↔ x.Posted n q := by
  unfold State.Posted
  by_cases hpq : p = q
  · subst hpq
    unfold State.answer
    rw [State.port_updPort_self]
    rfl
  · unfold State.answer
    rw [State.port_updPort, if_neg hpq]

/-- A reply does not depend on the port's notices. -/
theorem blank_answer (y : PortState) (st : Status) (data : List Byte) :
    { (y.answer st data).refresh with notices := 0, attn := false } =
      { ({ y with notices := 0, attn := false } : PortState).answer st data with notices := 0, attn := false } := rfl

/-- A reply after the notices is the notices after the reply. -/
theorem portsButNotices_answer {s x : State} {p : Port} {code : Byte} {req : List Byte} (h : s.Asks p code req)
    (hx : s.PortsButNotices x) (st : Status) (data : List Byte) :
    (s.replied p st code data).PortsButNotices (x.answer p st data) := by
  have hpost : ∀ q, q ≠ p → (x.answer p st data).port q = x.port q := fun q hq => by
    unfold State.answer
    rw [State.port_updPort, if_neg (Ne.symm hq)]
  intro q
  obtain ⟨hport, hnotices⟩ := hx q
  by_cases hq : q = p
  · subst hq
    have hs : (s.replied q st code data).port q = ((s.port q).answer st data).refresh := by
      rw [← answer_eq_replied h]
      exact State.port_updPort_self s q _
    have ht : (x.answer q st data).port q = ((x.port q).answer st data).refresh := State.port_updPort_self x q _
    rw [hs, ht]
    exact ⟨by rw [blank_answer, hport, ← blank_answer], hnotices⟩
  · have hs : (s.replied p st code data).port q = s.port q := by
      rw [← answer_eq_replied h]
      unfold State.answer
      rw [State.port_updPort, if_neg (Ne.symm hq)]
    rw [hpost q hq, hs]
    exact ⟨hport, hnotices⟩

theorem State.LatchFollowsLeaving.answer {s x : State} {leaves : ClaimIdx → Bool} (h : s.LatchFollowsLeaving x leaves)
    (p : Port) (st : Status) (data : List Byte) : s.LatchFollowsLeaving (x.answer p st data) leaves := by
  intro hho hlatch
  obtain ⟨hstands, hreturns⟩ := h hho hlatch
  refine ⟨hstands, fun hsome hleft => ?_⟩
  obtain ⟨hu, hresumed⟩ := hreturns hsome hleft
  exact ⟨hu, fun hok j hj hheld => (hresumed hok j hj hheld).carry rfl rfl rfl rfl rfl (fun _ _ _ hk => hk) rfl
    (fun q hq => (posted_answer x p st data _ q).2 hq) (fun _ => rfl) fun _ => rfl⟩

end Sys2Proof.Machine
end

section
/-! Entries that leave GRANTED: ARM (R9, R10), DISARM (R11), and the ends with their chain step (R19 to R23). -/

namespace Sys2Proof.Machine

/-! ## Beyond the table -/

theorem State.BeyondTheTable.trans {s u t : State} (h : s.BeyondTheTable u) (k : u.BeyondTheTable t) :
    s.BeyondTheTable t := by
  obtain ⟨hm, hb, hv, ht, hp, hl⟩ := h
  obtain ⟨km, kb, kv, kt, kp, kl⟩ := k
  refine ⟨km.trans hm, kb.trans hb, kv.trans hv, kt.trans ht, kp.trans hp, ?_⟩
  rw [kl, hl]

theorem State.BeyondTheTable.of_eq {s u : State} (hm : u.sensors = s.sensors) (hb : u.batch = s.batch)
    (hv : u.tuning = s.tuning) (ht : u.time = s.time) (hp : u.pending = s.pending) (hl : u.link = s.link) :
    s.BeyondTheTable u := ⟨hm, hb, hv, ht, hp, by rw [hl]⟩

theorem State.beyondTheTable_answer (x : State) (p : Port) (st : Status) (data : List Byte) :
    x.BeyondTheTable (x.answer p st data) := .of_eq rfl rfl rfl rfl rfl rfl

/-! ## Entries that leave -/

/-- Entries that hold nothing after an event are not HELD, and have not been resumed by it. -/
theorem State.Leaves.leavesTheHeld {s u : State} {leaves : ClaimIdx → Bool} (h : s.Leaves u leaves) :
    s.LeavesTheHeld u := by
  have hout : ∀ j, (u.claim j).holding = false →
      (u.claim j).state ≠ .held ∧ ((s.claim j).state = .held → (u.claim j).state ≠ .granted) := fun j hj =>
    ⟨Claim.ne_held_of_holding hj, fun _ hg => by simp [Claim.holding, hg] at hj⟩
  intro j
  cases hj : leaves j with
  | true => exact .inr (hout j (h.left j hj))
  | false =>
    rcases h.stays j hj with heq | ⟨-, hu⟩
    · exact .inl heq
    · exact .inr (hout j hu)

/-- One entry alone is written, and holds nothing any more. -/
theorem State.leaves_of_setClaim {s u : State} {i : ClaimIdx} {c : Claim} (hc : c.holding = false)
    (hu : u.claims = (s.setClaim i c).claims) (hi : u.interlock = s.interlock) (hr : u.rotor = s.rotor)
    (hd : u.drives = s.drives) (hm : u.sensors = s.sensors) (ht : u.time = s.time)
    (hh : u.arbiter.handover = s.arbiter.handover) : s.Leaves u (· == i) := by
  have hclaim : ∀ j, u.claim j = if i = j then c else s.claim j := fun j =>
    (State.claim_congr hu j).trans (s.claim_setClaim i j c)
  refine ⟨fun j hj => ?_, fun j hj => .inl ?_, hi, hr, hd, hm, ht, hh⟩
  · rw [hclaim, if_pos (beq_iff_eq.1 hj).symm]
    exact hc
  · rw [hclaim, if_neg (beq_eq_false_iff_ne.1 hj).symm]

/-! ## ARM (R9, R10) -/

theorem State.takeArm_ok {s : State} {p : Port} {req : List Byte} {i : ClaimIdx}
    (h : s.ownEntry p (byteAt req 1) = .ok i) (hr : armRefusal (s.port p).access i (s.claim i).staged = none) :
    s.takeArm p req = (((s.setClaim i (s.claim i).armed).reportPass).conclude s).answer p .ok [] := by
  unfold State.takeArm
  rw [h]
  show (match armRefusal (s.port p).access i (s.claim i).staged with
    | some st => s.refuse p st
    | none => (((s.setClaim i (s.claim i).armed).reportPass).conclude s).answer p .ok []) = _
  rw [hr]

theorem Params.chainOk_iff {q : Params} {i : ClaimIdx} : q.chainOk i = true ↔ ∀ k, q.followOn = some k → i < k := by
  unfold Params.chainOk
  cases q.followOn <;> simp

/-- What an event does outside the entries that leave: nothing beyond the claim table, its own notices and those of its
resumptions, and a pass. -/
structure State.EndsWell (s t : State) (leaves : ClaimIdx → Bool) (named : Source → Port → Prop) : Prop where
  ports : s.PortsButNotices t
  posts : s.PostsExactly t fun n q => named n q ∨ s.ResumeNotice t n q
  latch : s.LatchFollowsLeaving t leaves
  beyond : s.BeyondTheTable t
  passDue : t.passDue = true
  requests : t.arbiter.requests = s.arbiter.requests

/-- An event in which entries leave ends with the latch, the resumptions and a pass (R29, R53). -/
theorem State.Leaves.endsWell {s u : State} {leaves : ClaimIdx → Bool} {named : Source → Port → Prop}
    (h : s.Leaves u leaves) (hn : s.Notifies u named) (hb : s.BeyondTheTable u) (hp : u.passDue = true)
    (hr : u.arbiter.requests = s.arbiter.requests) (old : State) : s.EndsWell (u.conclude old) leaves named := by
  have hnotices := State.notifies_conclude hn h.leavesTheHeld old
  have harbiter : (u.conclude old).arbiter = u.arbiter := State.conclude_arbiter u old
  refine ⟨hnotices.ports, hnotices.posts, h.latchFollows old, hb.trans (u.beyondTheTable_conclude old), ?_, ?_⟩
  · unfold State.passDue at hp ⊢
    rwa [harbiter]
  · rw [harbiter, hr]

theorem State.EndsWell.answer {s x : State} {leaves : ClaimIdx → Bool} {named : Source → Port → Prop}
    (h : s.EndsWell x leaves named) (p : Port) (st : Status) (data : List Byte) :
    s.PostsExactly (x.answer p st data) (fun n q => named n q ∨ s.ResumeNotice (x.answer p st data) n q) ∧
    s.LatchFollowsLeaving (x.answer p st data) leaves ∧ s.BeyondTheTable (x.answer p st data) ∧
    (x.answer p st data).passDue = true ∧ (x.answer p st data).arbiter.requests = s.arbiter.requests :=
  ⟨fun n q => (posted_answer x p st data n q).trans (h.posts n q), State.LatchFollowsLeaving.answer h.latch p st data,
    h.beyond.trans (x.beyondTheTable_answer p st data), h.passDue, h.requests⟩

theorem State.claim_conclude_answer_of_not_held {u : State} {j : ClaimIdx} (h : (u.claim j).state ≠ .held) (old : State)
    (p : Port) (st : Status) (data : List Byte) : ((u.conclude old).answer p st data).claim j = u.claim j := by
  rw [State.claim_answer, State.claim_conclude_of_not_held h]

theorem State.OthersStand.answer {s x : State} {named : ClaimIdx → Bool} (h : s.OthersStand x named) (p : Port)
    (st : Status) (data : List Byte) : s.OthersStand (x.answer p st data) named := fun j hj => by
  rw [State.claim_answer]
  exact h j hj

/-- One entry is written and a pass called for: what that leaves (R29). -/
theorem State.leaves_setClaim_reportPass {s : State} {i : ClaimIdx} {c : Claim} (hc : c.holding = false) :
    s.Leaves (s.setClaim i c).reportPass (· == i) :=
  State.leaves_of_setClaim hc (State.reportPass_claims _) (State.reportPass_interlock _)
    (State.reportPass_rotor _) (State.reportPass_drives _) (State.reportPass_sensors _) (State.reportPass_time _)
    (State.reportPass_handover _)

theorem State.endsWell_setClaim_reportPass {s : State} {i : ClaimIdx} {c : Claim} (hc : c.holding = false) :
    s.EndsWell ((s.setClaim i c).reportPass.conclude s) (· == i) fun _ _ => False :=
  (State.leaves_setClaim_reportPass hc).endsWell (.of_ports_eq (State.reportPass_ports _))
    (.of_eq (State.reportPass_sensors _) (State.reportPass_batch _) (State.reportPass_tuning _) (State.reportPass_time _)
      (State.reportPass_pending _) (State.reportPass_link _))
    (State.reportPass_passDue _) (State.reportPass_requests _) s

theorem State.claim_setClaim_reportPass (s : State) (i j : ClaimIdx) (c : Claim) :
    (s.setClaim i c).reportPass.claim j = if i = j then c else s.claim j := by
  rw [State.claim_reportPass, State.claim_setClaim]

/-- Settles O33. -/
theorem armPutsTheClaimInForce : Obligations.ArmPutsTheClaimInForce := by
  intro p req s i hasks hidx hstate howner hcons hperm hfloor hchain
  have hwell : s.EndsWell ((s.setClaim i (s.claim i).armed).reportPass.conclude s) (· == i) fun _ _ => False :=
    State.endsWell_setClaim_reportPass rfl
  obtain ⟨hposts, hlatch, hbeyond, hpass, hrequests⟩ := hwell.answer p .ok []
  have hself : (s.setClaim i (s.claim i).armed).reportPass.claim i = (s.claim i).armed := by
    rw [State.claim_setClaim_reportPass, if_pos rfl]
  refine ⟨_, ?_, ?_, ?_, portsButNotices_answer hasks hwell.ports .ok [], hbeyond, ?_, hlatch, hpass, hrequests⟩
  · show onRequest s p 0x09 (s.takeArm p) = _
    rw [onRequest_asks hasks, State.takeArm_ok (State.ownEntry_eq_ok.2 ⟨claimIndex_ofNat hidx, hstate, howner⟩)
      (armRefusal_eq_none.2 ⟨hcons, hperm, hfloor, Params.chainOk_iff.2 hchain⟩)]
  · rw [State.claim_conclude_answer_of_not_held (by rw [hself]; simp [Claim.armed]), hself]
    rfl
  · refine State.OthersStand.answer (State.othersStand_conclude (by rw [State.reportPass_sensors]; rfl)
      (fun j hj => ?_) s) p .ok []
    rw [State.claim_setClaim_reportPass, if_neg (beq_eq_false_iff_ne.1 hj).symm]
  · exact fun n q => (hposts n q).trans (or_congr_right (iff_of_eq (false_or _)))

/-! ## Ends (R19, R20) -/

theorem Claim.holding_afterEnd (c : Claim) (why : ClaimOutcome) : (c.afterEnd why).holding = false := by
  unfold Claim.afterEnd
  split <;> rfl

theorem Claim.holding_of_draft_or_ended {c : Claim} (h : c.state = .draft ∨ c.state = .ended) : c.holding = false := by
  rcases h with h | h <;> simp [Claim.holding, h]

/-- The chain step of the end, if it has one, is not of the ending claim itself: a follow-on is greater (R8). -/
def State.EndsApart (s : State) (i : ClaimIdx) (why : ClaimOutcome) : Prop :=
  why = .done → (s.claim i).active.followOn ≠ some i

/-- The entry whose claim ends. -/
theorem State.claim_endClaim_self {s : State} {i : ClaimIdx} {why : ClaimOutcome} (hk : s.EndsApart i why) :
    (s.endClaim i why).claim i = (s.claim i).afterEnd why := by
  rw [State.claim_endClaim, if_neg (c := why = .done ∧ _) fun h => hk h.1 h.2.1]
  unfold Claim.afterEnd
  cases (s.claim i).active.oneShot <;> simp [Claim.finished]

/-- Another entry at an end: its chain step's target may be armed (R20). -/
theorem State.claim_endClaim_other {s : State} {i j : ClaimIdx} (h : i ≠ j) (why : ClaimOutcome) :
    (s.endClaim i why).claim j =
      if why = .done ∧ (s.claim i).active.followOn = some j ∧
          (s.setClaim i ((s.claim i).finished why)).chainArms (s.claim i).owner j = true then
        (s.claim j).armed
      else s.claim j := by
  rw [State.claim_endClaim, State.claim_setClaim]
  simp [h]

/-- The chain step of an end breaks: the follow-on may not be armed (R20). -/
def State.ChainBreaks (s : State) (i : ClaimIdx) (why : ClaimOutcome) : Prop :=
  why = .done ∧ ∃ k, (s.claim i).active.followOn = some k ∧
    (s.setClaim i ((s.claim i).finished why)).chainArms (s.claim i).owner k = false

theorem State.notifies_chainStep (s : State) (owner : Option Port) (followOn : Option ClaimIdx) :
    s.Notifies (s.chainStep owner followOn) fun n q =>
      (∃ k, followOn = some k ∧ s.chainArms owner k = false) ∧ n = .chainBroken ∧ owner = some q := by
  unfold State.chainStep
  cases followOn with
  | none => exact (State.Notifies.of_ports_eq rfl).iff (by simp)
  | some k =>
    simp only [Option.some.injEq, exists_eq_left']
    split
    next h =>
      refine State.Notifies.iff (a := fun _ _ => False) (.of_ports_eq rfl) fun n q => ?_
      simp [h]
    next h => exact (s.notifies_postOwner .chainBroken owner).iff (by simp [h])

theorem State.notifies_endClaim (s : State) (i : ClaimIdx) (why : ClaimOutcome) :
    s.Notifies (s.endClaim i why) fun n q =>
      (s.ChainBreaks i why ∧ n = .chainBroken ∧ (s.claim i).owner = some q) ∨
        (n = .ended ∧ (s.claim i).owner = some q) := by
  have hfree : ∀ u : State, u.Notifies (if (s.claim i).active.oneShot = true then
      u.setClaim i (.free (s.claim i).arming) else u) fun _ _ => False := fun u => by
    split <;> exact .of_ports_eq rfl
  unfold State.endClaim
  refine ((State.Notifies.trans ?_ (hfree _)).trans (State.notifies_postOwner _ .ended _)).iff
    (a := fun n q => ((s.ChainBreaks i why ∧ n = .chainBroken ∧ (s.claim i).owner = some q) ∨ False) ∨
      (n = .ended ∧ (s.claim i).owner = some q)) (fun n q => by rw [or_false])
  by_cases hw : why = .done
  · rw [if_pos hw]
    refine ((State.notifies_chainStep (s.setClaim i ((s.claim i).finished why)) (s.claim i).owner
      (s.claim i).active.followOn).congr (s' := s) rfl rfl).iff fun n q => ?_
    simp [State.ChainBreaks, hw]
  · rw [if_neg hw]
    refine State.Notifies.iff (a := fun _ _ => False) (.of_ports_eq rfl) fun n q => ?_
    simp [State.ChainBreaks, hw]

/-- At an end the claim leaves, and its follow-on at most becomes PENDING (R19, R20). -/
theorem State.leaves_endAndReport {s : State} {i : ClaimIdx} {why : ClaimOutcome}
    (hk : s.EndsApart i why) : s.Leaves (s.endAndReport i why) (· == i) := by
  refine ⟨fun j hj => ?_, fun j hj => ?_, State.endAndReport_interlock _ _ _, State.endAndReport_rotor _ _ _,
    State.endAndReport_drives _ _ _, State.endAndReport_sensors _ _ _, State.endAndReport_time _ _ _, ?_⟩
  · obtain rfl := beq_iff_eq.1 hj
    unfold State.endAndReport
    rw [State.claim_reportPass, State.claim_endClaim_self hk]
    exact Claim.holding_afterEnd _ _
  · unfold State.endAndReport
    rw [State.claim_reportPass, State.claim_endClaim_other (beq_eq_false_iff_ne.1 hj).symm]
    split
    next h =>
      obtain ⟨-, -, harms⟩ := h
      obtain ⟨-, hstate, -⟩ := (State.chainArms_iff _ _ _).1 harms
      rw [State.claim_setClaim, if_neg (beq_eq_false_iff_ne.1 hj).symm] at hstate
      exact .inr ⟨Claim.holding_of_draft_or_ended hstate, rfl⟩
    next => exact .inl rfl
  · unfold State.endAndReport
    rw [State.reportPass_handover, State.endClaim_arbiter]

theorem State.endsWell_endAndReport {s : State} {i : ClaimIdx} {why : ClaimOutcome}
    (hk : s.EndsApart i why) : s.EndsWell ((s.endAndReport i why).conclude s) (· == i) fun n q =>
      (s.ChainBreaks i why ∧ n = .chainBroken ∧ (s.claim i).owner = some q) ∨
        (n = .ended ∧ (s.claim i).owner = some q) := by
  refine (State.leaves_endAndReport hk).endsWell
    ((s.notifies_endClaim i why).congr rfl (State.reportPass_ports _))
    (.of_eq (State.endAndReport_sensors _ _ _) (State.endAndReport_batch _ _ _) (State.endAndReport_tuning _ _ _)
      (State.endAndReport_time _ _ _) (State.endAndReport_pending _ _ _) (State.endAndReport_link _ _ _))
    (State.reportPass_passDue _) ?_ s
  unfold State.endAndReport
  rw [State.reportPass_requests, State.endClaim_arbiter]

theorem State.claim_conclude_endAndReport_self {s : State} {i : ClaimIdx} {why : ClaimOutcome}
    (hk : s.EndsApart i why) :
    ((s.endAndReport i why).conclude s).claim i = (s.claim i).afterEnd why := by
  have hi : (s.endAndReport i why).claim i = (s.claim i).afterEnd why := by
    unfold State.endAndReport
    rw [State.claim_reportPass, State.claim_endClaim_self hk]
  rw [State.claim_conclude_of_not_held (by rw [hi]; exact Claim.ne_held_of_holding (Claim.holding_afterEnd _ _)), hi]

/-- The other entries stand at an end, but for the follow-on. -/
theorem State.othersStand_endAndReport {s : State} {i : ClaimIdx} {why : ClaimOutcome} {named : ClaimIdx → Bool}
    (hi : named i = true) (hf : ∀ k, why = .done → (s.claim i).active.followOn = some k → named k = true) :
    s.OthersStand ((s.endAndReport i why).conclude s) named := by
  refine State.othersStand_conclude (by rw [State.endAndReport_sensors]) (fun j hj => ?_) s
  have hij : i ≠ j := fun he => by rw [← he, hi] at hj; cases hj
  unfold State.endAndReport
  rw [State.claim_reportPass, State.claim_endClaim_other hij, if_neg]
  rintro ⟨hw, hk, -⟩
  rw [hf j hw hk] at hj
  cases hj

/-! ## DISARM (R11) -/

theorem Claim.inForce_iff (c : Claim) :
    c.inForce = true ↔ c.state = .pending ∨ c.state = .granted ∨ c.state = .held := by
  unfold Claim.inForce
  cases c.state <;> simp

theorem State.takeDisarm_ok {s : State} {p : Port} {req : List Byte} {i : ClaimIdx}
    (h : s.ownEntry p (byteAt req 1) = .ok i) : s.takeDisarm p req = (s.disarm i).answer p .ok [] := by
  unfold State.takeDisarm
  rw [h]

theorem exec_disarm {s : State} {p : Port} {req : List Byte} {i : ClaimIdx} (hasks : s.Asks p 0x0A req)
    (hidx : byteAt req 1 = BitVec.ofNat 8 i.val) (hstate : (s.claim i).state ≠ .free)
    (howner : (s.claim i).owner = some p) : exec (.disarm p) s = .next ((s.disarm i).answer p .ok []) := by
  show onRequest s p 0x0A (s.takeDisarm p) = _
  rw [onRequest_asks hasks, State.takeDisarm_ok (State.ownEntry_eq_ok.2 ⟨claimIndex_ofNat hidx, hstate, howner⟩)]

theorem State.disarm_inForce {s : State} {i : ClaimIdx} (h : (s.claim i).inForce = true) :
    s.disarm i = (s.endAndReport i .withdrawn).conclude s := by
  unfold State.disarm
  rw [if_pos h]

theorem State.disarm_idle {s : State} {i : ClaimIdx} (h : ¬(s.claim i).inForce = true) :
    s.disarm i = (s.setClaim i (.free (s.claim i).arming)).touchClaims s.claims := by
  unfold State.disarm
  rw [if_neg h]

/-- Settles O35. -/
theorem disarmEndsOrFrees : Obligations.DisarmEndsOrFrees := by
  intro p req s i hasks hidx howner
  refine ⟨fun hforce => ?_, fun hidle => ?_⟩
  · have hstate : (s.claim i).state ≠ .free := by rcases hforce with h | h | h <;> simp [h]
    have hapart : s.EndsApart i .withdrawn := fun h => by cases h
    have hwell := State.endsWell_endAndReport hapart
    obtain ⟨hposts, hlatch, hbeyond, hpass, hrequests⟩ := hwell.answer p .ok []
    refine ⟨((s.endAndReport i .withdrawn).conclude s).answer p .ok [], ?_, ?_, ?_, ?_, fun n q => ?_, hlatch,
      portsButNotices_answer hasks hwell.ports .ok [], hbeyond, hpass, hrequests⟩
    · rw [exec_disarm hasks hidx hstate howner, State.disarm_inForce ((Claim.inForce_iff _).2 hforce)]
    · rw [State.claim_answer, State.claim_conclude_endAndReport_self hapart]
    · exact State.OthersStand.answer (State.othersStand_endAndReport (by simp) fun k h => by cases h) p .ok []
    · exact (hposts .ended p).2 (.inr (.inl (.inr ⟨rfl, howner⟩)))
    · rw [hposts n q, howner]
      simp [State.ChainBreaks, eq_comm (a := p)]
  · have hstate : (s.claim i).state ≠ .free := by rcases hidle with h | h <;> simp [h]
    have hforce : ¬(s.claim i).inForce = true := by
      rw [Claim.inForce_iff]
      rcases hidle with h | h <;> simp [h]
    have htouched := State.touched_setClaim_changed (s := s) (i := i) (c := .free (s.claim i).arming) (Ne.symm hstate)
    refine ⟨((s.setClaim i (.free (s.claim i).arming)).touchClaims s.claims).answer p .ok [], ?_, ?_, fun j hj => ?_, ?_⟩
    · rw [exec_disarm hasks hidx hstate howner, State.disarm_idle hforce]
    · rw [State.claim_answer, State.claim_touchClaims, State.claim_setClaim_self]
    · rw [State.claim_answer, State.claim_touchClaims, State.claim_setClaim, if_neg (Ne.symm hj)]
    · rw [← answer_eq_replied hasks, ← htouched]
      rfl

/-! ## The expiries (R20, R22, R23) -/

theorem exec_runTimeExpiry {s : State} {i : ClaimIdx} (hg : (s.claim i).state = .granted) (h0 : (s.claim i).remRun = 0) :
    exec (.runTimeExpiry i) s = .next ((s.endAndReport i .done).conclude s) := by
  show execRunTimeExpiry i s = _
  unfold execRunTimeExpiry
  rw [if_pos (by simp [Claim.runTimeOver, hg, h0])]

theorem exec_deadlineExpiry {s : State} {i : ClaimIdx} (hp : (s.claim i).state = .pending)
    (hd : (s.claim i).active.deadline ≠ 0) (h0 : (s.claim i).remDeadline = 0) :
    exec (.deadlineExpiry i) s = .next ((s.endAndReport i .lapsed).conclude s) := by
  show execDeadlineExpiry i s = _
  unfold execDeadlineExpiry
  rw [if_pos (by simp [Claim.deadlineOver, hp, hd, h0])]

/-- Without a follow-on to arm, an end leaves every other entry and tells the owner ENDED alone. -/
theorem State.ends_alone {s : State} {i : ClaimIdx} {why : ClaimOutcome}
    (h : why = .done → (s.claim i).active.followOn = none) (t : State) (ht : t = (s.endAndReport i why).conclude s) :
    t.claim i = (s.claim i).afterEnd why ∧
      s.OthersStand t (· == i) ∧ t.PostedToOwner .ended (s.claim i).owner ∧ s.PortsButNotices t ∧
      s.PostsExactly t (fun n q => (n = .ended ∧ (s.claim i).owner = some q) ∨ s.ResumeNotice t n q) ∧
      s.LatchFollowsLeaving t (· == i) ∧ s.BeyondTheTable t ∧ t.passDue = true := by
  subst ht
  have hapart : s.EndsApart i why := fun hw => by rw [h hw]; simp
  have hbreaks : ¬s.ChainBreaks i why := by
    rintro ⟨hw, k, hk, -⟩
    rw [h hw] at hk
    cases hk
  have hwell := State.endsWell_endAndReport hapart
  refine ⟨State.claim_conclude_endAndReport_self hapart, State.othersStand_endAndReport (by simp) fun k hw hk => ?_,
    fun q hq => (hwell.posts .ended q).2 (.inr (.inl (.inr ⟨rfl, hq⟩))), hwell.ports, fun n q => ?_, hwell.latch,
    hwell.beyond, hwell.passDue⟩
  · rw [h hw] at hk
    cases hk
  · rw [hwell.posts n q]
    simp [hbreaks]

/-- The follow-on of an ending claim of the port is armed when it is of the same port, stands in DRAFT or ENDED, and passes
checks 4 to 7 of R8 (R20). -/
theorem State.chainArms_finished_iff {s : State} {i k : ClaimIdx} (hik : i ≠ k) (p : Port) (why : ClaimOutcome) :
    (s.setClaim i ((s.claim i).finished why)).chainArms (some p) k = true ↔ (s.claim k).owner = some p ∧
      ((s.claim k).state = .draft ∨ (s.claim k).state = .ended) ∧ (s.claim k).staged.consistent = true ∧
      (s.port p).access.permits (s.claim k).staged = true ∧ (s.port p).access.floor ≤ (s.claim k).staged.level.val ∧
      ∀ m, (s.claim k).staged.followOn = some m → k < m := by
  rw [State.chainArms_iff, armRefusal_eq_none, Params.chainOk_iff, State.claim_setClaim, if_neg hik]
  rfl

/-- The follow-on at the end of a run: armed, or as it stood but for a resumption (R20). -/
theorem State.claim_followOn {s : State} {i k : ClaimIdx} (hik : i ≠ k) (hf : (s.claim i).active.followOn = some k) :
    ((s.setClaim i ((s.claim i).finished .done)).chainArms (s.claim i).owner k = true →
      ((s.endAndReport i .done).conclude s).claim k = (s.claim k).armed) ∧
    ((s.setClaim i ((s.claim i).finished .done)).chainArms (s.claim i).owner k = false →
      (((s.endAndReport i .done).conclude s).claim k).arming = (s.claim k).arming ∧
      ((s.claim k).state ≠ .held → ((s.endAndReport i .done).conclude s).claim k = s.claim k)) := by
  have hk : (s.endAndReport i .done).claim k = (s.endClaim i .done).claim k := State.claim_reportPass _ _
  rw [State.claim_endClaim_other hik] at hk
  refine ⟨fun ha => ?_, fun ha => ?_⟩
  · rw [if_pos ⟨rfl, hf, ha⟩] at hk
    rw [State.claim_conclude_of_not_held (by rw [hk]; simp [Claim.armed]), hk]
  · rw [if_neg (by simp [ha])] at hk
    refine ⟨?_, fun hheld => by rw [State.claim_conclude_of_not_held (by rwa [hk]), hk]⟩
    rw [State.claim_conclude]
    by_cases hr : (s.endAndReport i .done).ResumesHeld
    · rw [State.claim_followLatch_of_resumes hr, hk]
      unfold Claim.resumed
      split <;> rfl
    · rw [State.claim_congr (State.claims_followLatch_of_not_resumes hr) k, hk]

theorem notices_rearrange (broken chain owner ended resumes : Prop) :
    (broken ∧ chain ∧ owner ∨ ended ∧ owner) ∨ resumes ↔ ended ∧ owner ∨ chain ∧ owner ∧ broken ∨ resumes := by
  tauto

/-- Settles O37. -/
theorem timersEndClaimsAndArmFollowOns : Obligations.TimersEndClaimsAndArmFollowOns := by
  refine ⟨fun s i => ⟨fun hg h0 hf => ?_, fun hp hd h0 => ?_⟩, fun s i k p hg h0 hf hik howner => ?_⟩
  · exact ⟨_, exec_runTimeExpiry hg h0, State.ends_alone (fun _ => hf) _ rfl⟩
  · exact ⟨_, exec_deadlineExpiry hp hd h0, State.ends_alone (fun h => by cases h) _ rfl⟩
  · have hne : i ≠ k := ne_of_lt hik
    have hapart : s.EndsApart i .done := fun _ => by rw [hf]; exact fun h => hne (Option.some.inj h).symm
    have hwell := State.endsWell_endAndReport hapart
    obtain ⟨harmed, hbroken⟩ := State.claim_followOn hne hf
    have harms := State.chainArms_finished_iff (s := s) hne p .done
    rw [howner] at harmed hbroken
    have hbreaks : s.ChainBreaks i .done ↔ (s.setClaim i ((s.claim i).finished .done)).chainArms (some p) k = false := by
      simp [State.ChainBreaks, hf, howner]
    have harming : s.ChainBreaks i .done ↔
        (((s.endAndReport i .done).conclude s).claim k).arming = (s.claim k).arming := by
      rw [hbreaks]
      refine ⟨fun ha => (hbroken ha).1, fun ha => ?_⟩
      rw [← Bool.not_eq_true]
      intro harm
      rw [harmed harm] at ha
      exact absurd ha (by simp [Claim.armed])
    refine ⟨_, exec_runTimeExpiry hg h0, State.claim_conclude_endAndReport_self hapart,
      (hwell.posts .ended p).2 (.inr (.inl (.inr ⟨rfl, howner⟩))),
      State.othersStand_endAndReport (by simp) fun m _ hm => by simp [Option.some.inj (hf.symm.trans hm)],
      hwell.passDue, hwell.ports, hwell.beyond, hwell.latch, fun n q => ?_, fun h => harmed (harms.2 h), fun h => ?_⟩
    · have hp : some p = some q ↔ q = p := by rw [Option.some.injEq, eq_comm]
      rw [hwell.posts n q]
      simp only [harming, howner, hp]
      exact or_congr_right (notices_rearrange _ _ _ _ _)
    · have hnot : (s.setClaim i ((s.claim i).finished .done)).chainArms (some p) k = false := by
        rw [← Bool.not_eq_true, harms]
        rintro ⟨ho, hstate, hcons, hperm, hfloor, hchain⟩
        rcases h with h | h | h | h | h | ⟨m, hm, hmk⟩
        · exact h ho
        · rw [Claim.inForce_iff] at h
          rcases hstate with hs | hs <;> simp [hs] at h
        · rw [hcons] at h; cases h
        · rw [hperm] at h; cases h
        · omega
        · exact absurd (hchain m hm) (not_lt.2 hmk)
      exact ⟨(hwell.posts .chainBroken p).2 (.inr (.inl (.inl ⟨hbreaks.2 hnot, rfl, howner⟩))), (hbroken hnot).2⟩

end Sys2Proof.Machine
end

section
/-! PORT_RESET (R25, R156): the entries of the port leave, and nothing is posted at a port that no notice names. -/

namespace Sys2Proof.Machine

/-! ## A port that no notice names -/

theorem State.port_enterGranted_of_ne {s : State} {i : ClaimIdx} {p : Port} (h : (s.claim i).owner ≠ some p) :
    (s.enterGranted i).port p = s.port p := by
  refine (State.port_congr (s.enterGranted_ports i) p).trans ?_
  unfold State.postOwner
  cases ho : (s.claim i).owner with
  | none => rfl
  | some q =>
    unfold State.post
    rw [State.port_updPort, if_neg]
    rintro rfl
    exact h ho

theorem State.port_foldl_resumeOne {p : Port} {l : List ClaimIdx} : ∀ {s : State},
    (∀ k ∈ l, (s.claim k).owner = some p → (s.claim k).state ≠ .held) →
    (l.foldl State.resumeOne s).port p = s.port p := by
  induction l with
  | nil => intro s _; rfl
  | cons i l ih =>
    intro s h
    have hi : (s.resumeOne i).port p = s.port p := by
      unfold State.resumeOne
      split
      next hheld => exact State.port_enterGranted_of_ne fun ho => h i (by simp) ho hheld
      next => rfl
    rw [List.foldl_cons, ih, hi]
    intro k hk ho
    rw [State.claim_resumeOne] at ho ⊢
    split
    · exact Claim.state_resumed_ne_held _ _
    next hik => exact h k (by simp [hk]) (by rwa [if_neg hik] at ho)

/-- The end of an event leaves a port alone that owns no HELD claim. -/
theorem State.port_conclude {u : State} {p : Port} (h : ∀ k, (u.claim k).owner = some p → (u.claim k).state ≠ .held)
    (old : State) : (u.conclude old).port p = u.port p := by
  rw [State.port_congr (u.conclude_ports old)]
  by_cases hr : u.ResumesHeld
  · rw [State.followLatch_of_resumes hr]
    unfold State.resumeAll
    rw [State.port_foldl_resumeOne fun k _ => by rw [State.claim_setLatchCommand]; exact h k]
    exact State.port_congr (u.setLatchCommand_ports _) p
  · rw [State.followLatch_of_not_resumes hr]
    exact State.port_congr (u.setLatchCommand_ports _) p

/-! ## The entries of the port (R25) -/

theorem State.claim_resetEntry (p : Port) (s : State) (i j : ClaimIdx) : (State.resetEntry p s i).claim j =
    if i = j ∧ (s.claim j).owner = some p then .free (s.claim j).arming else s.claim j := by
  unfold State.resetEntry
  by_cases hij : i = j
  · subst hij
    by_cases ho : (s.claim i).owner = some p
    · by_cases hf : (s.claim i).inForce = true <;> simp [ho, hf]
    · simp [ho]
  · by_cases ho : (s.claim i).owner = some p
    · by_cases hf : (s.claim i).inForce = true <;> simp [ho, hf, hij, State.claim_setClaim]
    · simp [ho, hij]

theorem State.claim_foldl_resetEntry (p : Port) (l : List ClaimIdx) (j : ClaimIdx) : ∀ s : State,
    (l.foldl (State.resetEntry p) s).claim j =
      if j ∈ l ∧ (s.claim j).owner = some p then .free (s.claim j).arming else s.claim j := by
  induction l with
  | nil => intro s; simp
  | cons i l ih =>
    intro s
    rw [List.foldl_cons, ih, State.claim_resetEntry]
    by_cases ho : (s.claim j).owner = some p
    · by_cases hij : i = j
      · simp [hij, ho, Claim.free]
      · simp [hij, ho, Ne.symm hij]
    · simp [ho]

theorem State.claim_resetEntries (s : State) (p : Port) (j : ClaimIdx) : (s.resetEntries p).claim j =
    if (s.claim j).owner = some p then .free (s.claim j).arming else s.claim j := by
  unfold State.resetEntries
  rw [State.claim_foldl_resetEntry]
  simp [mem_all16]

theorem State.portsButNotices_resetEntry (p : Port) (s : State) (i : ClaimIdx) :
    s.PortsButNotices (State.resetEntry p s i) := by
  unfold State.resetEntry
  simp only
  split
  · split
    · exact portsButNotices_trans (portsButNotices_of_ports_eq rfl) (portsButNotices_post (s.setClaim i _) .ended p)
    · exact portsButNotices_of_ports_eq rfl
  · exact portsButNotices_refl s

theorem State.port_resetEntry_other {p q : Port} (h : q ≠ p) (s : State) (i : ClaimIdx) :
    (State.resetEntry p s i).port q = s.port q := by
  unfold State.resetEntry
  simp only
  split
  · split
    · unfold State.post
      rw [State.port_updPort, if_neg (Ne.symm h)]
      rfl
    · rfl
  · rfl

theorem State.portsButNotices_resetEntries (s : State) (p : Port) : s.PortsButNotices (s.resetEntries p) := by
  unfold State.resetEntries
  exact foldl_invariant (fun u => s.PortsButNotices u) (State.resetEntry p)
    (fun u i h => portsButNotices_trans h (u.portsButNotices_resetEntry p i)) all16 s (portsButNotices_refl s)

theorem State.port_resetEntries_other {p q : Port} (h : q ≠ p) (s : State) : (s.resetEntries p).port q = s.port q := by
  unfold State.resetEntries
  exact foldl_keeps (fun u => u.port q) (State.resetEntry p) (fun u i => State.port_resetEntry_other h u i) all16 s

/-! ## PORT_RESET (R25, R156) -/

/-- The steps of a PORT_RESET after its entries: the reservation, the port's own state and the pass (R156). -/
def State.clearPort (x : State) (p : Port) : State := ((x.setReservation p .none).updPort p PortState.portReset).reportPass

theorem State.takePortReset_eq (s : State) (p : Port) : s.takePortReset p = ((s.resetEntries p).clearPort p).conclude s := by
  unfold State.takePortReset State.clearPort
  rfl

theorem State.clearPort_claims (x : State) (p : Port) : (x.clearPort p).claims = x.claims := State.reportPass_claims _

theorem State.clearPort_batch (x : State) (p : Port) :
    (x.clearPort p).batch = { x.batch with reservations := x.batch.reservations.set p .none } :=
  State.reportPass_batch _

theorem State.clearPort_frame (x : State) (p : Port) :
    (x.clearPort p).interlock = x.interlock ∧ (x.clearPort p).rotor = x.rotor ∧ (x.clearPort p).drives = x.drives ∧
    (x.clearPort p).sensors = x.sensors ∧ (x.clearPort p).time = x.time ∧ (x.clearPort p).tuning = x.tuning ∧
    (x.clearPort p).link = x.link ∧ (x.clearPort p).arbiter.handover = x.arbiter.handover ∧
    (x.clearPort p).arbiter.requests = x.arbiter.requests ∧ (x.clearPort p).passDue = true := by
  unfold State.clearPort
  exact ⟨by simp, by simp, by simp, by simp, by simp, by simp, by simp, by simp, by simp, State.reportPass_passDue _⟩

theorem State.port_clearPort_other {p q : Port} (h : q ≠ p) (x : State) : (x.clearPort p).port q = x.port q := by
  unfold State.clearPort
  rw [State.port_congr (State.reportPass_ports _), State.port_updPort, if_neg (Ne.symm h)]
  rfl

theorem State.port_clearPort_self (x : State) (p : Port) : (x.clearPort p).port p = (x.port p).portReset.refresh := by
  unfold State.clearPort
  rw [State.port_congr (State.reportPass_ports _), State.port_updPort_self]
  rfl

theorem PortState.attnWanted_of_no_notices {q : PortState} (h : q.notices = 0) : q.attnWanted = false := by
  have hnone : q.topNotice = none := by
    simp [PortState.topNotice, PortState.isPending, h]
  simp [PortState.attnWanted, hnone]

/-- A port cleared from a state that differs from another in the notices alone. -/
theorem PortState.portReset_refresh_eq {x y : PortState}
    (h : { x with notices := 0, attn := false } = { y with notices := 0, attn := false }) :
    x.portReset.refresh = { y with
      notices := 0, reply := { status := .ok, echo := 0, data := zeroData }, consumed := false, flight := none
      attn := false } := by
  unfold PortState.refresh
  rw [PortState.attnWanted_of_no_notices rfl]
  simp only [PortState.mk.injEq] at h
  obtain ⟨hc, ha, -, -, -, ht, hd, -, hl, -⟩ := h
  simp only [PortState.portReset, Reply.emptyReply, PortState.mk.injEq]
  simp [*]

theorem State.claim_portCleared (s : State) (p : Port) (j : ClaimIdx) : ((s.resetEntries p).clearPort p).claim j =
    if (s.claim j).owner = some p then .free (s.claim j).arming else s.claim j := by
  rw [← State.claim_resetEntries]
  exact State.claim_congr (State.clearPort_claims _ p) j

theorem State.leaves_portCleared (s : State) (p : Port) :
    s.Leaves ((s.resetEntries p).clearPort p) (fun i => (s.claim i).owner == some p) := by
  obtain ⟨hu, hr, hd, hm, ht, -, -, hh, -, -⟩ := (s.resetEntries p).clearPort_frame p
  refine ⟨fun j hj => ?_, fun j hj => .inl ?_, hu.trans (s.resetEntries_interlock p), hr.trans (s.resetEntries_rotor p),
    hd.trans (s.resetEntries_drives p), hm.trans (s.resetEntries_sensors p), ht.trans (s.resetEntries_time p),
    hh.trans (congrArg Arbiter.handover (s.resetEntries_arbiter p))⟩
  · rw [State.claim_portCleared, if_pos (beq_iff_eq.1 hj)]
    rfl
  · rw [State.claim_portCleared, if_neg (beq_eq_false_iff_ne.1 hj)]

theorem exec_portReset {s : State} {p : Port} {req : List Byte} (hasks : s.Asks p 0x3F req) :
    exec (.portReset p) s = .next (((s.resetEntries p).clearPort p).conclude s) := by
  show onRequest s p 0x3F (fun _ => s.takePortReset p) = _
  rw [onRequest_asks hasks, State.takePortReset_eq]

/-- The port itself after a PORT_RESET: it owns no entry any more, so no resumption reaches it. -/
theorem State.port_portReset_self (s : State) (p : Port) :
    (((s.resetEntries p).clearPort p).conclude s).port p = { s.port p with
      notices := 0, reply := { status := .ok, echo := 0, data := zeroData }, consumed := false, flight := none
      attn := false } := by
  rw [State.port_conclude, State.port_clearPort_self]
  · exact PortState.portReset_refresh_eq (s.portsButNotices_resetEntries p p).1
  · intro k ho hheld
    rw [State.claim_portCleared] at ho hheld
    split at ho
    · cases ho
    next hne => exact hne ho

/-- Another port at a PORT_RESET: the notices of the resumptions alone. -/
theorem State.port_portReset_other {p q : Port} (h : q ≠ p) (s : State) :
    { (((s.resetEntries p).clearPort p).conclude s).port q with notices := 0, attn := false } =
      { s.port q with notices := 0, attn := false } ∧
    ∀ n, (((s.resetEntries p).clearPort p).conclude s).Posted n q ↔
      s.Posted n q ∨ s.ResumeNotice (((s.resetEntries p).clearPort p).conclude s) n q := by
  have hnotices := State.notifies_conclude_resumes (s.leaves_portCleared p).leavesTheHeld s
  have hq : ((s.resetEntries p).clearPort p).port q = s.port q :=
    (State.port_clearPort_other h _).trans (State.port_resetEntries_other h s)
  refine ⟨(hnotices.ports q).1.trans (by rw [hq]), fun n => (hnotices.posts n q).trans (or_congr_left ?_)⟩
  unfold State.Posted
  rw [hq]

/-- Settles O29. -/
theorem portResetFreesAndClears : Obligations.PortResetFreesAndClears := by
  intro p req s hasks
  have hleaves := s.leaves_portCleared p
  have hself := s.port_portReset_self p
  have hother : ∀ q, q ≠ p → _ := fun q hq => State.port_portReset_other hq s
  have hclaim := s.claim_portCleared p
  have hbatch := (s.resetEntries p).clearPort_batch p
  obtain ⟨-, -, -, hm, ht, hv, hl, -, hrequests, hpass⟩ := (s.resetEntries p).clearPort_frame p
  rw [State.resetEntries_sensors] at hm
  rw [State.resetEntries_time] at ht
  rw [State.resetEntries_tuning] at hv
  rw [State.resetEntries_link] at hl
  rw [State.resetEntries_batch] at hbatch
  rw [State.resetEntries_arbiter] at hrequests
  have hexec := exec_portReset hasks
  generalize (s.resetEntries p).clearPort p = u at *
  obtain ⟨tm, tb, tv, tt, -, tl⟩ := u.beyondTheTable_conclude s
  have harbiter : (u.conclude s).arbiter = u.arbiter := State.conclude_arbiter u s
  refine ⟨u.conclude s, hexec, fun i ho => ?_, ?_, hself, hother, hleaves.latchFollows s, tb.trans hbatch, ?_, ?_,
    tm.trans hm, tv.trans hv, tt.trans ht, ?_⟩
  · have hi : u.claim i = .free (s.claim i).arming := by rw [hclaim, if_pos ho]
    rw [State.claim_conclude_of_not_held (by rw [hi]; simp [Claim.free]), hi]
  · exact State.othersStand_conclude (congrArg Sensors.clock hm)
      (fun j hj => by rw [hclaim, if_neg (beq_eq_false_iff_ne.1 hj)]) s
  · rw [harbiter, hrequests]
  · unfold State.passDue at hpass ⊢
    rwa [harbiter]
  · rw [tl, hl]

end Sys2Proof.Machine
end

section
/-! GRANT and YIELD (R14, R17, R44, R52, R53): the claim table takes the requests of the arbiter. -/

namespace Sys2Proof.Machine

/-! ## The latch and the outputs when no latch claim leaves -/

/-- The unit stands at the end of an event that leaves the latch command where the table has it (R53). -/
theorem State.conclude_interlock_stands {u : State} (h : u.LatchFollows) (old : State) :
    (u.conclude old).interlock = u.interlock := by
  rw [State.conclude_interlock, State.followLatch_interlock, setLatchCommand_stands]
  cases hd : u.driven .latch with
  | true => exact h.2 hd
  | false =>
    cases hc : u.interlock.latchCommand with
    | engage => rfl
    | release => rw [h.1 hc] at hd; cases hd

/-- With the latch command where the table has it, the end of an event resumes nothing. -/
theorem State.not_resumesHeld_of_latchFollows {u : State} (h : u.LatchFollows) : ¬u.ResumesHeld := by
  rintro ⟨hd, hc, -⟩
  rw [h.1 hc] at hd
  cases hd

theorem State.rotor_followLatch_of_not_resumes {u : State} (h : ¬u.ResumesHeld) : u.followLatch.rotor = u.rotor := by
  rw [State.followLatch_of_not_resumes h, State.setLatchCommand_rotor]

theorem State.drives_followLatch {u : State} (h : ∀ k, (u.claim k).state = .held → ¬(u.claim k).DrivesOn .heater) :
    u.followLatch.drives = u.drives := by
  by_cases hr : u.ResumesHeld
  · rw [State.followLatch_of_resumes hr]
    unfold State.resumeAll
    rw [State.drives_foldl_resumeOne fun k _ => by rw [State.claim_setLatchCommand]; exact h k,
      State.setLatchCommand_drives]
  · rw [State.followLatch_of_not_resumes hr, State.setLatchCommand_drives]

/-- A claim that is GRANTED before the end of an event drives its actuator after it. -/
theorem State.driven_followLatch {u : State} {i : ClaimIdx} {a : Target} (h : (u.claim i).grantedOn a = true) :
    u.followLatch.driven a = true := by
  refine (State.driven_iff _ a).2 (.inl ⟨i, ?_⟩)
  rw [State.claim_followLatch_of_not_held, h]
  rw [((Claim.grantedOn_iff _ _).1 h).1]
  simp

theorem State.chamberOk_iff (s : State) :
    s.chamberOk = true ↔ s.interlock.secured = true ∧ s.interlock.haltLatch = false := by
  simp [State.chamberOk]

/-! ## GRANT (R17, R52) -/

/-- The checks of R52, by the claim's actuator. -/
theorem State.grantChecks_iff (s : State) (c : Claim) : s.grantChecks c = true ↔ (c.active.kind = .drive →
    (c.active.target = .heater ∨ c.active.target = .grinder →
      s.interlock.secured = true ∧ s.interlock.haltLatch = false) ∧
    (c.active.target = .latch → (∀ j, (s.claim j).grantedOn .grinder = false) ∧ s.rotor.atRest = true)) := by
  have hfree : (Table.granted s.claims .grinder).isNone = true ↔ ∀ j, (s.claim j).grantedOn .grinder = false := by
    rw [Option.isNone_iff_eq_none, Table.granted_eq_none]
    rfl
  unfold State.grantChecks
  rw [← State.chamberOk_iff]
  cases hk : c.active.kind <;> cases ht : c.active.target <;> simp [← hfree]

/-- The state in which a grant is judged and applied: the request is taken, and a handover has ended (log 9). -/
def State.grantTaken (s : State) (rest : List Request) : State :=
  { s with arbiter := { s.arbiter with requests := rest, handover := none } }

theorem exec_grant {s : State} {i : ClaimIdx} {n : Word} {rest : List Request}
    (h : s.arbiter.requests = .grant i n :: rest) : exec .grant s =
      .next ((if (s.grantTaken rest).grantApplies i n then (s.grantTaken rest).enterGranted i
        else s.grantTaken rest).conclude s) := by
  show execGrant s = _
  unfold execGrant
  simp only [h]
  have hdrop : { s.dropRequest with arbiter := { s.dropRequest.arbiter with handover := none } } =
      s.grantTaken rest := by
    unfold State.dropRequest State.grantTaken
    simp [h]
  unfold State.takeGrant
  simp only [hdrop]

theorem State.beyondTheTable_enterGranted (s : State) (i : ClaimIdx) : s.BeyondTheTable (s.enterGranted i) :=
  .of_eq (by simp) (by simp) (by simp) (by simp) (by simp) (by simp)

/-- A claim that enters GRANTED from another state than HELD: the HELD entries are those before. -/
theorem State.leavesTheHeld_enterGranted {s : State} {i : ClaimIdx} (h : (s.claim i).state ≠ .held) :
    s.LeavesTheHeld (s.enterGranted i) := by
  intro j
  rw [State.claim_enterGranted]
  split
  next hij =>
    subst hij
    exact .inr ⟨by simp [Claim.grantedAt], fun hs => absurd hs h⟩
  next => exact .inl rfl

/-- A claim that enters GRANTED, with the event that ends then: the entry and the notices. -/
theorem State.granted_conclude {w : State} {i : ClaimIdx} (h : (w.claim i).state ≠ .held) (old : State) :
    ((w.enterGranted i).conclude old).claim i = (w.claim i).grantedAt w.sensors.clock ∧
    w.OthersStand ((w.enterGranted i).conclude old) (· == i) ∧
    ((w.enterGranted i).conclude old).arbiter = w.arbiter ∧
    (w.Notifies ((w.enterGranted i).conclude old) fun n q => (n = .granted ∧ (w.claim i).owner = some q) ∨
      w.ResumeNotice ((w.enterGranted i).conclude old) n q) ∧
    w.BeyondTheTable ((w.enterGranted i).conclude old) := by
  have hi : (w.enterGranted i).claim i = (w.claim i).grantedAt w.sensors.clock := by
    rw [State.claim_enterGranted, if_pos rfl]
  refine ⟨?_, ?_, ?_, State.notifies_conclude (w.notifies_enterGranted i) (State.leavesTheHeld_enterGranted h) old,
    (w.beyondTheTable_enterGranted i).trans (State.beyondTheTable_conclude _ old)⟩
  · rw [State.claim_conclude_of_not_held (by rw [hi]; simp [Claim.grantedAt]), hi]
  · refine State.othersStand_conclude (by rw [State.enterGranted_sensors]) (fun j hj => ?_) old
    rw [State.claim_enterGranted, if_neg (beq_eq_false_iff_ne.1 hj).symm]
  · rw [State.conclude_arbiter, State.enterGranted_arbiter]

/-- An event that has changed nothing at the claim table can at most resume (R53). -/
theorem State.conclude_alone (w old : State) : w.OthersStand (w.conclude old) (fun _ => false) ∧
    (w.conclude old).arbiter = w.arbiter ∧ w.Notifies (w.conclude old) (w.ResumeNotice (w.conclude old)) ∧
    w.BeyondTheTable (w.conclude old) :=
  ⟨State.othersStand_conclude rfl (fun _ _ => rfl) old, State.conclude_arbiter w old,
    State.notifies_conclude_resumes (fun _ => .inl rfl) old, w.beyondTheTable_conclude old⟩

theorem State.grantedOn_enterGranted {w : State} {i : ClaimIdx} {a : Target} (h : (w.claim i).DrivesOn a) :
    ((w.enterGranted i).claim i).grantedOn a = true := by
  rw [State.claim_enterGranted, if_pos rfl, Claim.grantedOn_iff]
  exact ⟨rfl, h⟩

/-- A LATCH grant sets the command to RELEASE (R53). -/
theorem State.interlock_granted_latch {w : State} {i : ClaimIdx} (h : (w.claim i).DrivesOn .latch) (old : State) :
    ((w.enterGranted i).conclude old).interlock = if w.interlock.latchCommand = .release then w.interlock
      else w.interlock.commanded .release w.time := by
  have hd : (w.enterGranted i).driven .latch = true := (State.driven_iff _ _).2 (.inl ⟨i, State.grantedOn_enterGranted h⟩)
  have hu : (w.enterGranted i).interlock = w.interlock := State.enterGranted_interlock w i
  rw [State.conclude_interlock, State.followLatch_interlock, hd, if_pos rfl]
  split
  next hc => rw [setLatchCommand_stands (by rw [hu, hc]), hu]
  next hc => rw [setLatchCommand_interlock (by rw [hu]; exact hc), hu, State.enterGranted_time]

/-- Another grant leaves the latch command where the table has it. -/
theorem State.latchFollows_enterGranted {w : State} {i : ClaimIdx} (hp : (w.claim i).state = .pending)
    (h : ¬(w.claim i).DrivesOn .latch) (hw : w.LatchFollows) : (w.enterGranted i).LatchFollows := by
  have hgrants : ∀ j, ((w.enterGranted i).claim j).grantedOn .latch = (w.claim j).grantedOn .latch := by
    intro j
    rw [State.claim_enterGranted]
    split
    next hij =>
      subst hij
      rw [Bool.eq_iff_iff, Claim.grantedOn_iff, Claim.grantedOn_iff]
      exact iff_of_false (fun hg => h hg.2) (fun hg => by rw [hp] at hg; cases hg.1)
    next => rfl
  unfold State.LatchFollows at hw ⊢
  rw [State.enterGranted_interlock, hw, State.driven_iff, State.driven_iff]
  simp only [hgrants]
  unfold State.handsOver
  rw [State.enterGranted_arbiter]

/-- The heater of its only holder is judged at the grant, and stays so to the end of the event (R78, R80). -/
theorem State.heaterJudged_granted {w : State} {i : ClaimIdx} (hok : w.chamberOk = true)
    (hd : (w.claim i).DrivesOn .heater) (hnone : ∀ j, (w.claim j).holds .heater = false) (old : State) :
    w.HeaterJudged ((w.enterGranted i).conclude old) i := by
  have hj := State.heaterJudged_enterGranted hok hd fun j _ => hnone j
  have hheld : ∀ k, ((w.enterGranted i).claim k).state = .held → ¬((w.enterGranted i).claim k).DrivesOn .heater := by
    intro k hk
    rw [State.claim_enterGranted] at hk ⊢
    split at hk
    · cases hk
    next hik =>
      rw [if_neg hik]
      exact Claim.not_drivesOn_of_held (hnone k) hk
  have hout : ((w.enterGranted i).conclude old).drives.heaterOn = (w.enterGranted i).drives.heaterOn := by
    rw [State.conclude_heaterOn_of_driven old
      ((State.chamberOk_of_interlock (w.enterGranted_interlock i)).trans hok)
      (State.driven_followLatch (State.grantedOn_enterGranted hd)), State.drives_followLatch hheld]
  unfold State.HeaterJudged at hj ⊢
  rwa [hout]

/-- The drive of a GRINDER grant starts, and stays so to the end of an event that resumes nothing (R88, R89). -/
theorem State.rotor_granted {w : State} {i : ClaimIdx} (hok : w.chamberOk = true)
    (hd : (w.claim i).DrivesOn .grinder) (hr : ¬(w.enterGranted i).ResumesHeld) (old : State) :
    ((w.enterGranted i).conclude old).rotor = w.rotor.grantedBy w.time i (w.claim i) := by
  rw [State.conclude_rotor_of_driven old ((State.chamberOk_of_interlock (w.enterGranted_interlock i)).trans hok)
      (State.driven_followLatch (State.grantedOn_enterGranted hd)), State.rotor_followLatch_of_not_resumes hr,
    State.rotor_enterGranted, if_pos hd]

/-- Settles O19. -/
theorem grantEntersGranted : Obligations.GrantEntersGranted := by
  intro s i n rest hreq
  have hexec := exec_grant hreq
  refine ⟨fun hp hn hchecks => ?_, fun hfails => ?_⟩
  · have happlies : (s.grantTaken rest).grantApplies i n = true :=
      (State.grantApplies_iff _ _ _).2 ⟨hp, hn, (State.grantChecks_iff _ _).2 hchecks⟩
    have hheld : (s.claim i).state ≠ .held := by rw [hp]; simp
    obtain ⟨hclaim, hothers, harbiter, hnotices, hbeyond⟩ := State.granted_conclude (w := s.grantTaken rest) hheld s
    have hok : (s.claim i).active.kind = .drive →
        (s.claim i).active.target = .heater ∨ (s.claim i).active.target = .grinder → s.chamberOk = true :=
      fun hk ht => (State.chamberOk_iff s).2 ((hchecks hk).1 ht)
    refine ⟨((s.grantTaken rest).enterGranted i).conclude s, by rw [hexec, if_pos happlies], hclaim, hothers, harbiter,
      fun q hq => (hnotices.posts .granted q).2 (.inr (.inl ⟨rfl, hq⟩)), hnotices.ports, hnotices.posts, hbeyond,
      State.conclude_fanDuty _ _, fun hk ht => ?_, fun hother hhand hfollows => ?_, fun hk ht hnone => ?_,
      fun hk ht hlatch => ?_⟩
    · exact State.interlock_granted_latch (w := s.grantTaken rest) ⟨hk, ht⟩ s
    · have hnot : ¬(s.claim i).DrivesOn .latch := fun hd => by
        rcases hother with hk | ht
        · rw [hd.1] at hk; cases hk
        · exact ht hd.2
      have hw : (s.grantTaken rest).LatchFollows := by
        unfold State.LatchFollows
        rw [State.driven_congr (s := s) (t := s.grantTaken rest) rfl hhand.symm]
        exact hfollows
      exact (State.conclude_interlock_stands (State.latchFollows_enterGranted (w := s.grantTaken rest) hp hnot hw) s).trans
        (State.enterGranted_interlock _ i)
    · exact State.heaterJudged_granted (w := s.grantTaken rest) (hok hk (.inl ht)) ⟨hk, ht⟩ hnone s
    · refine State.rotor_granted (w := s.grantTaken rest) (hok hk (.inr ht)) ⟨hk, ht⟩ ?_ s
      rintro ⟨hd, hc, -⟩
      rcases hlatch with heng | ⟨j, hj⟩
      · rw [State.enterGranted_interlock] at hc
        rw [show (s.grantTaken rest).interlock = s.interlock from rfl, heng] at hc
        cases hc
      · have hij : i ≠ j := fun he => by
          rw [← he, Claim.grantedOn_iff, hp] at hj
          cases hj.1
        rw [(State.driven_iff _ _).2 (.inl ⟨j, by rw [State.claim_enterGranted, if_neg hij]; exact hj⟩)] at hd
        cases hd
  · have hnot : ¬(s.grantTaken rest).grantApplies i n = true := by
      rw [State.grantApplies_iff, State.grantChecks_iff]
      rintro ⟨hp, hn, hchecks⟩
      rcases hfails with h | h | ⟨hk, ⟨ht, h⟩ | ⟨ht, h⟩⟩
      · exact h hp
      · exact h hn
      · obtain ⟨hs, hh⟩ := (hchecks hk).1 ht
        rcases h with h | h
        · rw [show s.interlock.secured = true from hs] at h; cases h
        · rw [show s.interlock.haltLatch = false from hh] at h; cases h
      · obtain ⟨hfree, hrest⟩ := (hchecks hk).2 ht
        rcases h with ⟨j, h⟩ | h
        · rw [show (s.claim j).grantedOn .grinder = false from hfree j] at h; cases h
        · rw [show s.rotor.atRest = true from hrest] at h; cases h
    obtain ⟨hothers, harbiter, hnotices, hbeyond⟩ := State.conclude_alone (s.grantTaken rest) s
    refine ⟨(s.grantTaken rest).conclude s, by rw [hexec, if_neg hnot], hothers, harbiter, hnotices.ports,
      hnotices.posts, hbeyond, fun hhand hfollows => ?_⟩
    · refine State.conclude_interlock_stands ?_ s
      unfold State.LatchFollows
      rw [State.driven_congr (s := s) (t := s.grantTaken rest) rfl hhand.symm]
      exact hfollows

end Sys2Proof.Machine
end

section
/-! YIELD (R14, R32, R44, R53, R97): a holder gives up its actuator. -/

namespace Sys2Proof.Machine

/-! ## The yield of a holder -/

/-- The state in which a yield is applied: the request is taken, and in a displacement the handover has begun (log 9). -/
def State.yieldTaken (s : State) (rest : List Request) (c : Claim) (displaced : Bool) : State :=
  { s with
    arbiter := { s.arbiter with
      requests := rest
      handover := if displaced then some ⟨c.active.target, s.fanHolderDuty⟩ else s.arbiter.handover }
    rotor := if displaced && decide (c.active.target = .grinder) then s.rotor.handOver s.time else s.rotor }

theorem exec_yield_of_not_holder {s : State} {i : ClaimIdx} {d : Bool} {rest : List Request}
    (h : s.arbiter.requests = .yield i d :: rest) (hh : (s.claim i).isHolder = false) :
    exec .yield s = .next ((s.yieldTaken rest (s.claim i) false).conclude s) := by
  have hdrop : s.dropRequest = s.yieldTaken rest (s.claim i) false := by
    unfold State.dropRequest State.yieldTaken
    simp [h]
  show execYield s = _
  unfold execYield
  simp only [h]
  unfold State.takeYield
  simp only [show s.dropRequest.claim i = s.claim i from rfl, hh]
  rw [hdrop]
  rfl

theorem exec_yield_of_holder {s : State} {i : ClaimIdx} {d : Bool} {rest : List Request}
    (h : s.arbiter.requests = .yield i d :: rest) (hh : (s.claim i).isHolder = true) :
    exec .yield s = .next
      (((s.yieldTaken rest (s.claim i) (d && decide ((s.claim i).state = .granted))).applyYield i).conclude s) := by
  have hdrop : (if (d && decide ((s.claim i).state = .granted)) = true then s.dropRequest.beginHandover (s.claim i)
      else s.dropRequest) = s.yieldTaken rest (s.claim i) (d && decide ((s.claim i).state = .granted)) := by
    cases (d && decide ((s.claim i).state = .granted))
    · unfold State.dropRequest State.yieldTaken
      simp [h]
    · unfold State.dropRequest State.beginHandover State.yieldTaken
      simp [h]
      rfl
  show execYield s = _
  unfold execYield
  simp only [h]
  unfold State.takeYield
  simp only [show s.dropRequest.claim i = s.claim i from rfl, hh, if_true]
  rw [hdrop]

theorem Claim.holding_afterYield (c : Claim) : c.afterYield.holding = false := by
  unfold Claim.afterYield
  split
  · split <;> rfl
  · rfl

theorem Claim.afterYield_of_singleTry {c : Claim} (h : c.active.singleTry = true) :
    c.afterYield = c.afterEnd .preempted := by
  unfold Claim.afterYield Claim.afterEnd
  rw [if_pos h]

theorem Claim.afterYield_of_not_singleTry {c : Claim} (h : c.active.singleTry = false) :
    c.afterYield = { c with state := .pending, yielded := true } := by
  unfold Claim.afterYield
  rw [if_neg (by simp [h])]

/-- The notice of a yield (R14). -/
theorem State.notifies_applyYield (w : State) (i : ClaimIdx) : w.Notifies (w.applyYield i) fun n q =>
    (w.claim i).owner = some q ∧ n = if (w.claim i).active.singleTry then .ended else .interrupted := by
  unfold State.applyYield
  simp only
  split
  next h => exact (w.notifies_endClaim i .preempted).iff fun n q => by simp [State.ChainBreaks, and_comm]
  next h =>
    refine State.Notifies.iff (a := fun n q => n = .interrupted ∧ (w.claim i).owner = some q) ?_ fun n q => ?_
    · exact (State.notifies_postOwner (w.setClaim i _) .interrupted (w.claim i).owner).congr rfl rfl
    · simp [and_comm]

theorem State.beyondTheTable_applyYield (w : State) (i : ClaimIdx) : w.BeyondTheTable (w.applyYield i) :=
  .of_eq (by simp) (by simp) (by simp) (by simp) (by simp) (by simp)

theorem State.leaves_applyYield (w : State) (i : ClaimIdx) : w.Leaves (w.applyYield i) (· == i) := by
  refine ⟨fun j hj => ?_, fun j hj => .inl ?_, State.applyYield_interlock _ _, State.applyYield_rotor _ _,
    State.applyYield_drives _ _, State.applyYield_sensors _ _, State.applyYield_time _ _,
    congrArg Arbiter.handover (State.applyYield_arbiter _ _)⟩
  · rw [State.claim_applyYield, if_pos (beq_iff_eq.1 hj).symm]
    exact Claim.holding_afterYield _
  · rw [State.claim_applyYield, if_neg (beq_eq_false_iff_ne.1 hj).symm]

/-- The yield of a holder, with the event that ends then. -/
theorem State.yielded_conclude (w : State) (i : ClaimIdx) (old : State) :
    ((w.applyYield i).conclude old).claim i = (w.claim i).afterYield ∧
    w.OthersStand ((w.applyYield i).conclude old) (· == i) ∧
    ((w.applyYield i).conclude old).arbiter = w.arbiter ∧
    (w.Notifies ((w.applyYield i).conclude old) fun n q => ((w.claim i).owner = some q ∧
      n = if (w.claim i).active.singleTry then .ended else .interrupted) ∨
        w.ResumeNotice ((w.applyYield i).conclude old) n q) ∧
    w.BeyondTheTable ((w.applyYield i).conclude old) := by
  have hi : (w.applyYield i).claim i = (w.claim i).afterYield := by rw [State.claim_applyYield, if_pos rfl]
  refine ⟨?_, ?_, ?_, State.notifies_conclude (w.notifies_applyYield i) (w.leaves_applyYield i).leavesTheHeld old,
    (w.beyondTheTable_applyYield i).trans (State.beyondTheTable_conclude _ old)⟩
  · rw [State.claim_conclude_of_not_held, hi]
    rw [hi]
    exact Claim.ne_held_of_holding (Claim.holding_afterYield _)
  · refine State.othersStand_conclude (by rw [State.applyYield_sensors]) (fun j hj => ?_) old
    rw [State.claim_applyYield, if_neg (beq_eq_false_iff_ne.1 hj).symm]
  · rw [State.conclude_arbiter, State.applyYield_arbiter]

theorem State.posted_yielded (w : State) (i : ClaimIdx) (old : State) :
    ((w.claim i).active.singleTry = true →
      ((w.applyYield i).conclude old).PostedToOwner .ended (w.claim i).owner) ∧
    ((w.claim i).active.singleTry = false →
      ((w.applyYield i).conclude old).PostedToOwner .interrupted (w.claim i).owner) := by
  obtain ⟨-, -, -, hnotices, -⟩ := w.yielded_conclude i old
  exact ⟨fun h q hq => hnotices.posted (.inl ⟨hq, (if_pos h).symm⟩),
    fun h q hq => hnotices.posted (.inl ⟨hq, (if_neg (by simp [h])).symm⟩)⟩

/-- What becomes of the latch as nothing leaves is what becomes of it as a claim leaves that does not drive it. -/
theorem State.LatchFollowsLeaving.of_none {s t : State} {i : ClaimIdx} (h : s.LatchFollowsLeaving t fun _ => false)
    (hi : (s.claim i).grantedOn .latch = false) : s.LatchFollowsLeaving t (· == i) := by
  have hne : ∀ j, (s.claim j).grantedOn .latch = true → (j == i) = false := fun j hj => by
    rw [beq_eq_false_iff_ne]
    rintro rfl
    rw [hi] at hj
    cases hj
  intro hho hlatch
  obtain ⟨hstands, -⟩ := h hho hlatch
  refine ⟨fun hs => hstands ?_, fun ⟨j, hj⟩ hleft => ?_⟩
  · rcases hs with ⟨j, -, hj⟩ | hs
    · exact .inl ⟨j, rfl, hj⟩
    · exact .inr hs
  · rw [hleft j (hne j hj)] at hj
    cases hj

/-- A displacement of the latch, or of another actuator by a claim that does not drive the latch, leaves the latch command
where the table has it (R53, log 9). -/
theorem State.latchFollows_yielded {s w : State} {i : ClaimIdx} (hc : w.claims = s.claims)
    (hu : w.interlock = s.interlock) (hs : s.LatchFollows)
    (hd : w.handsOver .latch = true ∧ (s.claim i).grantedOn .latch = true ∨
      w.handsOver .latch = s.handsOver .latch ∧ (s.claim i).grantedOn .latch = false) :
    (w.applyYield i).LatchFollows := by
  have hhands : (w.applyYield i).handsOver .latch = w.handsOver .latch := by
    unfold State.handsOver
    rw [State.applyYield_arbiter]
  unfold State.LatchFollows at hs ⊢
  rw [State.applyYield_interlock, hu, hs, State.driven_iff, State.driven_iff, hhands]
  rcases hd with ⟨hw, hi⟩ | ⟨hw, hi⟩
  · exact iff_of_true (.inl ⟨i, hi⟩) (.inr hw)
  · rw [hw]
    refine or_congr_left (exists_congr fun j => ?_)
    rw [(w.leaves_applyYield i).grantedOn, State.claim_congr hc]
    by_cases hj : j = i
    · subst hj
      simp [hi]
    · simp [hj]

/-! ## The rotor at the yield of the grinder's holder (R89, R97) -/

/-- What the stop of a drive that is not IDLE leaves (R89). -/
theorem Rotor.stop_fields {r : Rotor} (h : r.mode ≠ .idle) (now : Nat) :
    (r.stop now).mode = .idle ∧ (r.stop now).output = .off ∧ (r.stop now).jogPhase = .none ∧
    (r.stop now).probeCount = 0 ∧ (r.stop now).grace = none ∧ (r.stop now).pattern = .idle ∧
    (r.stop now).cleanRun = none ∧ (r.stop now).offPhaseDue = false ∧ (r.stop now).attempts = r.attempts ∧
    (r.stop now).attemptClaim = r.attemptClaim := by
  unfold Rotor.stop Rotor.setOutput
  rw [if_neg h]
  by_cases ho : Direction.off = r.output
  · simp [← ho]
  · simp [ho]

/-- The rotor at the end of an event that leaves the latch command where the table has it, in a chamber fit for the drive
(R89). -/
theorem State.rotor_conclude {u : State} (h : u.LatchFollows) (hok : u.chamberOk = true) (old : State) :
    (u.conclude old).rotor = if u.driven .grinder then u.rotor else u.rotor.stop u.time := by
  have hr := State.not_resumesHeld_of_latchFollows h
  have hrotor := State.rotor_followLatch_of_not_resumes hr
  have hdriven : u.followLatch.driven .grinder = u.driven .grinder :=
    State.driven_congr (State.claims_followLatch_of_not_resumes hr) (congrArg Arbiter.handover u.followLatch_arbiter) _
  cases hd : u.driven .grinder with
  | true =>
    rw [State.conclude_rotor_of_driven old hok (hdriven.trans hd), hrotor]
    rfl
  | false =>
    rw [State.conclude_rotor_of_not_driven old (hdriven.trans hd), hrotor]
    rfl

/-- After the yield of its only holder the grinder is driven in a displacement alone (log 9). -/
theorem State.driven_yielded {w : State} {i : ClaimIdx} (honly : ∀ j, j ≠ i → (w.claim j).holds .grinder = false) :
    (w.applyYield i).driven .grinder = w.handsOver .grinder := by
  have hnone : ∀ j, ((w.applyYield i).claim j).grantedOn .grinder = false := by
    intro j
    rw [(w.leaves_applyYield i).grantedOn]
    by_cases hj : j = i
    · simp [hj]
    · simp [Claim.grantedOn_of_not_holds (honly j hj)]
  have hhands : (w.applyYield i).handsOver .grinder = w.handsOver .grinder := by
    unfold State.handsOver
    rw [State.applyYield_arbiter]
  rw [Bool.eq_iff_iff, State.driven_iff, hhands]
  simp [hnone]

theorem State.handsOver_yieldTaken (s : State) (rest : List Request) (c : Claim) (d : Bool) (a : Target) :
    (s.yieldTaken rest c d).handsOver a = if d then decide (c.active.target = a) else s.handsOver a := by
  cases d <;> rfl

/-- The drive at the yield of the only GRINDER holder: without a displacement it stops, and with one it is handed over (R89,
R97, log 9). -/
theorem State.rotor_yielded {s w : State} {i : ClaimIdx} {rest : List Request} {d : Bool}
    (hw : w = s.yieldTaken rest (s.claim i) d) (ht : (s.claim i).active.target = .grinder)
    (honly : ∀ j, j ≠ i → (s.claim j).holds .grinder = false) (hok : s.chamberOk = true)
    (hhand : s.arbiter.handover = none) (hfollows : (w.applyYield i).LatchFollows) (old : State) :
    ((w.applyYield i).conclude old).rotor = if d then s.rotor.handOver s.time else s.rotor.stop s.time := by
  have honly' : ∀ j, j ≠ i → (w.claim j).holds .grinder = false := hw ▸ honly
  have hokw : (w.applyYield i).chamberOk = true :=
    (State.chamberOk_of_interlock (w.applyYield_interlock i)).trans (hw ▸ hok)
  have hrotor : w.rotor = if d then s.rotor.handOver s.time else s.rotor := by
    rw [hw]
    simp [State.yieldTaken, ht]
  have hhands : w.handsOver .grinder = d := by
    rw [hw, State.handsOver_yieldTaken, ht]
    cases d <;> simp [State.handsOver, hhand]
  have htime : w.time = s.time := by rw [hw]; rfl
  rw [State.rotor_conclude hfollows hokw, State.driven_yielded honly', hhands, State.applyYield_rotor,
    State.applyYield_time, hrotor, htime]
  cases d <;> rfl

/-! ## YIELD (R14) -/

/-- What entries leave is the same seen from a state that differs in the requests alone. -/
theorem State.Leaves.of_same {s w u : State} {leaves : ClaimIdx → Bool} (h : w.Leaves u leaves)
    (hc : w.claims = s.claims) (hu : w.interlock = s.interlock) (hr : w.rotor = s.rotor) (hd : w.drives = s.drives)
    (hm : w.sensors = s.sensors) (ht : w.time = s.time) (hh : w.arbiter.handover = s.arbiter.handover) :
    s.Leaves u leaves :=
  ⟨h.left, fun j hj => by rw [← State.claim_congr hc]; exact h.stays j hj, h.interlock.trans hu, h.rotor.trans hr,
    h.drives.trans hd, h.sensors.trans hm, h.time.trans ht, h.handover.trans hh⟩

/-- Without a displacement the holder that yields leaves, and nothing else changes. -/
theorem State.leaves_yielded (s : State) (rest : List Request) (i : ClaimIdx) :
    s.Leaves ((s.yieldTaken rest (s.claim i) false).applyYield i) (· == i) := by
  have h := (s.yieldTaken rest (s.claim i) false).leaves_applyYield i
  exact h.of_same rfl rfl rfl rfl rfl rfl rfl

/-- Settles O20. -/
theorem yieldTakesTheHolder : Obligations.YieldTakesTheHolder := by
  intro s i d rest hreq
  cases hh : (s.claim i).isHolder with
  | false =>
    have hnot : ∀ a, (s.claim i).grantedOn a = false := fun a =>
      Claim.grantedOn_of_not_holds (by simp [Claim.holds, hh])
    have hleaves : s.Leaves (s.yieldTaken rest (s.claim i) false) fun _ => false :=
      ⟨fun _ h => absurd h (by simp), fun _ _ => .inl rfl, rfl, rfl, rfl, rfl, rfl, rfl⟩
    obtain ⟨hothers, harbiter, hnotices, hbeyond⟩ := State.conclude_alone (s.yieldTaken rest (s.claim i) false) s
    refine ⟨_, exec_yield_of_not_holder hreq hh, fun j _ => hothers j rfl, by rw [harbiter]; rfl, by rw [harbiter]; rfl,
      by rw [harbiter]; rfl, hnotices.ports, hbeyond, fun n q => (hnotices.posts n q).trans (by simp; rfl),
      fun _ => (hleaves.latchFollows s).of_none (hnot _), fun _ hg => absurd hg (by simp [hnot]),
      fun h => absurd h (by simp), fun h => absurd h (by simp), fun _ hheld => ?_, fun hg => absurd hg (by simp [hnot])⟩
    exact State.claim_conclude_of_not_held (u := s.yieldTaken rest (s.claim i) false) hheld s
  | true =>
    have hexec := exec_yield_of_holder hreq hh
    obtain ⟨hclaim, hothers, harbiter, hnotices, hbeyond⟩ := State.yielded_conclude
      (s.yieldTaken rest (s.claim i) (d && decide ((s.claim i).state = .granted))) i s
    obtain ⟨hended, hmarked⟩ := State.posted_yielded
      (s.yieldTaken rest (s.claim i) (d && decide ((s.claim i).state = .granted))) i s
    refine ⟨_, hexec, hothers, by rw [harbiter]; rfl, by rw [harbiter]; rfl, by rw [harbiter]; rfl, hnotices.ports,
      hbeyond, fun n q => (hnotices.posts n q).trans (by simp; rfl), fun hd => ?_, fun hd hg hs => ?_,
      fun _ htry => ⟨?_, fun q hq => ?_⟩, fun _ htry => ⟨?_, fun q hq => ?_⟩, fun h => absurd h (by simp),
      fun hg honly hsec hhalt hhand hs => ?_⟩
    · subst hd
      rw [Bool.false_and]
      exact (s.leaves_yielded rest i).latchFollows s
    · have hstate := ((Claim.grantedOn_iff _ _).1 hg).1
      have hdisplaced : (d && decide ((s.claim i).state = .granted)) = true := by simp [hd, hstate]
      rw [hdisplaced]
      have hfollows : ((s.yieldTaken rest (s.claim i) true).applyYield i).LatchFollows :=
        State.latchFollows_yielded (s := s) rfl rfl hs
          (.inl ⟨decide_eq_true ((Claim.grantedOn_iff _ _).1 hg).2.2, hg⟩)
      rw [State.conclude_interlock_stands hfollows, State.applyYield_interlock]
      rfl
    · exact hclaim.trans (Claim.afterYield_of_not_singleTry htry)
    · exact hmarked htry q hq
    · exact hclaim.trans (Claim.afterYield_of_singleTry htry)
    · exact hended htry q hq
    · obtain ⟨hstate, -, ht⟩ := (Claim.grantedOn_iff _ _).1 hg
      have hd : (d && decide ((s.claim i).state = .granted)) = d := by simp [hstate]
      rw [hd]
      have hlatch : (s.claim i).grantedOn .latch = false := by
        rw [← Bool.not_eq_true, Claim.grantedOn_iff, ht]
        simp
      have hfollows : ((s.yieldTaken rest (s.claim i) d).applyYield i).LatchFollows := by
        refine State.latchFollows_yielded (s := s) rfl rfl hs (.inr ⟨?_, hlatch⟩)
        rw [State.handsOver_yieldTaken, ht]
        cases d <;> simp [State.handsOver, hhand]
      have hrotor := State.rotor_yielded rfl ht honly ((State.chamberOk_iff s).2 ⟨hsec, hhalt⟩) hhand hfollows s
      refine ⟨fun hdt hmode => ?_, fun hidle hstop => ?_⟩
      · rw [hrotor, hdt]
        exact if_pos hmode
      · have hout : (((s.yieldTaken rest (s.claim i) d).applyYield i).conclude s).rotor = s.rotor.stop s.time := by
          rw [hrotor]
          cases d with
          | false => rfl
          | true => exact if_neg (hstop.resolve_left (by simp))
        rw [hout]
        exact Rotor.stop_fields hidle s.time

end Sys2Proof.Machine
end

section
/-! Secured gained and HALT_CLEAR (R51, R67): the HELD claims resume at once with the command ENGAGE. -/

namespace Sys2Proof.Machine

/-! ## The unit at the end of an event -/

/-- What the latch command does not reach in the unit: all but itself, the disagreement timer and LATCH_FAULT. -/
theorem State.setLatchCommand_unit (s : State) (k : LatchCommand) : (s.setLatchCommand k).interlock =
    { s.interlock with
      latchCommand := k, disagreement := (s.setLatchCommand k).interlock.disagreement
      active := (s.setLatchCommand k).interlock.active } := by
  unfold State.setLatchCommand
  split
  next h => subst h; rfl
  next => rfl

theorem State.conclude_unit (u old : State) : (u.conclude old).interlock =
    { u.interlock with
      latchCommand := (u.conclude old).interlock.latchCommand, disagreement := (u.conclude old).interlock.disagreement
      active := (u.conclude old).interlock.active } := by
  rw [State.conclude_interlock, State.followLatch_interlock, State.setLatchCommand_unit]

theorem State.passDue_conclude {u : State} (h : u.passDue = true) (old : State) : (u.conclude old).passDue = true := by
  unfold State.passDue at h ⊢
  rwa [State.conclude_arbiter]

theorem State.passDue_answer {x : State} (h : x.passDue = true) (p : Port) (st : Status) (data : List Byte) :
    (x.answer p st data).passDue = true := h

theorem State.haltStands_conclude (u old : State) : u.HaltStands (u.conclude old) := by
  have h := u.conclude_unit old
  exact ⟨by rw [h], by rw [h], by rw [h]⟩

theorem CauseSet.has_erase (u : CauseSet) (c d : Cause) : (u.erase c).has d = (u.has d && decide (c ≠ d)) := by
  unfold CauseSet.erase CauseSet.has
  rw [BitVec.getLsbD_and, BitVec.getLsbD_not]
  cases c <;> cases d <;> simp [Cause.mask, Cause.bit]

/-- A cause that is not active is not active after a change of the latch command. -/
theorem State.active_setLatchCommand {s : State} {c : Cause} (h : s.interlock.active.has c = false) (k : LatchCommand) :
    (s.setLatchCommand k).interlock.active.has c = false := by
  unfold State.setLatchCommand Interlock.judgeDisagreement
  split
  · exact h
  · simp only
    split
    · exact h
    · rw [CauseSet.has_erase, h]
      rfl

theorem State.active_conclude {u : State} {c : Cause} (h : u.interlock.active.has c = false) (old : State) :
    (u.conclude old).interlock.active.has c = false := by
  rw [State.conclude_interlock, State.followLatch_interlock]
  exact State.active_setLatchCommand h _

/-! ## A resume request that the chamber and the latch command allow (R51, R67) -/

/-- The claim table takes a resume request if the chamber is fit and the command ENGAGE. -/
def State.resumeIfEngaged (w : State) : State :=
  if w.chamberOk && decide (w.interlock.latchCommand = .engage) then w.resumeAll else w

/-- The rest of an event after such a request: nothing that the claims and their outputs depend on has changed since. -/
structure State.AfterResume (w x : State) : Prop where
  claims : x.claims = w.resumeIfEngaged.claims
  ports : x.ports = w.resumeIfEngaged.ports
  rotor : x.rotor = w.resumeIfEngaged.rotor
  drives : x.drives = w.resumeIfEngaged.drives
  sensors : x.sensors = w.sensors
  time : x.time = w.time
  handover : x.arbiter.handover = w.arbiter.handover
  command : x.interlock.latchCommand = w.interlock.latchCommand
  chamberOk : x.chamberOk = w.chamberOk

theorem State.resumeIfEngaged_of_fit {w : State} (hok : w.chamberOk = true) (he : w.interlock.latchCommand = .engage) :
    w.resumeIfEngaged = w.resumeAll := by
  unfold State.resumeIfEngaged
  rw [hok, he]
  rfl

theorem State.resumeIfEngaged_of_unfit {w : State} (h : ¬(w.chamberOk = true ∧ w.interlock.latchCommand = .engage)) :
    w.resumeIfEngaged = w := by
  unfold State.resumeIfEngaged
  rw [if_neg]
  simpa using h

theorem State.not_resumesHeld_of_engaged {u : State} (h : u.interlock.latchCommand = .engage) : ¬u.ResumesHeld := by
  rintro ⟨-, hc, -⟩
  rw [h] at hc
  cases hc

namespace State.AfterResume

variable {w x : State} (h : w.AfterResume x) (old : State)
include h

/-- With the chamber fit and the command ENGAGE every entry is resumed. -/
theorem claim_of_fit (hok : w.chamberOk = true) (he : w.interlock.latchCommand = .engage) (i : ClaimIdx) :
    (x.conclude old).claim i = (w.claim i).resumed w.sensors.clock := by
  have hx : x.claim i = (w.claim i).resumed w.sensors.clock := by
    rw [State.claim_congr h.claims, State.resumeIfEngaged_of_fit hok he, State.claim_resumeAll]
  rw [State.claim_conclude_of_not_held (by rw [hx]; exact Claim.state_resumed_ne_held _ _), hx]

/-- Otherwise the request is not made, and the entries stand until the end of the event. -/
theorem claims_of_unfit (hn : ¬(w.chamberOk = true ∧ w.interlock.latchCommand = .engage)) : x.claims = w.claims := by
  rw [h.claims, State.resumeIfEngaged_of_unfit hn]

theorem resumed (hok : w.chamberOk = true) (he : w.interlock.latchCommand = .engage) {i : ClaimIdx}
    (hheld : (w.claim i).state = .held) : w.Resumed (x.conclude old) i := by
  have hall := State.resumeIfEngaged_of_fit hok he
  have hr := State.not_resumesHeld_of_engaged (h.command.trans he)
  have hfollow := State.followLatch_of_not_resumes hr
  refine State.Resumed.conclude ?_ (h.chamberOk.trans hok) old
  refine (State.resumed_resumeAll hok hheld).carry rfl rfl rfl rfl rfl (fun _ _ _ hk => hk) ?_ (fun p hp => ?_)
    (fun _ => ?_) fun _ => ?_
  · rw [State.claim_congr (State.claims_followLatch_of_not_resumes hr), State.claim_congr h.claims, hall]
  · have hports : x.followLatch.ports = w.resumeAll.ports := by
      rw [hfollow, State.setLatchCommand_ports, h.ports, hall]
    unfold State.Posted at hp ⊢
    rwa [State.port_congr hports]
  · rw [hfollow, State.setLatchCommand_drives, h.drives, hall]
  · rw [hfollow, State.setLatchCommand_rotor, h.rotor, hall]

theorem claim_of_not_held {i : ClaimIdx} (hi : (w.claim i).state ≠ .held) : (x.conclude old).claim i = w.claim i := by
  by_cases hn : w.chamberOk = true ∧ w.interlock.latchCommand = .engage
  · rw [h.claim_of_fit old hn.1 hn.2, Claim.resumed_of_not_held hi]
  · have hx := State.claim_congr (h.claims_of_unfit hn) i
    rw [State.claim_conclude_of_not_held (by rwa [hx]), hx]

theorem claims_of_not_ok (hok : w.chamberOk = false) : (x.conclude old).claims = w.claims := by
  have hn : ¬(w.chamberOk = true ∧ w.interlock.latchCommand = .engage) := by simp [hok]
  have hr : ¬x.ResumesHeld := fun hr => by
    have := hr.2.2
    rw [h.chamberOk, hok] at this
    cases this
  rw [State.conclude_claims, State.claims_followLatch_of_not_resumes hr, h.claims_of_unfit hn]

/-- Without the request, the latch command is where the table has it if it was before. -/
theorem latchFollows_of_unfit (hn : ¬(w.chamberOk = true ∧ w.interlock.latchCommand = .engage)) (hw : w.LatchFollows) :
    x.LatchFollows := by
  unfold State.LatchFollows
  rw [h.command, State.driven_congr (h.claims_of_unfit hn) h.handover]
  exact hw

theorem claims_of_released (hc : w.interlock.latchCommand = .release) (hw : w.LatchFollows) :
    (x.conclude old).claims = w.claims := by
  have hn : ¬(w.chamberOk = true ∧ w.interlock.latchCommand = .engage) := by simp [hc]
  rw [State.conclude_claims,
    State.claims_followLatch_of_not_resumes (State.not_resumesHeld_of_latchFollows (h.latchFollows_of_unfit hn hw)),
    h.claims_of_unfit hn]

theorem notifies : w.Notifies (x.conclude old) (w.ResumeNotice (x.conclude old)) := by
  by_cases hn : w.chamberOk = true ∧ w.interlock.latchCommand = .engage
  · have hr := State.not_resumesHeld_of_engaged (h.command.trans hn.2)
    have hports : (x.conclude old).ports = w.resumeAll.ports := by
      rw [State.conclude_ports, State.followLatch_of_not_resumes hr, State.setLatchCommand_ports, h.ports,
        State.resumeIfEngaged_of_fit hn.1 hn.2]
    refine (w.notifies_resumeAll.congr rfl hports).iff fun n q => and_congr_right fun _ => exists_congr fun j => ?_
    refine and_congr_right fun hheld => ?_
    rw [h.claim_of_fit old hn.1 hn.2, Claim.resumed_of_held hheld]
    exact (and_iff_right rfl).symm
  · have hports : x.ports = w.ports := by rw [h.ports, State.resumeIfEngaged_of_unfit hn]
    exact (State.notifies_conclude_resumes (fun j => .inl (State.claim_congr (h.claims_of_unfit hn) j)) old).congr
      hports.symm rfl

end State.AfterResume

theorem State.resumeIfEngaged_frame (w : State) : w.resumeIfEngaged.arbiter = w.arbiter ∧
    w.resumeIfEngaged.interlock = w.interlock ∧ w.resumeIfEngaged.sensors = w.sensors ∧
    w.resumeIfEngaged.time = w.time ∧ w.resumeIfEngaged.batch = w.batch ∧ w.resumeIfEngaged.tuning = w.tuning := by
  unfold State.resumeIfEngaged
  split
  · exact ⟨by simp, by simp, by simp, by simp, by simp, by simp⟩
  · exact ⟨rfl, rfl, rfl, rfl, rfl, rfl⟩

/-! ## HALT_CLEAR (R67) -/

/-- The set emptied and the latch cleared, with the notice to every port. -/
def State.haltCleared (s : State) : State :=
  ({ s with interlock := s.interlock.clearHalt } : State).postAll .haltCleared

theorem State.notifies_haltCleared (s : State) : s.Notifies s.haltCleared fun n _ => n = .haltCleared :=
  (State.notifies_postAll ({ s with interlock := s.interlock.clearHalt } : State) .haltCleared).congr rfl rfl

theorem State.resumed_of_haltCleared {s t : State} {i : ClaimIdx} (h : s.haltCleared.Resumed t i) : s.Resumed t i :=
  h.carry rfl rfl rfl rfl rfl (fun _ _ _ hk => hk) rfl (fun _ hq => hq) (fun _ => rfl) fun _ => rfl

theorem State.Resumed.answer {s x : State} {i : ClaimIdx} (h : s.Resumed x i) (p : Port) (st : Status)
    (data : List Byte) : s.Resumed (x.answer p st data) i :=
  h.carry rfl rfl rfl rfl rfl (fun _ _ _ hk => hk) rfl (fun q hq => (posted_answer x p st data _ q).2 hq)
    (fun _ => rfl) fun _ => rfl

theorem State.clearHalt_eq (s : State) : s.clearHalt = s.haltCleared.resumeIfEngaged.reportPass := by
  unfold State.clearHalt State.resumeIfEngaged
  have hok : s.haltCleared.chamberOk = s.interlock.secured := by
    simp [State.chamberOk, State.haltCleared, Interlock.clearHalt]
  rw [hok]
  rfl

theorem State.afterResume_clearHalt (s : State) : s.haltCleared.AfterResume s.clearHalt := by
  rw [State.clearHalt_eq]
  obtain ⟨ha, hu, hm, ht, -, -⟩ := s.haltCleared.resumeIfEngaged_frame
  refine ⟨by simp, by simp, by simp, by simp, by simp [hm], by simp [ht], by simp [ha], by simp [hu], ?_⟩
  exact State.chamberOk_of_interlock (by simp [hu])

theorem State.takeHaltClear_denied {s : State} {p : Port} (h : (s.port p).access.haltClear = false) :
    s.takeHaltClear p = s.refuse p .denied := by
  unfold State.takeHaltClear
  simp [h]

theorem State.takeHaltClear_idle {s : State} {p : Port} (h : (s.port p).access.haltClear = true)
    (hh : s.interlock.haltLatch = false) : s.takeHaltClear p = s.answer p .ok [] := by
  unfold State.takeHaltClear
  simp [h, hh]

theorem State.takeHaltClear_active {s : State} {p : Port} (h : (s.port p).access.haltClear = true)
    (hh : s.interlock.haltLatch = true) (ha : s.interlock.causes &&& s.interlock.active ≠ 0) :
    s.takeHaltClear p = s.answer p .activeCause [s.interlock.active.setWidth 8] := by
  unfold State.takeHaltClear
  simp only [h, hh, Bool.not_true, Bool.false_eq_true, if_false]
  exact if_pos ha

theorem State.takeHaltClear_clears {s : State} {p : Port} (h : (s.port p).access.haltClear = true)
    (hh : s.interlock.haltLatch = true) (ha : s.interlock.causes &&& s.interlock.active = 0) :
    s.takeHaltClear p = (s.clearHalt.conclude s).answer p .ok [] := by
  unfold State.takeHaltClear
  simp only [h, hh, Bool.not_true, Bool.false_eq_true, if_false]
  exact if_neg (not_not.2 ha)

/-- Settles O44. -/
theorem haltClearEmptiesTheSet : Obligations.HaltClearEmptiesTheSet := by
  intro p req s hasks
  refine ⟨fun h => ?_, fun h hh => ?_, fun h hh ha => ?_, fun h hh ha => ?_⟩
  · exact onRequest_answers hasks (State.takeHaltClear_denied h)
  · exact onRequest_answers hasks (State.takeHaltClear_idle h hh)
  · exact onRequest_answers hasks (State.takeHaltClear_active h hh ha)
  · have hafter := s.afterResume_clearHalt
    have hok : s.haltCleared.chamberOk = s.interlock.secured := by
      simp [State.chamberOk, State.haltCleared, Interlock.clearHalt]
    have hunit : s.clearHalt.interlock = s.interlock.clearHalt := by
      rw [State.clearHalt_eq, State.reportPass_interlock, s.haltCleared.resumeIfEngaged_frame.2.1]
      rfl
    have hpass : s.clearHalt.passDue = true := by
      rw [State.clearHalt_eq]
      exact State.reportPass_passDue _
    have hbeyond : s.BeyondTheTable s.clearHalt := .of_eq (by simp) (by simp) (by simp) (by simp) (by simp) (by simp)
    have hexec : exec (.haltClear p) s = .next ((s.clearHalt.conclude s).answer p .ok []) := by
      show onRequest s p 0x20 (fun _ => s.takeHaltClear p) = _
      rw [onRequest_asks hasks, State.takeHaltClear_clears h hh ha]
    obtain ⟨hcauses, hfirst, hlatch⟩ := s.clearHalt.haltStands_conclude s
    rw [hunit] at hcauses hfirst hlatch
    have hposts := s.notifies_haltCleared.trans (hafter.notifies s)
    have hresumed := fun hs he i hheld => State.resumed_of_haltCleared (hafter.resumed s (hok.trans hs) he (i := i) hheld)
    have hclaim := fun i => hafter.claim_of_not_held s (i := i)
    have hunsecured := fun hs => hafter.claims_of_not_ok s (hok.trans hs)
    have hreleased := hafter.claims_of_released s
    have hwhole := hbeyond.trans (s.clearHalt.beyondTheTable_conclude s)
    have hdue := State.passDue_conclude hpass s
    generalize s.clearHalt.conclude s = x at *
    refine ⟨x.answer p .ok [], hexec, hcauses, hfirst, hlatch, fun q => ?_, State.passDue_answer hdue p .ok [],
      fun hs he i hheld => State.Resumed.answer (hresumed hs he i hheld) p .ok [], hclaim, hunsecured, hreleased,
      portsButNotices_answer hasks hposts.ports .ok [], fun n q => ?_,
      hwhole.trans (x.beyondTheTable_answer p .ok [])⟩
    · exact (posted_answer x p .ok [] _ q).2 (hposts.posted (.inl rfl))
    · exact (posted_answer x p .ok [] n q).trans (hposts.posts n q)

end Sys2Proof.Machine
end

section
/-! Secured gained (R49, R51): the closing that completes the secured condition. -/

namespace Sys2Proof.Machine

/-! ## Secured gained at the unit and at the claim table (R51) -/

/-- The state with the switch copies of the unit u, as secured is gained. -/
def State.gainedBy (s : State) (u : Interlock) : State :=
  { s with interlock := { u with secured := true, active := u.active.erase .lidForced } }

/-- The claim table and the arbiter have taken it, and it is handed to the batch unit. -/
def State.gained (s : State) (u : Interlock) : State :=
  (s.gainedBy u).resumeIfEngaged.reportPass.handSecured .gained

theorem State.securedGained_eq (s : State) (u : Interlock) :
    ({ s with interlock := u } : State).securedGained = s.gained u := by
  unfold State.securedGained State.gained State.resumeIfEngaged
  rfl

theorem State.deriveSecured_gained {s : State} {u : Interlock} (hs : u.secured = false) (hw : u.securedWanted = true) :
    ({ s with interlock := u } : State).deriveSecured = s.gained u := by
  rw [← State.securedGained_eq]
  unfold State.deriveSecured
  simp [hs, hw]

theorem State.gained_interlock (s : State) (u : Interlock) : (s.gained u).interlock = (s.gainedBy u).interlock := by
  unfold State.gained
  rw [State.handSecured_interlock, State.reportPass_interlock, (s.gainedBy u).resumeIfEngaged_frame.2.1]

theorem State.gained_batch (s : State) (u : Interlock) :
    (s.gained u).batch = { s.batch with securedEvents := s.batch.securedEvents ++ [.gained] } := by
  unfold State.gained State.handSecured
  rw [State.reportPass_batch, (s.gainedBy u).resumeIfEngaged_frame.2.2.2.2.1]
  rfl

theorem State.gained_frame (s : State) (u : Interlock) : (s.gained u).sensors = s.sensors ∧
    (s.gained u).tuning = s.tuning ∧ (s.gained u).time = s.time ∧ (s.gained u).passDue = true ∧
    (s.gained u).arbiter.requests = s.arbiter.requests ∧ (s.gained u).arbiter.handover = s.arbiter.handover := by
  obtain ⟨ha, -, hm, ht, -, hv⟩ := (s.gainedBy u).resumeIfEngaged_frame
  unfold State.gained
  refine ⟨by rw [State.handSecured_sensors, State.reportPass_sensors, hm]; rfl,
    by rw [State.handSecured_tuning, State.reportPass_tuning, hv]; rfl,
    by rw [State.handSecured_time, State.reportPass_time, ht]; rfl, State.reportPass_passDue _,
    by rw [State.handSecured_arbiter, State.reportPass_requests, ha]; rfl,
    by rw [State.handSecured_arbiter, State.reportPass_handover, ha]; rfl⟩

theorem State.afterResume_gained (s : State) (u : Interlock) : (s.gainedBy u).AfterResume (s.gained u) := by
  obtain ⟨hm, -, ht, -, -, hh⟩ := s.gained_frame u
  refine ⟨?_, ?_, ?_, ?_, hm, ht, hh, by rw [State.gained_interlock], State.chamberOk_of_interlock (s.gained_interlock u)⟩
    <;> unfold State.gained <;> simp

/-- What the switches' events do after it reaches neither the claims nor the outputs. -/
theorem State.AfterResume.later {w x y : State} (h : w.AfterResume x) (hc : y.claims = x.claims) (hp : y.ports = x.ports)
    (hr : y.rotor = x.rotor) (hd : y.drives = x.drives) (hm : y.sensors = x.sensors) (ht : y.time = x.time)
    (ha : y.arbiter = x.arbiter) (hk : y.interlock.latchCommand = x.interlock.latchCommand)
    (hok : y.chamberOk = x.chamberOk) : w.AfterResume y :=
  ⟨hc.trans h.claims, hp.trans h.ports, hr.trans h.rotor, hd.trans h.drives, hm.trans h.sensors, ht.trans h.time,
    (congrArg Arbiter.handover ha).trans h.handover, hk.trans h.command, hok.trans h.chamberOk⟩

/-! ## What the rest of the event makes of it -/

/-- The rest of an event that gained secured, from the states before and after its steps. -/
structure State.GainEnds (s : State) (u : Interlock) (x : State) : Prop where
  after : (s.gainedBy u).AfterResume x
  unit : x.interlock =
    { u with secured := true, active := x.interlock.active, disagreement := x.interlock.disagreement }
  lidForced : x.interlock.active.has .lidForced = false
  arbiter : x.arbiter = (s.gained u).arbiter
  tuning : x.tuning = s.tuning

theorem State.lidForced_gainedBy (s : State) (u : Interlock) :
    (s.gainedBy u).interlock.active.has .lidForced = false := by
  show (u.active.erase .lidForced).has .lidForced = false
  rw [CauseSet.has_erase]
  simp

theorem State.gainEnds_handBin (s : State) (u : Interlock) (e : BinEvent) :
    s.GainEnds u ((s.gained u).handBin e) := by
  have hu : ((s.gained u).handBin e).interlock = (s.gainedBy u).interlock := s.gained_interlock u
  refine ⟨(s.afterResume_gained u).later rfl rfl rfl rfl rfl rfl rfl rfl rfl, by rw [hu]; rfl,
    by rw [hu]; exact s.lidForced_gainedBy u, rfl, (s.gained_frame u).2.1⟩

theorem State.gainEnds_judgeDisagreement (s : State) (u : Interlock) : s.GainEnds u (s.gained u).judgeDisagreement := by
  have hu : (s.gained u).judgeDisagreement.interlock = (s.gainedBy u).interlock.judgeDisagreement s.time := by
    rw [State.judgeDisagreement_interlock, State.gained_interlock, (s.gained_frame u).2.2.1]
  refine ⟨(s.afterResume_gained u).later rfl rfl rfl rfl rfl rfl rfl rfl rfl, by rw [hu]; rfl, ?_, rfl,
    (s.gained_frame u).2.1⟩
  rw [hu]
  unfold Interlock.judgeDisagreement
  simp only
  split
  · exact s.lidForced_gainedBy u
  · rw [CauseSet.has_erase, s.lidForced_gainedBy u]
    rfl

/-- The parts of the statement that every closing shares. -/
structure State.GainResult (s t : State) : Prop where
  secured : t.interlock.secured = true
  lidForced : t.interlock.active.has .lidForced = false
  resumed : s.interlock.haltLatch = false → s.interlock.latchCommand = .engage → ∀ i, (s.claim i).state = .held →
    s.Resumed t i
  others : ∀ i, (s.claim i).state ≠ .held → t.claim i = s.claim i
  halted : s.interlock.haltLatch = true → t.claims = s.claims
  released : s.interlock.latchCommand = .release → s.LatchFollows → t.claims = s.claims
  halt : s.HaltStands t
  passDue : t.passDue = true
  ports : s.PortsButNotices t
  posts : s.PostsExactly t (s.ResumeNotice t)
  sensors : t.sensors = s.sensors
  tuning : t.tuning = s.tuning
  time : t.time = s.time
  requests : t.arbiter.requests = s.arbiter.requests

theorem State.resumed_of_gainedBy {s t : State} {u : Interlock} {i : ClaimIdx} (h : (s.gainedBy u).Resumed t i) :
    s.Resumed t i :=
  h.carry rfl rfl rfl rfl rfl (fun _ _ _ hk => hk) rfl (fun _ hq => hq) (fun _ => rfl) fun _ => rfl

theorem State.GainEnds.result {s x : State} {u : Interlock} (h : s.GainEnds u x)
    (hcommand : u.latchCommand = s.interlock.latchCommand) (hhalt : u.haltLatch = s.interlock.haltLatch)
    (hcauses : u.causes = s.interlock.causes) (hfirst : u.firstCause = s.interlock.firstCause) (old : State) :
    s.GainResult (x.conclude old) := by
  have hok : (s.gainedBy u).chamberOk = !s.interlock.haltLatch := by
    simp [State.chamberOk, State.gainedBy, hhalt]
  have hfollows : s.LatchFollows → (s.gainedBy u).LatchFollows := fun hs => by
    unfold State.LatchFollows at hs ⊢
    rw [State.driven_congr (s := s) (t := s.gainedBy u) rfl rfl]
    exact (iff_of_eq (congrArg (· = LatchCommand.release) hcommand)).trans hs
  obtain ⟨hm, -, ht, hpass, hrequests, -⟩ := s.gained_frame u
  obtain ⟨tcauses, tfirst, thalt⟩ := x.haltStands_conclude old
  obtain ⟨tm, -, tv, tt, -, -⟩ := x.beyondTheTable_conclude old
  have hnotices := h.after.notifies old
  have harbiter : (x.conclude old).arbiter = (s.gained u).arbiter := (State.conclude_arbiter x old).trans h.arbiter
  have hunit := h.unit
  refine ⟨?_, State.active_conclude h.lidForced old, fun hh he i hheld => ?_, fun i => h.after.claim_of_not_held old,
    fun hh => h.after.claims_of_not_ok old (by rw [hok, hh]; rfl),
    fun hc hs => h.after.claims_of_released old (hcommand.trans hc) (hfollows hs), ⟨?_, ?_, ?_⟩, ?_, hnotices.ports,
    hnotices.posts, tm.trans h.after.sensors, tv.trans h.tuning, tt.trans h.after.time, ?_⟩
  · rw [x.conclude_unit old, hunit]
  · exact State.resumed_of_gainedBy (h.after.resumed old (by rw [hok, hh]; rfl) (hcommand.trans he) hheld)
  · rw [tcauses, hunit, hcauses]
  · rw [tfirst, hunit, hfirst]
  · rw [thalt, hunit, hhalt]
  · unfold State.passDue at hpass ⊢
    rwa [harbiter]
  · rw [harbiter, hrequests]

/-- In a lawful table no HELD claim is of the latch, so a resumption leaves the latch command where the table has it. -/
theorem State.GainEnds.latchFollows {s x : State} {u : Interlock} (h : s.GainEnds u x)
    (hcommand : u.latchCommand = s.interlock.latchCommand) (hs : s.LatchFollows) (hl : s.ClaimsLawful) :
    x.LatchFollows := by
  have hw : (s.gainedBy u).LatchFollows := by
    unfold State.LatchFollows at hs ⊢
    rw [State.driven_congr (s := s) (t := s.gainedBy u) rfl rfl]
    exact (iff_of_eq (congrArg (· = LatchCommand.release) hcommand)).trans hs
  by_cases hn : (s.gainedBy u).chamberOk = true ∧ (s.gainedBy u).interlock.latchCommand = .engage
  · have hclaim : ∀ j, x.claim j = (s.claim j).resumed s.sensors.clock := fun j => by
      rw [State.claim_congr h.after.claims, State.resumeIfEngaged_of_fit hn.1 hn.2, State.claim_resumeAll]
      rfl
    have hgrants : ∀ j, (x.claim j).grantedOn .latch = true ↔ (s.claim j).grantedOn .latch = true := by
      intro j
      rw [hclaim]
      by_cases hheld : (s.claim j).state = .held
      · obtain ⟨-, -, -, hkind, -⟩ := hl j
        obtain ⟨-, ht⟩ := hkind hheld
        refine iff_of_false (fun hg => ?_) fun hg => ?_ <;> have htl := ((Claim.grantedOn_iff _ _).1 hg).2.2
        · rw [Claim.active_resumed] at htl
          rcases ht with ht | ht <;> rw [ht] at htl <;> cases htl
        · rcases ht with ht | ht <;> rw [ht] at htl <;> cases htl
      · rw [Claim.resumed_of_not_held hheld]
    unfold State.LatchFollows at hw ⊢
    rw [h.after.command, hw, State.driven_iff, State.driven_iff]
    simp only [hgrants]
    unfold State.handsOver
    rw [h.after.handover]
    rfl
  · exact h.after.latchFollows_of_unfit hn hw

/-- The disagreement timer judged at the lid and the feedback (R61). -/
theorem State.disagreement_gained {s : State} {u : Interlock} (hcommand : u.latchCommand = s.interlock.latchCommand)
    (htimer : u.disagreement = s.interlock.disagreement) (hlid : u.lidClosed = true) (hfeedback : u.feedbackEngaged = true)
    (hs : s.LatchFollows) (hl : s.ClaimsLawful) (old : State) :
    ((s.gained u).judgeDisagreement.conclude old).interlock.disagreement =
      if s.interlock.latchCommand = .engage then none else some (s.interlock.disagreement.getD s.time) := by
  have hunit : (s.gained u).judgeDisagreement.interlock = (s.gainedBy u).interlock.judgeDisagreement s.time := by
    rw [State.judgeDisagreement_interlock, State.gained_interlock, (s.gained_frame u).2.2.1]
  rw [State.conclude_interlock_stands ((s.gainEnds_judgeDisagreement u).latchFollows hcommand hs hl), hunit]
  simp only [Interlock.judgeDisagreement, State.gainedBy, Interlock.disagrees, hlid, hfeedback, htimer, hcommand]
  cases s.interlock.latchCommand <;> simp

/-! ## The three closings (R51) -/

theorem State.judgeForced_closing (s : State) : s.judgeForced false = s := rfl

theorem exec_lid_gained {s : State} (hsec : s.interlock.secured = false) (hlid : s.interlock.lidClosed = false)
    (hbin : s.interlock.binIn = true) (hfb : s.interlock.feedbackEngaged = true) :
    exec (.lidSwitchChange true) s =
      .next ((s.gained { s.interlock with lidClosed := true }).judgeDisagreement.conclude s) := by
  show execLidSwitchChange true s = _
  unfold execLidSwitchChange
  have hgained := State.deriveSecured_gained (s := s) (u := { s.interlock with lidClosed := true }) hsec
    (by simp [Interlock.securedWanted, hbin, hfb])
  rw [if_neg (by simp [hlid])]
  simp only [hgained, Bool.not_true, State.judgeForced_closing]

theorem exec_bin_gained {s : State} (hsec : s.interlock.secured = false) (hbin : s.interlock.binIn = false)
    (hlid : s.interlock.lidClosed = true) (hfb : s.interlock.feedbackEngaged = true) :
    exec (.binSwitchChange true) s =
      .next (((s.gained { s.interlock with binIn := true }).handBin .inserted).conclude s) := by
  show execBinSwitchChange true s = _
  unfold execBinSwitchChange
  have hgained := State.deriveSecured_gained (s := s) (u := { s.interlock with binIn := true }) hsec
    (by simp [Interlock.securedWanted, hlid, hfb])
  rw [if_neg (by simp [hbin])]
  simp only [hgained, Bool.not_true, State.judgeForced_closing, binEvent, if_true]

theorem exec_feedback_gained {s : State} (hsec : s.interlock.secured = false)
    (hfb : s.interlock.feedbackEngaged = false) (hlid : s.interlock.lidClosed = true) (hbin : s.interlock.binIn = true) :
    exec (.latchFeedbackChange true) s =
      .next ((s.gained { s.interlock with feedbackEngaged := true }).judgeDisagreement.conclude s) := by
  show execLatchFeedbackChange true s = _
  unfold execLatchFeedbackChange
  have hgained := State.deriveSecured_gained (s := s) (u := { s.interlock with feedbackEngaged := true }) hsec
    (by simp [Interlock.securedWanted, hlid, hbin])
  rw [if_neg (by simp [hfb])]
  simp only [hgained]

theorem State.batch_gained_judged (s : State) (u : Interlock) (old : State) :
    ((s.gained u).judgeDisagreement.conclude old).batch =
      { s.batch with securedEvents := s.batch.securedEvents ++ [.gained], binEvents := s.batch.binEvents ++ [] } := by
  rw [State.conclude_batch, State.judgeDisagreement_batch, State.gained_batch, List.append_nil]

theorem State.batch_gained_bin (s : State) (u : Interlock) (old : State) :
    (((s.gained u).handBin .inserted).conclude old).batch =
      { s.batch with
        securedEvents := s.batch.securedEvents ++ [.gained], binEvents := s.batch.binEvents ++ [.inserted] } := by
  rw [State.conclude_batch]
  unfold State.handBin
  rw [State.gained_batch]

/-- Settles O41. -/
theorem securedGainedResumesTheHeld : Obligations.SecuredGainedResumesTheHeld := by
  intro s c hsec hc
  rcases hc with ⟨rfl, hlid, hbin, hfb⟩ | ⟨rfl, hbin, hlid, hfb⟩ | ⟨rfl, hfb, hlid, hbin⟩
  · have hexec := exec_lid_gained hsec hlid hbin hfb
    have hr := (s.gainEnds_judgeDisagreement { s.interlock with lidClosed := true }).result rfl rfl rfl rfl s
    have hd := fun hs hl => State.disagreement_gained (s := s) (u := { s.interlock with lidClosed := true }) rfl rfl rfl
      hfb hs hl s
    have hb := s.batch_gained_judged { s.interlock with lidClosed := true } s
    generalize (s.gained { s.interlock with lidClosed := true }).judgeDisagreement.conclude s = t at *
    exact ⟨t, hexec, hr.secured, hr.lidForced, hr.resumed, hr.others, hr.halted, hr.released, fun _ => hd,
      hr.halt, hr.passDue, by rw [hb, if_neg (by simp)], hr.ports, hr.posts, hr.sensors, hr.tuning, hr.time, hr.requests⟩
  · have hexec := exec_bin_gained hsec hbin hlid hfb
    have hr := (s.gainEnds_handBin { s.interlock with binIn := true } .inserted).result rfl rfl rfl rfl s
    have hb := s.batch_gained_bin { s.interlock with binIn := true } s
    generalize ((s.gained { s.interlock with binIn := true }).handBin .inserted).conclude s = t at *
    exact ⟨t, hexec, hr.secured, hr.lidForced, hr.resumed, hr.others, hr.halted, hr.released, fun h => absurd rfl h,
      hr.halt, hr.passDue, by rw [hb, if_pos rfl], hr.ports, hr.posts, hr.sensors, hr.tuning, hr.time, hr.requests⟩
  · have hexec := exec_feedback_gained hsec hfb hlid hbin
    have hr := (s.gainEnds_judgeDisagreement { s.interlock with feedbackEngaged := true }).result rfl rfl rfl rfl s
    have hd := fun hs hl => State.disagreement_gained (s := s) (u := { s.interlock with feedbackEngaged := true }) rfl rfl
      hlid rfl hs hl s
    have hb := s.batch_gained_judged { s.interlock with feedbackEngaged := true } s
    generalize (s.gained { s.interlock with feedbackEngaged := true }).judgeDisagreement.conclude s = t at *
    exact ⟨t, hexec, hr.secured, hr.lidForced, hr.resumed, hr.others, hr.halted, hr.released, fun _ => hd,
      hr.halt, hr.passDue, by rw [hb, if_neg (by simp)], hr.ports, hr.posts, hr.sensors, hr.tuning, hr.time, hr.requests⟩

end Sys2Proof.Machine
end

section
/-! A hold request and a trip event whole (R15, R18, R56, R63 to R65). -/

namespace Sys2Proof.Machine

/-! ## A hold request (R15) -/

/-- An entry after a hold request. -/
def Claim.afterHold (c : Claim) : Claim :=
  if c.isHoldable then if c.active.singleTry then c.afterEnd .interrupted else { c with state := .held } else c

theorem Claim.isHoldable_of_state {c : Claim} (h : c.state ≠ .granted) : c.isHoldable = false := by
  rw [← Bool.not_eq_true, Claim.isHoldable_iff]
  rintro ⟨hs, -⟩
  exact h hs

theorem Claim.state_afterEnd_ne_granted (c : Claim) (why : ClaimOutcome) : (c.afterEnd why).state ≠ .granted := by
  unfold Claim.afterEnd
  split <;> simp [Claim.free]

theorem Claim.isHoldable_afterHold (c : Claim) : c.afterHold.isHoldable = false := by
  unfold Claim.afterHold
  split
  · split
    · exact Claim.isHoldable_of_state (c.state_afterEnd_ne_granted _)
    · exact Claim.isHoldable_of_state (by simp)
  next h => simpa using h

theorem Claim.afterHold_of_not_holdable {c : Claim} (h : c.isHoldable = false) : c.afterHold = c := by
  unfold Claim.afterHold
  rw [if_neg (by simp [h])]

@[simp] theorem Claim.afterHold_afterHold (c : Claim) : c.afterHold.afterHold = c.afterHold :=
  Claim.afterHold_of_not_holdable c.isHoldable_afterHold

theorem State.claim_holdOne (s : State) (i j : ClaimIdx) :
    (s.holdOne i).claim j = if i = j then (s.claim j).afterHold else s.claim j := by
  have hapart : s.EndsApart i .interrupted := fun h => by cases h
  unfold State.holdOne Claim.afterHold
  simp only
  by_cases hij : i = j
  · subst hij
    rw [if_pos rfl]
    split
    · split
      · unfold State.endAndReport
        rw [State.claim_reportPass, State.claim_endClaim_self hapart]
      · split <;> simp
    · rfl
  · rw [if_neg hij]
    split
    · split
      · unfold State.endAndReport
        rw [State.claim_reportPass, State.claim_endClaim_other hij, if_neg (by simp)]
      · split <;> simp [State.claim_setClaim, hij]
    · rfl

theorem State.claim_foldl_holdOne (l : List ClaimIdx) (j : ClaimIdx) : ∀ s : State,
    (l.foldl State.holdOne s).claim j = if j ∈ l then (s.claim j).afterHold else s.claim j := by
  induction l with
  | nil => intro s; rfl
  | cons i l ih =>
    intro s
    rw [List.foldl_cons, ih, State.claim_holdOne]
    by_cases hij : i = j
    · subst hij
      by_cases hl : i ∈ l <;> simp [hl]
    · by_cases hl : j ∈ l <;> simp [hl, hij, Ne.symm hij]

theorem State.claim_holdAll (s : State) (j : ClaimIdx) : s.holdAll.claim j = (s.claim j).afterHold := by
  unfold State.holdAll
  rw [State.claim_foldl_holdOne, if_pos (mem_all16 j)]

/-- The notice of a hold of one entry (R15). -/
def Claim.HoldNotice (c : Claim) (n : Source) (q : Port) : Prop :=
  c.isHoldable = true ∧ c.owner = some q ∧ n = if c.active.singleTry then .ended else .interrupted

theorem State.notifies_holdOne (s : State) (i : ClaimIdx) : s.Notifies (s.holdOne i) (s.claim i).HoldNotice := by
  unfold State.holdOne Claim.HoldNotice
  simp only
  split
  · split
    next hh ht =>
      refine ((s.notifies_endClaim i .interrupted).congr rfl (State.reportPass_ports _)).iff fun n q => ?_
      simp [State.ChainBreaks, hh, and_comm]
    next hh ht =>
      refine State.Notifies.iff (a := fun n q => n = .interrupted ∧ (s.claim i).owner = some q) ?_ fun n q => ?_
      · refine (State.notifies_postOwner (s.setClaim i { s.claim i with state := .held }) .interrupted _).congr rfl ?_
        split
        · exact State.reportPass_ports _
        · rfl
      · simp [hh, and_comm]
  next hh => exact (State.Notifies.of_ports_eq rfl).iff fun n q => by simp [hh]

theorem State.notifies_foldl_holdOne (l : List ClaimIdx) : ∀ s : State,
    s.Notifies (l.foldl State.holdOne s) fun n q => ∃ j ∈ l, (s.claim j).HoldNotice n q := by
  induction l with
  | nil => intro s; exact (State.Notifies.of_ports_eq rfl).iff (by simp)
  | cons i l ih =>
    intro s
    refine ((s.notifies_holdOne i).trans (ih (s.holdOne i))).iff fun n q => ?_
    have hrest : ∀ j, ((s.holdOne i).claim j).HoldNotice n q ↔ j ≠ i ∧ (s.claim j).HoldNotice n q := by
      intro j
      rw [State.claim_holdOne]
      by_cases hij : i = j
      · simp [hij, Claim.HoldNotice, Claim.isHoldable_afterHold]
      · simp [hij, Ne.symm hij]
    simp only [hrest, List.mem_cons, exists_eq_or_imp]
    constructor
    · rintro (h | ⟨j, hj, -, h⟩)
      · exact .inl h
      · exact .inr ⟨j, hj, h⟩
    · rintro (h | ⟨j, hj, h⟩)
      · exact .inl h
      · by_cases hji : j = i
        · exact .inl (hji ▸ h)
        · exact .inr ⟨j, hj, hji, h⟩

theorem State.notifies_holdAll (s : State) : s.Notifies s.holdAll fun n q => ∃ j, (s.claim j).HoldNotice n q :=
  (s.notifies_foldl_holdOne all16).iff (by simp [mem_all16])

/-- A hold of this entry calls for a pass: an end, or the GRINDER's (R15, R29). -/
def Claim.holdReports (c : Claim) : Prop :=
  c.isHoldable = true ∧ (c.active.singleTry = true ∨ c.active.target = .grinder)

theorem State.passDue_holdOne {s : State} {i : ClaimIdx} (h : s.passDue = true ∨ (s.claim i).holdReports) :
    (s.holdOne i).passDue = true := by
  unfold State.holdOne
  simp only
  split
  next hh =>
    split
    · exact State.reportPass_passDue _
    next ht =>
      split
      · exact State.reportPass_passDue _
      next hg =>
        rcases h with h | ⟨-, h | h⟩
        · unfold State.passDue at h ⊢
          rwa [State.postOwner_arbiter]
        · exact absurd h ht
        · exact absurd h hg
  next hh =>
    rcases h with h | ⟨h, -⟩
    · exact h
    · exact absurd h hh

theorem State.passDue_foldl_holdOne {l : List ClaimIdx} : ∀ {s : State},
    s.passDue = true ∨ (∃ i ∈ l, (s.claim i).holdReports) → (l.foldl State.holdOne s).passDue = true := by
  induction l with
  | nil => intro s h; simpa using h
  | cons i l ih =>
    intro s h
    rw [List.foldl_cons]
    refine ih ?_
    by_cases hi : s.passDue = true ∨ (s.claim i).holdReports
    · exact .inl (State.passDue_holdOne hi)
    · obtain ⟨hs, hn⟩ := not_or.1 hi
      obtain ⟨j, hj, hr⟩ := h.resolve_left hs
      have hji : i ≠ j := fun he => hn (he ▸ hr)
      refine .inr ⟨j, (List.mem_cons.1 hj).resolve_left (Ne.symm hji), ?_⟩
      rwa [State.claim_holdOne, if_neg hji]

theorem State.passDue_holdAll {s : State} (h : s.passDue = true ∨ ∃ i, (s.claim i).holdReports) :
    s.holdAll.passDue = true :=
  State.passDue_foldl_holdOne (h.imp_right fun ⟨i, hi⟩ => ⟨i, mem_all16 i, hi⟩)

/-! ## The end of an event in a chamber that is not fit (R63, R78) -/

theorem State.not_resumesHeld_of_not_ok {u : State} (h : u.chamberOk = false) : ¬u.ResumesHeld := by
  rintro ⟨-, -, hk⟩
  rw [h] at hk
  cases hk

theorem State.claim_conclude_of_not_ok {u : State} (h : u.chamberOk = false) (old : State) (j : ClaimIdx) :
    (u.conclude old).claim j = u.claim j := by
  rw [State.claim_conclude]
  exact State.claim_congr (State.claims_followLatch_of_not_resumes (State.not_resumesHeld_of_not_ok h)) j

theorem State.conclude_ports_of_not_ok {u : State} (h : u.chamberOk = false) (old : State) :
    (u.conclude old).ports = u.ports := by
  rw [State.conclude_ports, State.followLatch_of_not_resumes (State.not_resumesHeld_of_not_ok h),
    State.setLatchCommand_ports]

theorem State.conclude_rotor_of_not_ok {u : State} (h : u.chamberOk = false) (old : State) :
    (u.conclude old).rotor = u.rotor.stop u.time := by
  have hr := State.rotor_followLatch_of_not_resumes (State.not_resumesHeld_of_not_ok h)
  rw [State.conclude_rotor]
  unfold State.followRotor
  rw [u.chamberOk_followLatch, h, Bool.and_false, if_neg (by simp), hr, State.followLatch_time]

theorem State.conclude_heaterOn_of_not_ok {u : State} (h : u.chamberOk = false) (old : State) :
    (u.conclude old).drives.heaterOn = false := by
  have hf : u.followLatch.followRotor.chamberOk = false :=
    (State.chamberOk_of_interlock (by simp)).trans (u.chamberOk_followLatch.trans h)
  rw [State.conclude_heaterOn]
  unfold State.followHeater
  rw [hf, Bool.and_false, if_neg (by simp)]

theorem Rotor.mode_stop (r : Rotor) (now : Nat) : (r.stop now).mode = .idle := by
  unfold Rotor.stop
  split
  · assumption
  · rfl

theorem Rotor.stop_of_idle {r : Rotor} (h : r.mode = .idle) (now : Nat) : r.stop now = r := by
  unfold Rotor.stop
  rw [if_pos h]

/-- What a stop leaves alone. -/
theorem Rotor.stop_keeps (r : Rotor) (now : Nat) : (r.stop now).earlyCount = r.earlyCount ∧
    (r.stop now).ring = r.ring ∧ (r.stop now).period = r.period ∧ (r.stop now).lastAccepted = r.lastAccepted := by
  unfold Rotor.stop Rotor.setOutput
  split
  · exact ⟨rfl, rfl, rfl, rfl⟩
  · split
    · exact ⟨rfl, rfl, rfl, rfl⟩
    · rw [if_pos rfl]
      exact ⟨rfl, rfl, rfl, rfl⟩

/-! ## A trip event (R63 to R65) -/

/-- The unit at a trip event (R63, R64). -/
def Interlock.tripped (u : Interlock) (c : Cause) : Interlock :=
  { u with causes := u.causes.insert c, firstCause := if u.haltLatch then u.firstCause else some c, haltLatch := true }

/-- The claim table at a trip event, before the hold: at a JAM the GRINDER holder ends (R18, R65). -/
def State.tripStarts (s : State) (c : Cause) : State :=
  if c = .jam then ({ s with interlock := s.interlock.tripped c } : State).jamEnd
  else { s with interlock := s.interlock.tripped c }

theorem State.tripEvent_eq (s : State) (c : Cause) : s.tripEvent c = ((s.tripStarts c).holdAll).postAll .trip := by
  unfold State.tripEvent State.tripStarts Interlock.tripped
  rfl

theorem State.tripStarts_interlock (s : State) (c : Cause) : (s.tripStarts c).interlock = s.interlock.tripped c := by
  unfold State.tripStarts
  split
  · rw [State.jamEnd_interlock]
  · rfl

theorem State.tripEvent_interlock (s : State) (c : Cause) : (s.tripEvent c).interlock = s.interlock.tripped c := by
  rw [State.tripEvent_eq, State.postAll_interlock, State.holdAll_interlock, State.tripStarts_interlock]

theorem State.chamberOk_tripEvent (s : State) (c : Cause) : (s.tripEvent c).chamberOk = false := by
  unfold State.chamberOk
  rw [State.tripEvent_interlock]
  simp [Interlock.tripped]

/-- The entries after the event of a trip: held out of what the trip began with (R15). -/
theorem State.claim_trip (s : State) (c : Cause) (old : State) (j : ClaimIdx) :
    ((s.tripEvent c).conclude old).claim j = ((s.tripStarts c).claim j).afterHold := by
  rw [State.claim_conclude_of_not_ok (s.chamberOk_tripEvent c), State.tripEvent_eq, State.claim_postAll,
    State.claim_holdAll]

theorem State.notifies_trip (s : State) (c : Cause) (old : State) :
    (s.tripStarts c).Notifies ((s.tripEvent c).conclude old) fun n q =>
      (∃ j, ((s.tripStarts c).claim j).HoldNotice n q) ∨ n = .trip := by
  have h := (s.tripStarts c).notifies_holdAll.trans (State.notifies_postAll _ .trip)
  rw [← State.tripEvent_eq] at h
  exact h.congr rfl (State.conclude_ports_of_not_ok (s.chamberOk_tripEvent c) old)

theorem State.tripped_trip (s : State) (c : Cause) (old : State) : s.Tripped ((s.tripEvent c).conclude old) c := by
  obtain ⟨hcauses, hfirst, hlatch⟩ := (s.tripEvent c).haltStands_conclude old
  rw [State.tripEvent_interlock] at hcauses hfirst hlatch
  have hok := s.chamberOk_tripEvent c
  exact ⟨hcauses, hlatch, hfirst, State.conclude_heaterOn_of_not_ok hok old,
    (congrArg Rotor.mode (State.conclude_rotor_of_not_ok hok old)).trans (Rotor.mode_stop _ _),
    fun p => (s.notifies_trip c old).posted (.inr rfl)⟩

theorem State.rotor_trip (s : State) (c : Cause) (old : State) :
    ((s.tripEvent c).conclude old).rotor = s.rotor.stop s.time := by
  rw [State.conclude_rotor_of_not_ok (s.chamberOk_tripEvent c), State.tripEvent_rotor, State.tripEvent_time]

theorem State.passDue_trip {s : State} {c : Cause}
    (h : (s.tripStarts c).passDue = true ∨ ∃ i, ((s.tripStarts c).claim i).holdReports) (old : State) :
    ((s.tripEvent c).conclude old).passDue = true := by
  refine State.passDue_conclude ?_ old
  have hheld := State.passDue_holdAll h
  rw [State.tripEvent_eq]
  unfold State.passDue at hheld ⊢
  rwa [State.postAll_arbiter]

theorem State.requests_trip (s : State) (c : Cause) (old : State) :
    ((s.tripEvent c).conclude old).arbiter.requests = s.arbiter.requests := by
  rw [State.conclude_arbiter]
  exact (s.calm_tripEvent (arms := anyArming) c).requests

theorem State.beyondTheTable_trip (s : State) (c : Cause) (old : State) :
    s.BeyondTheTable ((s.tripEvent c).conclude old) :=
  (State.BeyondTheTable.of_eq (by simp) (by simp) (by simp) (by simp) (by simp) (by simp)).trans
    (State.beyondTheTable_conclude _ old)

/-- The hold of a trip event, seen from a state with the same entries but for those that the test names (R15). -/
theorem State.holdTaken_trip {s x : State} {c : Cause} {named : ClaimIdx → Bool}
    (h : ∀ j, named j = false → (x.tripStarts c).claim j = s.claim j) (old : State) :
    s.HoldTaken ((x.tripEvent c).conclude old) named := by
  intro i hi
  have hclaim := x.claim_trip c old i
  rw [h i hi] at hclaim
  have hposted : ∀ n q, (s.claim i).HoldNotice n q → ((x.tripEvent c).conclude old).Posted n q := fun n q hn =>
    (x.notifies_trip c old).posted (.inl ⟨i, by rwa [h i hi]⟩)
  have hdue : (s.claim i).holdReports → ((x.tripEvent c).conclude old).passDue = true := fun hr =>
    State.passDue_trip (.inr ⟨i, by rwa [h i hi]⟩) old
  refine ⟨fun hh ht => ⟨?_, fun q hq => hposted _ q ⟨hh, hq, (if_neg (by simp [ht])).symm⟩, fun hg => hdue ⟨hh, .inr hg⟩⟩,
    fun hh ht => ⟨?_, fun q hq => hposted _ q ⟨hh, hq, (if_pos ht).symm⟩, hdue ⟨hh, .inl ht⟩⟩, fun hh => ?_⟩
  · rw [hclaim]
    unfold Claim.afterHold
    rw [if_pos hh, if_neg (by simp [ht])]
  · rw [hclaim]
    unfold Claim.afterHold
    rw [if_pos hh, if_pos ht]
  · rw [hclaim, Claim.afterHold_of_not_holdable hh]

/-! ## ROTOR_SENSOR (R85) -/

theorem State.isEarly_of_pulseIsEarly {s : State} (h : s.PulseIsEarly) : s.rotor.isEarly s.pulseEdge = true := by
  obtain ⟨period, last, hp, hl, hlt⟩ := h
  unfold Rotor.isEarly Rotor.interval
  rw [hp, hl]
  exact decide_eq_true hlt

theorem ringAppend_eq {ring : List PulseRecord} (h : ring.length ≤ 8) (x : PulseRecord) :
    ringAppend ring x = (ring ++ [x]).drop (ring.length + 1 - 8) := by
  unfold ringAppend Config.ringSize
  by_cases hlt : ring.length < 8
  · rw [if_pos hlt, show ring.length + 1 - 8 = 0 by omega]
    rfl
  · have h8 : ring.length + 1 - 8 = 1 := by omega
    rw [if_neg hlt, h8, List.drop_append_of_le_length (by omega)]

theorem State.ring_record {s : State} (h : s.rotor.ring.length ≤ 8) (he : s.PulseIsEarly) :
    (s.rotor.record s.time s.pulseEdge).ring = s.ringWith true := by
  unfold Rotor.record State.ringWith
  simp only
  rw [ringAppend_eq h, State.isEarly_of_pulseIsEarly he]
  rfl

/-- The fourth EARLY pulse in a row, with the trip that it raises (R85, R62). -/
theorem exec_rotorPulse_trips {s : State} (he : s.PulseIsEarly) (h3 : s.rotor.earlyCount = 3) :
    exec .rotorPulse s = .next ((({ s with rotor := s.rotor.earlyPulse s.time s.pulseEdge } : State).tripEvent
      .rotorSensor).conclude s) := by
  show execRotorPulse s = _
  unfold execRotorPulse State.takeEarly
  rw [if_pos (State.isEarly_of_pulseIsEarly he), if_pos (by rw [h3]; rfl)]
  rfl

theorem State.tripStarts_of_not_jam {s : State} {c : Cause} (h : c ≠ .jam) :
    s.tripStarts c = { s with interlock := s.interlock.tripped c } := if_neg h

theorem hold_notice_iff (s : State) (n : Source) (q : Port) :
    (∃ j, (s.claim j).HoldNotice n q) ↔ s.HoldNotice (fun _ => false) n q := by
  simp [Claim.HoldNotice]

/-! ## JAM (R94, R95) -/

/-- A probe fails for the third time (R94). -/
theorem exec_failsTheProbe {s : State} {c : Instr} (h : s.FailsTheProbe c) (h2 : s.rotor.attempts = 2) :
    exec c s = .next s.declareJam := by
  obtain ⟨hmode, hphase, hdue⟩ := h
  have hprobing : s.rotor.probing = true := by simp [Rotor.probing, hmode, hphase]
  have hwatch : s.watching = true := by simp [State.watching, hprobing]
  have hfails : s.probeFails = s.declareJam := by
    unfold State.probeFails
    rw [if_neg (by rw [h2]; decide)]
  have hstall : s.stall = s.declareJam := by
    unfold State.stall
    rw [if_neg (by simp [hmode]), hfails]
  rcases hdue with (⟨rfl, since, hg, ht⟩ | ⟨rfl, period, last, hp, hl, ht⟩) | ⟨rfl, ht⟩
  · show execStartGraceRunsOut s = _
    unfold execStartGraceRunsOut
    rw [if_pos, hstall]
    simp [hwatch, State.graceOver, hg, State.hasRun, Config.graceLength, Config.msec, ht]
  · show execStallDeadlinePassed s = _
    unfold execStallDeadlinePassed
    rw [if_pos, hstall]
    simp [hwatch, State.deadlinePassed, hp, hl, State.hasRun, ht]
  · show execProbeWindowEnd s = _
    unfold execProbeWindowEnd
    rw [if_pos, hfails]
    simp [hprobing, State.hasRun, Config.probeLength, Config.second, ht]

/-- The state with the drive stopped and the attempts at 3, in which the JAM is raised (R95). -/
def State.jammed (s : State) : State := { s with rotor := { s.rotor.stop s.time with attempts := 3 } }

theorem State.declareJam_eq (s : State) : s.declareJam = (s.jammed.tripEvent .jam).conclude s := rfl

/-- At a JAM the first GRINDER holder ends JAMMED (R18, log 21). -/
theorem State.tripStarts_jam {s : State} {i : ClaimIdx} (h : s.HoldsTheGrinder i) : s.jammed.tripStarts .jam =
    ({ s.jammed with interlock := s.interlock.tripped .jam } : State).endAndReport i .jammed := by
  have hholder : Table.holder s.claims .grinder = some i := by
    refine Table.holder_eq_some.2 ⟨h.1, fun j hj => ?_⟩
    by_contra hlt
    have hfree := h.2 j (not_le.1 hlt)
    unfold State.claim at hfree
    rw [hj] at hfree
    cases hfree
  unfold State.tripStarts State.jamEnd
  rw [if_pos rfl]
  simp only [show s.jammed.claims = s.claims from rfl, hholder]
  rfl

/-- A trip is seen alike from a state with the same interlock. -/
theorem State.Tripped.of_interlock {s x t : State} {c : Cause} (h : x.Tripped t c) (hx : x.interlock = s.interlock) :
    s.Tripped t c := by
  obtain ⟨hcauses, hlatch, hfirst, hrest⟩ := h
  rw [hx] at hcauses hfirst
  exact ⟨hcauses, hlatch, hfirst, hrest⟩

theorem State.rotorSensorTrips {s : State} (hlen : s.rotor.ring.length ≤ 8) (he : s.PulseIsEarly)
    (h3 : s.rotor.earlyCount = 3) :
    ∃ t, exec .rotorPulse s = .next t ∧ s.Tripped t .rotorSensor ∧ s.HoldTaken t (fun _ => false) ∧
      t.rotor.earlyCount = 0 ∧ t.rotor.ring = s.ringWith true ∧ t.rotor.period = s.rotor.period ∧
      t.rotor.lastAccepted = s.rotor.lastAccepted ∧ s.PortsButNotices t ∧
      s.PostsExactly t (fun n q => n = .trip ∨ s.HoldNotice (fun _ => false) n q) ∧ s.BeyondTheTable t ∧
      t.arbiter.requests = s.arbiter.requests := by
  have hexec := exec_rotorPulse_trips he h3
  have hring := State.ring_record hlen he
  have hzero : (s.rotor.earlyPulse s.time s.pulseEdge).earlyCount = 0 := if_pos (by rw [h3]; rfl)
  have hstarts : ∀ r : Rotor, ({ s with rotor := r } : State).tripStarts .rotorSensor =
      { s with rotor := r, interlock := s.interlock.tripped .rotorSensor } := fun r =>
    State.tripStarts_of_not_jam (by decide)
  have htripped := State.Tripped.of_interlock (s := s)
    (State.tripped_trip { s with rotor := s.rotor.earlyPulse s.time s.pulseEdge } .rotorSensor s) rfl
  have hheld := State.holdTaken_trip (s := s) (x := { s with rotor := s.rotor.earlyPulse s.time s.pulseEdge })
    (c := .rotorSensor) (named := fun _ => false) (fun j _ => by rw [hstarts]; rfl) s
  have hrotor := State.rotor_trip { s with rotor := s.rotor.earlyPulse s.time s.pulseEdge } .rotorSensor s
  have hnotes := State.notifies_trip { s with rotor := s.rotor.earlyPulse s.time s.pulseEdge } .rotorSensor s
  have hbeyond := State.beyondTheTable_trip { s with rotor := s.rotor.earlyPulse s.time s.pulseEdge } .rotorSensor s
  have hrequests := State.requests_trip { s with rotor := s.rotor.earlyPulse s.time s.pulseEdge } .rotorSensor s
  rw [hstarts] at hnotes
  generalize (State.tripEvent { s with rotor := s.rotor.earlyPulse s.time s.pulseEdge } .rotorSensor).conclude s = t
    at *
  obtain ⟨hcount, hrings, hperiod, hlast⟩ := Rotor.stop_keeps (s.rotor.earlyPulse s.time s.pulseEdge) s.time
  have hposts := (hnotes.congr (s' := s) rfl rfl).iff (b := fun n q => n = .trip ∨ s.HoldNotice (fun _ => false) n q)
    fun n q => or_comm.trans (or_congr_right (hold_notice_iff s n q))
  exact ⟨t, hexec, htripped, hheld, by rw [hrotor, hcount, hzero], by rw [hrotor, hrings]; exact hring,
    by rw [hrotor, hperiod]; rfl, by rw [hrotor, hlast]; rfl, hposts.ports, hposts.posts, hbeyond, hrequests⟩

/-- The end at an outcome other than DONE, before the event is concluded: one entry, its notice, and a pass (R19). -/
theorem State.endAndReport_alone (s : State) (i : ClaimIdx) {why : ClaimOutcome} (hw : why ≠ .done) :
    (s.endAndReport i why).claim i = (s.claim i).afterEnd why ∧
    (∀ j, j ≠ i → (s.endAndReport i why).claim j = s.claim j) ∧
    (s.Notifies (s.endAndReport i why) fun n q => n = .ended ∧ (s.claim i).owner = some q) ∧
    (s.endAndReport i why).passDue = true := by
  unfold State.endAndReport
  refine ⟨?_, fun j hj => ?_, ?_, State.reportPass_passDue _⟩
  · rw [State.claim_reportPass, State.claim_endClaim_self fun h => absurd h hw]
  · rw [State.claim_reportPass, State.claim_endClaim_other (Ne.symm hj), if_neg fun h => hw h.1]
  · exact ((s.notifies_endClaim i why).congr rfl (State.reportPass_ports _)).iff fun n q => by
      simp [State.ChainBreaks, hw]

/-- What a JAM begins with: the GRINDER holder has ended, and the other entries stand (R18, R65). -/
theorem State.jamStarts {s : State} {i : ClaimIdx} (h : s.HoldsTheGrinder i) :
    (s.jammed.tripStarts .jam).claim i = (s.claim i).afterEnd .jammed ∧
    (∀ j, j ≠ i → (s.jammed.tripStarts .jam).claim j = s.claim j) ∧
    (s.Notifies (s.jammed.tripStarts .jam) fun n q => n = .ended ∧ (s.claim i).owner = some q) ∧
    (s.jammed.tripStarts .jam).passDue = true := by
  rw [State.tripStarts_jam h]
  obtain ⟨hself, hother, hnotes, hdue⟩ :=
    State.endAndReport_alone { s.jammed with interlock := s.interlock.tripped .jam } i (why := .jammed) (by decide)
  exact ⟨hself, hother, hnotes.congr rfl rfl, hdue⟩

/-- The rotor monitor after a JAM: the drive stopped, and the attempts at 3 (R94, R95). -/
theorem State.rotor_declareJam (s : State) : s.declareJam.rotor = s.jammed.rotor := by
  rw [State.declareJam_eq, State.rotor_trip]
  exact Rotor.stop_of_idle (r := s.jammed.rotor) (Rotor.mode_stop s.rotor s.time) _

theorem State.jamTrips {s : State} {i : ClaimIdx} (hmode : s.rotor.mode = .jogging) (hi : s.HoldsTheGrinder i) :
    s.Tripped s.declareJam .jam ∧ s.HoldTaken s.declareJam (· == i) ∧
      s.declareJam.claim i = (s.claim i).afterEnd .jammed ∧ s.declareJam.PostedToOwner .ended (s.claim i).owner ∧
      s.declareJam.passDue = true ∧ s.declareJam.rotor.attempts = 3 ∧ s.declareJam.rotor.output = .off ∧
      s.declareJam.rotor.jogPhase = .none ∧ s.declareJam.rotor.probeCount = 0 ∧ s.declareJam.rotor.grace = none ∧
      s.declareJam.rotor.pattern = .idle ∧ s.declareJam.rotor.cleanRun = none ∧
      s.declareJam.rotor.ring = s.rotor.ring ∧ s.PortsButNotices s.declareJam ∧
      s.PostsExactly s.declareJam
        (fun n q => n = .trip ∨ (n = .ended ∧ (s.claim i).owner = some q) ∨ s.HoldNotice (· == i) n q) ∧
      s.BeyondTheTable s.declareJam ∧ s.declareJam.arbiter.requests = s.arbiter.requests := by
  obtain ⟨hself, hother, hended, hdue⟩ := State.jamStarts hi
  have hmine : ((s.jammed.tripStarts .jam).claim i).isHoldable = false := by
    rw [hself]
    exact Claim.isHoldable_of_state (Claim.state_afterEnd_ne_granted _ _)
  have hrotor := s.rotor_declareJam
  rw [State.declareJam_eq] at hrotor ⊢
  have htripped := State.Tripped.of_interlock (s := s) (State.tripped_trip s.jammed .jam s) rfl
  have hheld := State.holdTaken_trip (s := s) (x := s.jammed) (c := .jam) (named := (· == i))
    (fun j hj => hother j (beq_eq_false_iff_ne.1 hj)) s
  have hclaim := State.claim_trip s.jammed .jam s i
  rw [Claim.afterHold_of_not_holdable hmine, hself] at hclaim
  have hnotes := hended.trans (State.notifies_trip s.jammed .jam s)
  have hpass := State.passDue_trip (.inl hdue) s
  have hbeyond : s.BeyondTheTable _ := State.beyondTheTable_trip s.jammed .jam s
  have hrequests := State.requests_trip s.jammed .jam s
  have hhold : ∀ n q, (∃ j, ((s.jammed.tripStarts .jam).claim j).HoldNotice n q) ↔ s.HoldNotice (· == i) n q := by
    intro n q
    refine exists_congr fun j => ?_
    by_cases hj : j = i
    · subst hj
      simp [Claim.HoldNotice, hmine]
    · simp [Claim.HoldNotice, hother j hj, hj]
  obtain ⟨-, houtput, hphase, hprobes, hgrace, hpattern, hclean, -⟩ :=
    Rotor.stop_fields (r := s.rotor) (by rw [hmode]; decide) s.time
  obtain ⟨-, hring, -⟩ := Rotor.stop_keeps s.rotor s.time
  generalize (s.jammed.tripEvent .jam).conclude s = t at *
  have hposts : s.PostsExactly t _ := fun n q => (hnotes.posts n q).trans (or_congr_right (b := _)
    (c := n = .trip ∨ (n = .ended ∧ (s.claim i).owner = some q) ∨ s.HoldNotice (· == i) n q)
    (by rw [hhold, ← or_assoc, or_comm]))
  rw [hrotor]
  exact ⟨htripped, hheld, hclaim, fun q hq => hnotes.posted (.inl ⟨rfl, hq⟩), hpass, rfl, houtput, hphase, hprobes,
    hgrace, hpattern, hclean, hring, hnotes.ports, hposts, hbeyond, hrequests⟩

/-- Settles O48: both trips are trip events whole, the JAM's begun by the end of the GRINDER holder. -/
theorem rotorReportsTrip : Obligations.RotorReportsTrip := by
  intro s
  refine ⟨State.rotorSensorTrips, fun c i hfails h2 hi => ⟨_, exec_failsTheProbe hfails h2, ?_⟩⟩
  obtain ⟨hmode, -⟩ := hfails
  exact State.jamTrips hmode hi

end Sys2Proof.Machine
end

section
/-! RESET_RELEASE (R48, R57 to R59, R69, R77): with every entry FREE, the judging of the first samples moves the interlock
and trip unit, the notices, the open-limit flag and the outputs alone. -/

namespace Sys2Proof.Machine

/-! ## Events at a table of FREE entries -/

/-- A hold request finds nothing to hold among FREE entries (R15). -/
theorem State.holdAll_of_reset {s : State} (h : s.claims = Table.reset) : s.holdAll = s := by
  have hone : ∀ i, s.holdOne i = s := fun i => by
    unfold State.holdOne
    rw [claim_of_reset_table h i]
    exact if_neg (by decide)
  exact List.foldl_fixed' hone all16

/-- The unit as a cause with an active flag is raised (R56, R63, R64). -/
def Interlock.raised (u : Interlock) (c : Cause) : Interlock :=
  if u.active.has c then u else ({ u with active := u.active.insert c } : Interlock).tripped c

/-- The unit as a cause ceases to be active (R55). -/
def Interlock.deactivated (u : Interlock) (c : Cause) : Interlock := { u with active := u.active.erase c }

/-- From the first state to the second, the unit becomes the one given, and nothing else but the ports changes. -/
def State.UnitMoves (s t : State) (u : Interlock) : Prop := t = { s with interlock := u, ports := t.ports }

theorem State.UnitMoves.trans {s t r : State} {u v : Interlock} (h : s.UnitMoves t u) (k : t.UnitMoves r v) :
    s.UnitMoves r v := by
  unfold State.UnitMoves at h k ⊢
  rw [k, h]

theorem State.unitMoves_deactivate (s : State) (c : Cause) :
    s.UnitMoves (s.deactivate c) (s.interlock.deactivated c) := rfl

theorem State.unitMoves_raise {s : State} (h : s.claims = Table.reset) {c : Cause} (hc : c.momentary = false) :
    s.UnitMoves (s.raise c) (s.interlock.raised c) := by
  have hjam : c ≠ .jam := fun he => by rw [he] at hc; cases hc
  unfold State.raise State.isActive Interlock.raised
  rw [hc, if_neg (by simp)]
  split
  · rfl
  · rw [State.tripEvent_eq, State.tripStarts_of_not_jam hjam, State.holdAll_of_reset (by exact h)]
    rfl

/-- The unit after a thermistor report (R57, R59). -/
def Interlock.reported (u : Interlock) (valid hot cooled : Bool) : Interlock :=
  let u := if valid then u.deactivated .thermalSensor else u.raised .thermalSensor
  if !valid then u else if hot then u.raised .overheat else if cooled then u.deactivated .overheat else u

theorem State.UnitMoves.claims {s t : State} {u : Interlock} (h : s.UnitMoves t u) : t.claims = s.claims := by
  rw [h]

theorem State.unitMoves_judgeThermalSensor {s : State} (h : s.claims = Table.reset) :
    s.UnitMoves s.judgeThermalSensor
      (if s.sensors.bothValid then s.interlock.deactivated .thermalSensor else s.interlock.raised .thermalSensor) := by
  unfold State.judgeThermalSensor
  split
  · exact s.unitMoves_deactivate _
  · exact State.unitMoves_raise h rfl

theorem State.unitMoves_judgeOverheat {s : State} (h : s.claims = Table.reset) :
    s.UnitMoves s.judgeOverheat
      (if !s.sensors.bothValid then s.interlock
      else if s.tooHot then s.interlock.raised .overheat
      else if s.cooled then s.interlock.deactivated .overheat
      else s.interlock) := by
  unfold State.judgeOverheat
  split
  · rfl
  · split
    · exact State.unitMoves_raise h rfl
    · split
      · exact s.unitMoves_deactivate _
      · rfl

theorem State.unitMoves_judgeReport {s : State} (h : s.claims = Table.reset) :
    s.UnitMoves s.judgeReport (s.interlock.reported s.sensors.bothValid s.tooHot s.cooled) := by
  have hsensor := State.unitMoves_judgeThermalSensor h
  have hheat := State.unitMoves_judgeOverheat (hsensor.claims.trans h)
  refine hsensor.trans ?_
  unfold State.judgeReport
  rw [hsensor] at hheat ⊢
  exact hheat

/-- The outputs with no claim to drive them: the heater and the grinder off, the fan at the forced vent or at 0 % (R78,
R81, R89). -/
theorem State.settleOutputs_of_reset {s : State} (h : s.claims = Table.reset) (hh : s.arbiter.handover = none)
    (hl : s.interlock.latchCommand = .engage) (hr : s.rotor.mode = .idle) :
    s.settleOutputs = { s with
      drives := ⟨false, if s.interlock.haltLatch && !s.sensors.plateBelowOpen then 100 else 0⟩ } := by
  have hgranted : ∀ a, Table.granted s.claims a = none := fun a => Table.granted_eq_none.2 fun i => by
    rw [show s.claims.get i = .free 0 from claim_of_reset_table h i]
    rfl
  have hdriven : ∀ a, s.driven a = false := fun a => by
    unfold State.driven State.handsOver
    rw [hgranted, hh]
    rfl
  have hduty : s.fanDutyWanted = if s.interlock.haltLatch && !s.sensors.plateBelowOpen then 100 else 0 := by
    unfold State.fanDutyWanted State.fanHolderDuty
    rw [hgranted, hh, hl, if_neg (c := LatchCommand.engage = .release) (by decide)]
  have hlatch : s.followLatch = s := by
    unfold State.followLatch
    rw [hdriven, if_neg (by simp), if_pos hl]
  have hrotor : s.followRotor = s := by
    unfold State.followRotor
    rw [hdriven, Bool.false_and, if_neg (by simp), Rotor.stop_of_idle hr]
  unfold State.settleOutputs
  rw [hlatch, hrotor]
  unfold State.followHeater
  rw [hdriven, Bool.false_and, if_neg (by simp)]
  exact congrArg (fun d => { s with drives := ⟨false, d⟩ }) hduty

/-! ## The first samples (R48, R70, R77) -/

/-- The causes that the first samples raise: the cutout open, a conversion not valid, or a valid report above a limit (R57,
R58, R59). -/
def firstCauses (cut valid hot : Bool) : CauseSet :=
  let set : CauseSet := if cut then CauseSet.insert 0 .cutout else 0
  if !valid then set.insert .thermalSensor else if hot then set.insert .overheat else set

/-- The first of them, in the order in which the samples are judged (R64, R69). -/
def firstOfCauses (cut valid hot : Bool) : Option Cause :=
  if cut then some .cutout else if !valid then some .thermalSensor else if hot then some .overheat else none

/-- The unit with a set of causes, each active, and a first cause (R55, R63, R64). -/
def Interlock.withCauses (u : Interlock) (set : CauseSet) (first : Option Cause) : Interlock :=
  { u with active := set, causes := set, firstCause := first, haltLatch := first.isSome }

theorem Interlock.raised_withCauses (u : Interlock) {set : CauseSet} {c : Cause} (h : set.has c = false)
    (first : Option Cause) :
    (u.withCauses set first).raised c = u.withCauses (set.insert c) (some (first.getD c)) := by
  unfold Interlock.raised
  rw [if_neg (by simp [Interlock.withCauses, h])]
  cases first <;> rfl

theorem CauseSet.erase_of_not_has {set : CauseSet} {c : Cause} (h : set.has c = false) : set.erase c = set := by
  have hmask : ∀ set : BitVec 7, ∀ k : Fin 7, set.getLsbD k = false → set &&& ~~~(1#7 <<< k.val) = set := by decide +kernel
  have hbit : c.bit < 7 := by cases c <;> decide
  exact hmask set ⟨c.bit, hbit⟩ h

theorem Interlock.deactivated_withCauses (u : Interlock) {set : CauseSet} {c : Cause} (h : set.has c = false)
    (first : Option Cause) : (u.withCauses set first).deactivated c = u.withCauses set first := by
  unfold Interlock.deactivated Interlock.withCauses
  simp only [CauseSet.erase_of_not_has h]

/-- A unit without THERMAL_SENSOR and OVERHEAT, after a report (R57, R59). -/
theorem Interlock.reported_withCauses (u : Interlock) {set : CauseSet} (hs : set.has .thermalSensor = false)
    (ho : set.has .overheat = false) (first : Option Cause) (valid hot cooled : Bool) :
    (u.withCauses set first).reported valid hot cooled =
      if !valid then u.withCauses (set.insert .thermalSensor) (some (first.getD .thermalSensor))
      else if hot then u.withCauses (set.insert .overheat) (some (first.getD .overheat))
      else u.withCauses set first := by
  unfold Interlock.reported
  cases valid with
  | false => exact u.raised_withCauses hs first
  | true =>
    simp only [Bool.not_true, Bool.false_eq_true, if_false, if_true, u.deactivated_withCauses hs]
    cases hot with
    | true => exact u.raised_withCauses ho first
    | false => simp [u.deactivated_withCauses ho]

/-- A unit with no cause, after the first samples are judged (R69). -/
theorem Interlock.reported_first (u : Interlock) (cut valid hot cooled : Bool) :
    (if cut then (u.withCauses 0 none).raised .cutout else u.withCauses 0 none).reported valid hot cooled =
      u.withCauses (firstCauses cut valid hot) (firstOfCauses cut valid hot) := by
  unfold firstCauses firstOfCauses
  cases cut with
  | false =>
    simp only [Bool.false_eq_true, if_false]
    rw [u.reported_withCauses (by decide) (by decide)]
    cases valid <;> cases hot <;> rfl
  | true =>
    simp only [if_true]
    rw [u.raised_withCauses (by decide), u.reported_withCauses (by decide) (by decide)]
    cases valid <;> cases hot <;> rfl

theorem CauseSet.has_insert (set : CauseSet) (c d : Cause) : (set.insert c).has d = (set.has d || decide (c = d)) := by
  unfold CauseSet.insert CauseSet.has
  rw [BitVec.getLsbD_or]
  cases c <;> cases d <;> simp [Cause.mask, Cause.bit]

@[simp] theorem CauseSet.has_zero (c : Cause) : CauseSet.has 0#7 c = false := by
  simp [CauseSet.has]

theorem firstCauses_has (cut valid hot : Bool) (c : Cause) : (firstCauses cut valid hot).has c =
    (decide (.cutout = c) && cut || decide (.thermalSensor = c) && !valid || decide (.overheat = c) && (valid && hot)) := by
  unfold firstCauses
  cases cut <;> cases valid <;> cases hot <;> simp [CauseSet.has_insert]

/-- Both first conversions are valid. -/
def firstValid (f : FirstSamples) : Bool := (Sensors.first f).bothValid

/-- A first conversion is above its limit. -/
def firstHot (f : FirstSamples) : Bool := (State.first f []).tooHot

/-- The first plate conversion is valid and below the open limit. -/
def firstBelow (f : FirstSamples) : Bool := (State.first f []).plateBelowWanted

/-- The unit with its first samples, their disagreement judged (R48, R61). -/
def firstInputs (f : FirstSamples) : Interlock :=
  { Interlock.first f with disagreement := if f.lidClosed && !f.feedbackEngaged then some 0 else none }

/-- The interlock and trip unit after reset release (R48, R57 to R59, R61). -/
def firstUnit (f : FirstSamples) : Interlock :=
  (firstInputs f).withCauses (firstCauses (!f.cutoutClosed) (firstValid f) (firstHot f))
    (firstOfCauses (!f.cutoutClosed) (firstValid f) (firstHot f))

/-- The part after reset release, with its ports still to give. -/
def firstPart (f : FirstSamples) (pending : List Instr) (t : State) : State :=
  { State.first f pending with
    interlock := firstUnit f, ports := t.ports
    sensors := { Sensors.first f with plateBelowOpen := firstBelow f }
    drives := ⟨false, if (firstUnit f).haltLatch && !firstBelow f then 100 else 0⟩ }

theorem judgeDisagreement_first (f : FirstSamples) :
    (Interlock.first f).judgeDisagreement 0 = (firstInputs f).withCauses 0 none := by
  have hclear : CauseSet.erase (Interlock.first f).active .latchFault = 0 :=
    CauseSet.erase_of_not_has (CauseSet.has_zero _)
  unfold Interlock.judgeDisagreement
  rw [hclear, show (Interlock.first f).active = 0 from rfl, ite_self]
  rfl

/-- The first samples judged at the unit, before the outputs follow (R57 to R59, R61). -/
theorem unitMoves_first (f : FirstSamples) (pending : List Instr) :
    (State.first f pending).UnitMoves
      (if f.cutoutClosed then (State.first f pending).judgeDisagreement
        else (State.first f pending).judgeDisagreement.raise .cutout).judgeReport (firstUnit f) := by
  have hstart : (State.first f pending).UnitMoves (State.first f pending).judgeDisagreement
      ((firstInputs f).withCauses 0 none) := by
    rw [← judgeDisagreement_first]
    rfl
  have hcut : (State.first f pending).UnitMoves
      (if f.cutoutClosed then (State.first f pending).judgeDisagreement
        else (State.first f pending).judgeDisagreement.raise .cutout)
      (if !f.cutoutClosed then ((firstInputs f).withCauses 0 none).raised .cutout
        else (firstInputs f).withCauses 0 none) := by
    cases f.cutoutClosed with
    | true => exact hstart
    | false =>
      have hraise := State.unitMoves_raise (hstart.claims.trans rfl) (c := .cutout) rfl
      rw [show (State.first f pending).judgeDisagreement.interlock = (firstInputs f).withCauses 0 none from
        judgeDisagreement_first f] at hraise
      rw [if_neg Bool.false_ne_true, Bool.not_false, if_pos rfl]
      exact hstart.trans hraise
  have hreport := State.unitMoves_judgeReport (hcut.claims.trans rfl)
  generalize (if f.cutoutClosed then (State.first f pending).judgeDisagreement
    else (State.first f pending).judgeDisagreement.raise .cutout) = u at hcut hreport ⊢
  have hunit : u.interlock.reported u.sensors.bothValid u.tooHot u.cooled = firstUnit f := by
    rw [hcut]
    exact (firstInputs f).reported_first _ _ _ _
  rw [hunit] at hreport
  exact hcut.trans hreport

/-- RESET_RELEASE whole (R69, R77, R82). -/
theorem judgeFirst_eq (f : FirstSamples) (pending : List Instr) :
    (State.first f pending).judgeFirst = firstPart f pending (State.first f pending).judgeFirst := by
  have hmoves := unitMoves_first f pending
  unfold State.judgeFirst
  simp only
  rw [show (State.first f pending).judgeDisagreement.interlock.cutoutClosed = f.cutoutClosed from rfl]
  generalize (if f.cutoutClosed then (State.first f pending).judgeDisagreement
    else (State.first f pending).judgeDisagreement.raise .cutout).judgeReport = u at hmoves ⊢
  have hclaims : u.derivePlateBelow.claims = Table.reset := hmoves.claims.trans rfl
  rw [hmoves] at hclaims ⊢
  rw [State.settleOutputs_of_reset hclaims rfl rfl rfl]
  rfl

/-! ## The first conversions (R70, R73, R74, R77) -/

/-- What the humidity and load-cell conversions leave alone at reset release. -/
theorem sensors_first (f : FirstSamples) :
    (Sensors.first f).plate = thermistorConversion f.plate ∧ (Sensors.first f).air = thermistorConversion f.air ∧
    (Sensors.first f).clock = 0 ∧ (Sensors.first f).divider = 0 ∧ (Sensors.first f).samplesDue = 0 := by
  unfold Sensors.first
  cases f.humidity <;> cases f.load <;> exact ⟨rfl, rfl, rfl, rfl, rfl⟩

theorem humidity_first (f : FirstSamples) :
    (∀ rh, f.humidity = .result rh →
      (Sensors.first f).humidity = min rh 100 ∧ (Sensors.first f).humidityFault = decide (100 < rh)) ∧
    (f.humidity = .failed → (Sensors.first f).humidity = 0 ∧ (Sensors.first f).humidityFault = true) := by
  unfold Sensors.first
  refine ⟨fun rh h => ?_, fun h => ?_⟩
  all_goals rw [h]; cases f.load <;> exact ⟨rfl, rfl⟩

theorem load_first (f : FirstSamples) :
    (∀ g, f.load = .grams g → (Sensors.first f).mass = min g.toNat 20000 ∧
      (Sensors.first f).loadFault = decide (g < 0 ∨ 20000 < g)) ∧
    (f.load = .failed → (Sensors.first f).mass = 0 ∧ (Sensors.first f).loadFault = true) := by
  unfold Sensors.first
  refine ⟨fun g h => ?_, fun h => ?_⟩
  all_goals rw [h]; cases f.humidity <;> exact ⟨rfl, rfl⟩

theorem thermistorConversion_of_span {t : Int} (hlow : -40 ≤ t) (hhigh : t ≤ 300) :
    thermistorConversion t = ⟨t, !decide (ReadingValid t)⟩ := by
  unfold thermistorConversion
  rw [show min Config.spanHigh t = t from min_eq_right hhigh, show max Config.spanLow t = t from max_eq_right hlow]
  rfl

theorem thermistorConversion_faulted (t : Int) : (thermistorConversion t).faulted = !decide (ReadingValid t) := rfl

theorem thermistorConversion_value {t : Int} (h : ReadingValid t) : (thermistorConversion t).value = t := by
  obtain ⟨hlow, hhigh⟩ := h
  rw [thermistorConversion_of_span (by omega) (by omega)]

theorem firstValid_iff (f : FirstSamples) : firstValid f = true ↔ ReadingValid f.plate ∧ ReadingValid f.air := by
  obtain ⟨hplate, hair, -⟩ := sensors_first f
  unfold firstValid Sensors.bothValid
  rw [hplate, hair, thermistorConversion_faulted, thermistorConversion_faulted]
  simp

theorem firstHot_iff {f : FirstSamples} (hp : ReadingValid f.plate) (ha : ReadingValid f.air) :
    firstHot f = true ↔ 190 < f.plate ∨ 120 < f.air := by
  obtain ⟨hplate, hair, -⟩ := sensors_first f
  unfold firstHot State.tooHot
  rw [decide_eq_true_iff]
  show (190 : Int) < (Sensors.first f).plate.value ∨ (120 : Int) < (Sensors.first f).air.value ↔ _
  rw [hplate, hair, thermistorConversion_value hp, thermistorConversion_value ha]

theorem firstBelow_eq (f : FirstSamples) : firstBelow f = decide (ReadingValid f.plate ∧ f.plate < 70) := by
  obtain ⟨hplate, -⟩ := sensors_first f
  show (!(Sensors.first f).plate.faulted && decide ((Sensors.first f).plate.value < (70 : Int))) = _
  rw [hplate, thermistorConversion_faulted, Bool.not_not]
  by_cases h : ReadingValid f.plate
  · rw [thermistorConversion_value h, ← Bool.decide_and]
  · rw [decide_eq_false h, Bool.false_and, decide_eq_false fun hk => h hk.1]

/-! ## The unit after reset release (R55, R57 to R59, R61, R64) -/

theorem firstUnit_disagreement (f : FirstSamples) : (firstUnit f).disagreement =
    if f.lidClosed = true ∧ f.feedbackEngaged = false then some 0 else none := by
  show (if f.lidClosed && !f.feedbackEngaged then some 0 else none) = _
  simp

theorem firstUnit_causes (f : FirstSamples) :
    ((firstUnit f).causes.has .cutout = true ↔ f.cutoutClosed = false) ∧
    ((firstUnit f).causes.has .thermalSensor = true ↔ ¬(ReadingValid f.plate ∧ ReadingValid f.air)) ∧
    ((firstUnit f).causes.has .overheat = true ↔
      ReadingValid f.plate ∧ ReadingValid f.air ∧ (190 < f.plate ∨ 120 < f.air)) ∧
    (∀ c, c ≠ .cutout → c ≠ .thermalSensor → c ≠ .overheat → (firstUnit f).causes.has c = false) := by
  have hhas : ∀ c, (firstUnit f).causes.has c = _ :=
    firstCauses_has (!f.cutoutClosed) (firstValid f) (firstHot f)
  refine ⟨?_, ?_, ?_, fun c hcut hsensor hheat => ?_⟩
  · rw [hhas]
    simp
  · rw [hhas, ← firstValid_iff]
    simp
  · rw [hhas]
    constructor
    · intro h
      obtain ⟨hvalid, hhot⟩ : firstValid f = true ∧ firstHot f = true := by simpa using h
      obtain ⟨hp, ha⟩ := (firstValid_iff f).1 hvalid
      exact ⟨hp, ha, (firstHot_iff hp ha).1 hhot⟩
    · rintro ⟨hp, ha, hhot⟩
      simp [(firstValid_iff f).2 ⟨hp, ha⟩, (firstHot_iff hp ha).2 hhot]
  · rw [hhas]
    simp [hcut.symm, hsensor.symm, hheat.symm]

theorem firstUnit_firstCause (f : FirstSamples) : (firstUnit f).firstCause =
    if f.cutoutClosed = false then some .cutout
    else if ¬(ReadingValid f.plate ∧ ReadingValid f.air) then some .thermalSensor
    else if 190 < f.plate ∨ 120 < f.air then some .overheat else none := by
  show firstOfCauses (!f.cutoutClosed) (firstValid f) (firstHot f) = _
  unfold firstOfCauses
  by_cases hvalid : ReadingValid f.plate ∧ ReadingValid f.air
  · simp [(firstValid_iff f).2 hvalid, hvalid, firstHot_iff hvalid.1 hvalid.2]
  · simp [Bool.eq_false_iff.2 (mt (firstValid_iff f).1 hvalid), hvalid]

/-- Settles O6: with every entry FREE the first samples move the unit, the open-limit flag, the outputs and the ports, and
every other block has its reset values. -/
theorem resetReleaseSetsTheBlocks : Obligations.ResetReleaseSetsTheBlocks := by
  intro f s
  refine ⟨_, rfl, ?_⟩
  rw [judgeFirst_eq]
  generalize (State.first f s.pending).judgeFirst = t
  obtain ⟨hplate, hair, hclock, hdivider, hsamples⟩ := sensors_first f
  obtain ⟨hresult, hfailed⟩ := humidity_first f
  obtain ⟨hgrams, hnone⟩ := load_first f
  obtain ⟨hcut, hsensor, hheat, hother⟩ := firstUnit_causes f
  refine ⟨claim_of_reset_table rfl, rfl, rfl, rfl, rfl, rfl, rfl, rfl, firstUnit_disagreement f, hcut, hsensor, hheat,
    hother, rfl, firstUnit_firstCause f, rfl, fun h k => hplate.trans (thermistorConversion_of_span h k),
    fun h k => hair.trans (thermistorConversion_of_span h k), firstBelow_eq f, hresult, hfailed, hgrams, hnone, hclock,
    hdivider, hsamples, rfl, ?_, rfl, rfl, rfl, rfl, rfl, rfl, rfl, rfl, rfl, rfl, rfl, rfl, rfl, rfl, rfl, rfl, rfl,
    rfl, rfl, rfl, rfl, rfl, rfl, rfl, rfl, rfl, rfl, rfl, rfl, rfl, ?_, rfl, rfl, rfl, ?_, rfl, rfl⟩
  · exact if_congr (by simp [firstPart]) rfl rfl
  · exact (by decide : ∀ p, BatchUnit.reset.reservations.get p = .none)
  · exact (by decide : ∀ k : Fin 13, tuningDefaults.get k = (Config.tuningRows.get k).default)

end Sys2Proof.Machine
end

section
/-! Who is a candidate of a pass (R33 to R40): each test that the arbiter makes of a claim says what its rule says. -/

namespace Sys2Proof.Machine

/-! ## The tests of eligibility (R33 to R38) -/

/-- The curbs hold a DRIVE claim back (R33). -/
theorem Reckoning.curbed_iff (v : Reckoning) (c : Claim) : v.curbed c = true ↔ v.HeldBack c := by
  simp only [Reckoning.curbed, List.any_eq_true, mem_all16, true_and, Claim.curbInForce, Bool.and_eq_true,
    decide_eq_true_eq, and_assoc]

/-- The only holder of an actuator is the one that the arbiter finds (R26). -/
theorem Reckoning.holder_eq_some_iff {v : Reckoning} (hone : Table.OneHolder v.claims) (a : Target) (h : ClaimIdx) :
    Table.holder v.claims a = some h ↔ (v.claim h).holds a = true :=
  ⟨fun hh => (Table.holder_eq_some.1 hh).1, fun hh => Table.holder_eq_some.2 ⟨hh, fun k hk => le_of_eq (hone a h k hh hk)⟩⟩

/-- A DRIVE claim may take its actuator from the holder (R34). -/
theorem Reckoning.mayTake_iff {v : Reckoning} (hone : Table.OneHolder v.claims) {c : Claim} (hk : c.active.kind = .drive) :
    v.mayTake c = true ↔ v.HolderGivesWay c := by
  unfold Reckoning.mayTake Reckoning.HolderGivesWay
  simp only [← Reckoning.holder_eq_some_iff hone, hk]
  cases Table.holder v.claims c.active.target with
  | none => simp
  | some h => simp [and_left_comm, and_comm]

/-- A curb may displace the holder of its target (R38). -/
theorem Reckoning.mayDisplace_iff {v : Reckoning} (hone : Table.OneHolder v.claims) {c : Claim} (hk : c.active.kind = .curb) :
    v.mayDisplace c = true ↔ (c.active.target ≠ .none → v.HolderGivesWay c) := by
  unfold Reckoning.mayDisplace Reckoning.HolderGivesWay
  simp only [← Reckoning.holder_eq_some_iff hone, hk]
  cases c.active.target with
  | none => simp
  | heater | grinder | fan | latch =>
    cases Table.holder v.claims _ with
    | none => simp
    | some h => simp [and_left_comm, and_comm]

/-- The bars on HEATER and GRINDER claims are down (R35). -/
theorem Reckoning.chamberBars_eq_false (v : Reckoning) : v.chamberBars = false ↔
    v.halted = false ∧ v.secured = true ∧ ∀ k, (v.claim k).grantedOn .latch = false := by
  simp only [Reckoning.chamberBars, Reckoning.released, Bool.or_eq_false_iff, Bool.not_eq_false', Option.isSome_eq_false_iff,
    Option.isNone_iff_eq_none, Table.granted_eq_none, Reckoning.claim, and_assoc]

/-- A parked claim is one of level 15 (R33). -/
theorem level_lt_iff (l : Fin 16) : l.val < 15 ↔ l ≠ 15 := by
  rw [ne_eq, Fin.ext_iff]
  have := l.isLt
  show l.val < 15 ↔ ¬ l.val = 15
  omega

/-- No LATCH claim waits that is at least as urgent (R36). -/
theorem Reckoning.latchWaits_eq_false (v : Reckoning) (c : Claim) : v.latchWaits c = false ↔
    ∀ k, (v.claim k).AsksForTheLatch → c.active.level < (v.claim k).active.level := by
  simp only [Reckoning.latchWaits, List.any_eq_false, mem_all16, true_implies, Bool.and_eq_true, decide_eq_true_eq,
    level_lt_iff, not_and, not_le, Claim.AsksForTheLatch, and_imp]

/-- The bars on LATCH claims are down (R37). -/
theorem Reckoning.latchBars_eq_false (v : Reckoning) : v.latchBars = false ↔
    v.atRest = true ∧ v.plateBelow = true ∧ ∀ k, (v.claim k).grantedOn .grinder = false := by
  simp only [Reckoning.latchBars, Bool.or_eq_false_iff, Bool.not_eq_false', Option.isSome_eq_false_iff,
    Option.isNone_iff_eq_none, Table.granted_eq_none, Reckoning.claim, and_assoc]
  exact and_congr_right fun _ => and_comm

/-- The bars of the claim's actuator are down (R35, R36, R37). -/
theorem Reckoning.actuatorBars_eq_false (v : Reckoning) (c : Claim) : v.actuatorBars c = false ↔
    c.active.target ≠ .none ∧
    (c.active.target = .heater ∨ c.active.target = .grinder →
      v.halted = false ∧ v.secured = true ∧ ∀ k, (v.claim k).grantedOn .latch = false) ∧
    (c.active.target = .grinder → ∀ k, (v.claim k).AsksForTheLatch → c.active.level < (v.claim k).active.level) ∧
    (c.active.target = .latch →
      v.atRest = true ∧ v.plateBelow = true ∧ ∀ k, (v.claim k).grantedOn .grinder = false) := by
  rw [← Reckoning.chamberBars_eq_false, ← Reckoning.latchWaits_eq_false, ← Reckoning.latchBars_eq_false]
  unfold Reckoning.actuatorBars
  cases c.active.target <;> simp

/-- The arbiter finds a claim eligible exactly by the rules (R33 to R38). -/
theorem Reckoning.eligible_iff {v : Reckoning} (hone : Table.OneHolder v.claims) (i : ClaimIdx) :
    v.eligible i = true ↔ v.EligibleByTheRules i := by
  unfold Reckoning.eligible Reckoning.EligibleByTheRules
  simp only [Bool.and_eq_true, decide_eq_true_eq, level_lt_iff, and_assoc]
  refine and_congr_right fun _ => and_congr_right fun _ => ?_
  cases hk : (v.claim i).active.kind with
  | drive =>
    have hcurbed : v.curbed (v.claim i) = false ↔ ¬ v.HeldBack (v.claim i) := by
      rw [← Reckoning.curbed_iff, Bool.not_eq_true]
    simp only [Bool.and_eq_true, Bool.not_eq_true', hcurbed, Reckoning.mayTake_iff hone hk, true_implies, reduceCtorEq,
      false_implies, and_true, Reckoning.actuatorBars_eq_false]
    tauto
  | curb =>
    simp only [Reckoning.mayDisplace_iff hone hk, reduceCtorEq, false_implies, true_implies, true_and]

/-! ## Clearing yields (R39) -/

/-- The arbiter finds a claim entitled to a clearing yield exactly by the rule (R39). -/
theorem Reckoning.clears_iff {v : Reckoning} (hone : Table.OneHolder v.claims) (i h : ClaimIdx) :
    v.clears i = some h ↔ v.ClearsByTheRules i h := by
  have hgranted : Table.granted v.claims .grinder = some h ↔ (v.claim h).grantedOn .grinder = true :=
    ⟨fun hh => (Table.granted_eq_some.1 hh).1, fun hh => Table.granted_eq_some.2 ⟨hh, fun k hk =>
      le_of_eq (hone .grinder h k (Claim.holds_of_grantedOn hh) (Claim.holds_of_grantedOn hk))⟩⟩
  unfold Reckoning.clears Reckoning.ClearsByTheRules Claim.AsksForTheLatch
  rw [← hgranted, ← level_lt_iff]
  simp only
  split
  next hasks =>
    cases hg : Table.granted v.claims .grinder with
    | none => simp
    | some k =>
      simp only [Bool.and_eq_true, decide_eq_true_eq, Option.ite_none_right_eq_some, Option.some.injEq, hasks, true_and]
      constructor
      · rintro ⟨⟨⟨hb, hl⟩, hy⟩, rfl⟩
        exact ⟨rfl, hb, hl, hy⟩
      · rintro ⟨rfl, hb, hl, hy⟩
        exact ⟨⟨⟨hb, hl⟩, hy⟩, rfl⟩
  next hasks => exact iff_of_false (by simp) fun hc => hasks hc.1

/-! ## Candidates (R40) -/

/-- A candidate is a claim that may have a turn (R40). -/
theorem Reckoning.candidate_iff {v : Reckoning} (hone : Table.OneHolder v.claims) (i : ClaimIdx) :
    v.candidate i = true ↔ v.MayHaveATurn i := by
  simp only [Reckoning.candidate, Bool.and_eq_true, Bool.not_eq_true', List.contains_eq_mem, decide_eq_false_iff_not,
    Bool.or_eq_true, Reckoning.eligible_iff hone, Option.isSome_iff_exists, Reckoning.clears_iff hone]

theorem Reckoning.next_eq_some_iff {v : Reckoning} (hone : Table.OneHolder v.claims) (i : ClaimIdx) :
    v.next = some i ↔ v.MayHaveATurn i ∧ ∀ j, v.MayHaveATurn j → v.ComesFirst i j := by
  simp only [Reckoning.next_eq_some, Reckoning.candidate_iff hone]

theorem Reckoning.next_eq_none_iff {v : Reckoning} (hone : Table.OneHolder v.claims) :
    v.next = none ↔ ∀ i, ¬ v.MayHaveATurn i := by
  simp only [Reckoning.next_eq_none, ← Bool.not_eq_true, Reckoning.candidate_iff hone]

/-- Settles O15. -/
theorem candidatesAreThoseOfTheRules : Obligations.CandidatesAreThoseOfTheRules := fun _ hone =>
  ⟨Reckoning.eligible_iff hone, Reckoning.clears_iff hone, Reckoning.next_eq_some_iff hone,
    Reckoning.next_eq_none_iff hone⟩

end Sys2Proof.Machine
end

section
/-! What a pass keeps (R26, R27, R40): each turn of a candidate keeps the power law and one holder, and sixteen turns leave
no candidate. -/

namespace Sys2Proof.Machine

/-! ## The power law through a turn (R27, R42, R43) -/

/-- The demands of the holders with the reductions in force are within the budget (R27). -/
def Reckoning.WithinBudget (v : Reckoning) : Prop := Table.grantedSum v.claims + Table.reductions v.claims ≤ v.budget

/-- A claim with a turn to come that has no holder to clear is eligible (R39, R40). -/
theorem Reckoning.eligible_of_candidate {v : Reckoning} {i : ClaimIdx} (hc : v.candidate i = true)
    (hno : (v.noted i).clears i = none) : (v.noted i).eligible i = true := by
  have hno : v.clears i = none := hno
  simp only [Reckoning.candidate, hno, Option.isSome_none, Bool.or_false, Bool.and_eq_true] at hc
  exact hc.2

/-- An eligible claim, being PENDING, is none of the holders that yield for it. -/
theorem Reckoning.not_mem_of_admission {v : Reckoning} {i : ClaimIdx} {l : List ClaimIdx} (he : v.eligible i = true)
    (ha : v.admission i = some l) : i ∉ l := fun hm => by
  have hholds := Claim.holding_of_isHolder ((Reckoning.admission_eq_some ha).2.1 i hm)
  simp [Claim.holding, Reckoning.pending_of_eligible he] at hholds

/-- The yields for an admitted claim leave the claim itself as it is. -/
theorem Reckoning.claim_doYields_admitted {v : Reckoning} {i : ClaimIdx} {l : List ClaimIdx} (he : v.eligible i = true)
    (ha : v.admission i = some l) : (v.doYields i l).claim i = v.claim i := by
  rw [Reckoning.claim_doYields i l (Reckoning.admission_eq_some ha).1, if_neg (Reckoning.not_mem_of_admission he ha)]

/-- The demands and the reductions fit when the yields and the grant of an admitted claim count (R42, R43). -/
theorem Reckoning.WithinBudget.push {v : Reckoning} (hv : v.WithinBudget) {i : ClaimIdx} {l : List ClaimIdx}
    (he : v.eligible i = true) (ha : v.admission i = some l) : ((v.doYields i l).doGrant i).WithinBudget := by
  obtain ⟨hnodup, hholders, -, hfits⟩ := Reckoning.admission_eq_some ha
  obtain ⟨hgranted, hreduced⟩ := Reckoning.sums_doYields i l hnodup v hholders
  have hself := Reckoning.claim_doYields_admitted he ha
  obtain ⟨hset, hset'⟩ := Reckoning.sums_doGrant (v.doYields i l) i (by rw [hself]; exact Reckoning.pending_of_eligible he)
  rw [hself] at hset hset'
  have hbudget : ((v.doYields i l).doGrant i).budget = v.budget := by
    obtain ⟨⟨-, -, -, -, hb, -⟩, -⟩ := Reckoning.doYields_sameReading i l v
    exact hb
  unfold Reckoning.WithinBudget at hv ⊢
  rw [hset, hset', hbudget]
  cases hk : (v.claim i).active.kind with
  | drive =>
    simp only [Reckoning.fits, hk, decide_eq_true_eq] at hfits
    unfold Reckoning.effective at hfits
    simp only [reduceCtorEq, if_true, if_false]
    omega
  | curb =>
    simp only [Reckoning.fits, hk, decide_eq_true_eq] at hfits
    simp only [reduceCtorEq, if_true, if_false]
    omega

/-- The turn of a candidate keeps the power law (R27). -/
theorem Reckoning.WithinBudget.turn {v : Reckoning} (hv : v.WithinBudget) {i : ClaimIdx} (hc : v.candidate i = true) :
    (v.turn i).WithinBudget := by
  obtain ⟨h, hcl, heq⟩ | heq | ⟨l, hcl, ha, heq⟩ := v.turn_cases i <;> rw [heq]
  · obtain ⟨hsum, hred⟩ := Reckoning.sums_doYield (v.noted i) i h (Reckoning.isHolder_of_clears hcl)
    have hv' : Table.grantedSum (v.noted i).claims + Table.reductions (v.noted i).claims ≤ v.budget := hv
    show _ + _ ≤ v.budget
    omega
  · exact hv
  · exact Reckoning.WithinBudget.push (v := v.noted i) hv (Reckoning.eligible_of_candidate hc hcl) ha

/-! ## One holder through a turn (R26, R34, R44) -/

/-- After yields only the holders that have not yielded still hold. -/
theorem Reckoning.holds_of_doYields {v : Reckoning} {i : ClaimIdx} {l : List ClaimIdx} (hn : l.Nodup) {a : Target}
    {j : ClaimIdx} (hj : ((v.doYields i l).claim j).holds a = true) : j ∉ l ∧ (v.claim j).holds a = true := by
  rw [Reckoning.claim_doYields i l hn] at hj
  split at hj
  · rw [Claim.holds_eq_false (Claim.holding_afterYield _)] at hj
    cases hj
  next hm => exact ⟨hm, hj⟩

/-- Yields let no claim in, so they keep one holder for each actuator. -/
theorem Reckoning.oneHolder_doYields {v : Reckoning} (hone : Table.OneHolder v.claims) (i : ClaimIdx) {l : List ClaimIdx}
    (hn : l.Nodup) : Table.OneHolder (v.doYields i l).claims := fun a j k hj hk =>
  hone a j k (Reckoning.holds_of_doYields hn hj).2 (Reckoning.holds_of_doYields hn hk).2

/-- A grant keeps one holder for each actuator, if nothing else holds the claim's. -/
theorem Reckoning.oneHolder_doGrant {v : Reckoning} (hone : Table.OneHolder v.claims) {i : ClaimIdx}
    (hfree : (v.claim i).active.kind = .drive → ∀ j, (v.claim j).holds (v.claim i).active.target = false) :
    Table.OneHolder (v.doGrant i).claims := by
  have hget : ∀ j, (v.doGrant i).claims.get j = if i = j then { v.claim i with state := .granted } else v.claim j :=
    Reckoning.claim_doGrant v i
  have halone : ∀ a k, k ≠ i → ((v.doGrant i).claims.get i).holds a = true → ((v.doGrant i).claims.get k).holds a ≠ true := by
    intro a k hk hi
    rw [hget, if_pos rfl, Claim.holds_iff] at hi
    obtain ⟨-, hkind, rfl⟩ := hi
    rw [hget, if_neg (Ne.symm hk), hfree hkind k]
    exact Bool.false_ne_true
  intro a j k hj hk
  by_cases hji : j = i
  · subst hji
    exact (not_imp_not.1 fun hkj => halone a k (Ne.symm hkj) hj) hk
  · by_cases hki : k = i
    · subst hki
      exact absurd hj (halone a j hji hk)
    · rw [hget, if_neg (Ne.symm hji)] at hj
      rw [hget, if_neg (Ne.symm hki)] at hk
      exact hone a j k hj hk

/-- The yields and the grant of an admitted claim keep one holder for each actuator (R34, R44). -/
theorem Reckoning.oneHolder_push {v : Reckoning} (hone : Table.OneHolder v.claims) {i : ClaimIdx} {l : List ClaimIdx}
    (he : v.eligible i = true) (ha : v.admission i = some l) : Table.OneHolder ((v.doYields i l).doGrant i).claims := by
  obtain ⟨hnodup, -, hdisplaced, -⟩ := Reckoning.admission_eq_some ha
  refine Reckoning.oneHolder_doGrant (Reckoning.oneHolder_doYields hone i hnodup) fun hk j => ?_
  rw [Reckoning.claim_doYields_admitted he ha] at hk ⊢
  refine Bool.eq_false_iff.2 fun hj => ?_
  obtain ⟨hout, hholds⟩ := Reckoning.holds_of_doYields hnodup hj
  exact hout (hdisplaced j (Reckoning.displaced_of_eligible hone he hk hholds))

/-- The turn of a candidate keeps one holder for each actuator (R26). -/
theorem Reckoning.oneHolder_turn {v : Reckoning} (hone : Table.OneHolder v.claims) {i : ClaimIdx}
    (hc : v.candidate i = true) : Table.OneHolder (v.turn i).claims := by
  obtain ⟨h, hcl, heq⟩ | heq | ⟨l, hcl, ha, heq⟩ := v.turn_cases i <;> rw [heq]
  · exact Reckoning.oneHolder_doYields (v := v.noted i) hone i (List.nodup_singleton h)
  · exact hone
  · exact Reckoning.oneHolder_push (v := v.noted i) hone (Reckoning.eligible_of_candidate hc hcl) ha

/-! ## The turns of a pass (R30, R40) -/

/-- A candidate has had no turn (R40). -/
theorem Reckoning.not_mem_turned {v : Reckoning} {i : ClaimIdx} (hc : v.candidate i = true) : i ∉ v.turned := fun hm => by
  rw [Reckoning.candidate_of_turned v i hm] at hc
  cases hc

/-- What the turn of every candidate keeps, the turns of a pass keep. -/
theorem Reckoning.turns_keep {P : Reckoning → Prop} (hturn : ∀ v i, v.candidate i = true → P v → P (v.turn i)) (n : Nat) :
    ∀ {v : Reckoning}, P v → P (Reckoning.turns n v) := by
  induction n with
  | zero => exact fun hv => hv
  | succ n ih =>
    intro v hv
    unfold Reckoning.turns
    split
    next i hi => exact ih (hturn v i ((Reckoning.next_eq_some v i).1 hi).1 hv)
    next => exact hv

theorem State.pass_keeps {P : Reckoning → Prop} (hturn : ∀ v i, v.candidate i = true → P v → P (v.turn i)) {s : State}
    (hs : P s.reckoning) : P s.pass := Reckoning.turns_keep hturn 16 hs

theorem State.pass_sameReading (s : State) : s.reckoning.SameReading s.pass :=
  State.pass_keeps (fun v i _ hv => hv.trans (v.turn_sameReading i).1) ⟨rfl, rfl, rfl, rfl, rfl, rfl⟩

/-- A pass with as many turns as there are claims without one ends with no candidate (R40). -/
theorem Reckoning.turns_end (n : Nat) : ∀ {v : Reckoning}, v.turned.Nodup → 16 ≤ v.turned.length + n →
    ∀ i, (Reckoning.turns n v).candidate i = false := by
  induction n with
  | zero =>
    intro v hn hlen i
    have hall : ∀ j, j ∈ v.turned := fun j => by
      have hfin : v.turned.toFinset = Finset.univ :=
        Finset.eq_univ_of_card _ (le_antisymm (Finset.card_le_univ _) (by
          rw [List.toFinset_card_of_nodup hn, Fintype.card_fin]; omega))
      exact List.mem_toFinset.1 (hfin ▸ Finset.mem_univ j)
    exact Reckoning.candidate_of_turned v i (hall i)
  | succ n ih =>
    intro v hn hlen
    unfold Reckoning.turns
    split
    next i hi =>
      have hc := ((Reckoning.next_eq_some v i).1 hi).1
      have hturned := (v.turn_sameReading i).2
      refine ih (by rw [hturned]; exact List.nodup_cons.2 ⟨Reckoning.not_mem_turned hc, hn⟩) ?_
      rw [hturned, List.length_cons]
      omega
    next hnone => exact (Reckoning.next_eq_none v).1 hnone

/-- Every claim has at most one turn in a pass (R40). -/
theorem State.pass_turned_nodup (s : State) : s.pass.turned.Nodup := by
  refine State.pass_keeps (P := fun v => v.turned.Nodup) (fun v i hc hn => ?_) List.nodup_nil
  rw [(v.turn_sameReading i).2]
  exact List.nodup_cons.2 ⟨Reckoning.not_mem_turned hc, hn⟩

/-- A pass ends with no candidate (R40). -/
theorem State.pass_candidate (s : State) : ∀ i, s.pass.candidate i = false :=
  Reckoning.turns_end 16 List.nodup_nil (Nat.le_refl 16)

theorem State.pass_oneHolder {s : State} (hone : Table.OneHolder s.claims) : Table.OneHolder s.pass.claims :=
  State.pass_keeps (P := fun v => Table.OneHolder v.claims) (fun _ _ hc h => Reckoning.oneHolder_turn h hc) hone

/-- Settles O14. -/
theorem passKeepsItsLawsAndEnds : Obligations.PassKeepsItsLawsAndEnds := by
  intro s
  refine ⟨fun hs => ?_, State.pass_oneHolder, s.pass_turned_nodup, s.pass_candidate⟩
  have hpass : s.pass.WithinBudget := State.pass_keeps (fun _ _ hc h => h.turn hc) hs
  obtain ⟨-, -, -, -, hbudget, -⟩ := s.pass_sameReading
  unfold Reckoning.WithinBudget at hpass
  rwa [hbudget] at hpass

end Sys2Proof.Machine
end

section
/-! The turn of a candidate (R39 to R44): the lists of admission are those of the rules, and the yields and the grant of a
turn count in the reckoning and change nothing else of it. -/

namespace Sys2Proof.Machine

/-! ## The holder of the target and the yield list (R41 to R43) -/

/-- The holders that may yield for a claim beside that of its target (R41). -/
def Reckoning.waiting (v : Reckoning) (i : ClaimIdx) : List ClaimIdx :=
  if (v.claim i).active.level.val < v.yieldLevel then
    v.yieldList (v.claim i).active.level (v.displaced (v.claim i)) else []

/-- A claim is admitted with the shortest front part of its yield list with which it fits (R41 to R43). -/
theorem Reckoning.admission_eq_some_iff (v : Reckoning) (i : ClaimIdx) (l : List ClaimIdx) :
    v.admission i = some l ↔ ∃ k, k ≤ (v.waiting i).length ∧ l = v.displaced (v.claim i) ++ (v.waiting i).take k ∧
      v.fits (v.claim i) (v.freedBy (v.displaced (v.claim i) ++ (v.waiting i).take k)) = true ∧
      ∀ j, j < k → v.fits (v.claim i) (v.freedBy (v.displaced (v.claim i) ++ (v.waiting i).take j)) = false := by
  have hfreed : ∀ k, v.freedBy (v.displaced (v.claim i) ++ (v.waiting i).take k) =
      v.freedBy (v.displaced (v.claim i)) + v.freedBy ((v.waiting i).take k) := fun k => by simp [Reckoning.freedBy]
  have hadm : v.admission i = (v.walk (v.fits (v.claim i)) (v.freedBy (v.displaced (v.claim i))) (v.waiting i)).map
      (v.displaced (v.claim i) ++ ·) := rfl
  simp only [hadm, Option.map_eq_some_iff, Reckoning.walk_eq_some, hfreed]
  constructor
  · rintro ⟨_, ⟨k, hk, rfl, hfit, hmin⟩, rfl⟩
    exact ⟨k, hk, rfl, hfit, hmin⟩
  · rintro ⟨k, hk, rfl, hfit, hmin⟩
    exact ⟨_, ⟨k, hk, rfl, hfit, hmin⟩, rfl⟩

/-- A claim is not admitted when it fits with no front part of its yield list (R41, R42). -/
theorem Reckoning.admission_eq_none_iff (v : Reckoning) (i : ClaimIdx) :
    v.admission i = none ↔ ∀ k, k ≤ (v.waiting i).length →
      v.fits (v.claim i) (v.freedBy (v.displaced (v.claim i) ++ (v.waiting i).take k)) = false := by
  have hadm : v.admission i = (v.walk (v.fits (v.claim i)) (v.freedBy (v.displaced (v.claim i))) (v.waiting i)).map
      (v.displaced (v.claim i) ++ ·) := rfl
  simp only [hadm, Option.map_eq_none_iff, Reckoning.walk_eq_none]
  simp [Reckoning.freedBy]

/-- A turn noted does not bear on admission. -/
theorem Reckoning.admission_noted (v : Reckoning) (i j : ClaimIdx) : (v.noted i).admission j = v.admission j :=
  Option.ext fun l => ((v.noted i).admission_eq_some_iff j l).trans (v.admission_eq_some_iff j l).symm

/-- The holder that a claim displaces is that of its target (R26, R42, R43). -/
theorem Reckoning.mem_displaced_iff {v : Reckoning} (hone : Table.OneHolder v.claims) (c : Claim) (h : ClaimIdx) :
    h ∈ v.displaced c ↔ c.active.target ≠ .none ∧ (v.claim h).holds c.active.target = true := by
  unfold Reckoning.displaced
  cases c.active.target with
  | none => simp
  | heater | grinder | fan | latch => simp [Option.mem_toList, Reckoning.holder_eq_some_iff hone]

theorem Reckoning.HolderOfItsTarget.nodup {v : Reckoning} {i : ClaimIdx} {gone : List ClaimIdx}
    (hg : v.HolderOfItsTarget i gone) : gone.Nodup := by
  obtain ⟨hlen, -⟩ := hg
  match gone with
  | [] => exact List.nodup_nil
  | [a] => exact List.nodup_singleton a
  | _ :: _ :: _ => simp at hlen

theorem Reckoning.HolderOfItsTarget.eq_displaced {v : Reckoning} (hone : Table.OneHolder v.claims) {i : ClaimIdx}
    {gone : List ClaimIdx} (hg : v.HolderOfItsTarget i gone) : gone = v.displaced (v.claim i) := by
  have hperm : (v.displaced (v.claim i)).Perm gone :=
    (List.perm_ext_iff_of_nodup (v.nodup_displaced _) hg.nodup).2 fun h =>
      (Reckoning.mem_displaced_iff hone _ h).trans (hg.2 h).symm
  match gone, hg.1 with
  | [], _ => exact (List.perm_nil.1 hperm).symm
  | [_], _ => exact (List.perm_singleton.1 hperm).symm

/-- A list in the order of R41 has no entry twice. -/
theorem Reckoning.nodup_of_order {v : Reckoning} {list : List ClaimIdx}
    (h : list.Pairwise fun a b => (v.claim b).active.level < (v.claim a).active.level ∨
      ((v.claim b).active.level = (v.claim a).active.level ∧ b < a)) : list.Nodup :=
  h.imp fun hab heq => by
    subst heq
    rcases hab with hab | ⟨-, hab⟩ <;> exact lt_irrefl _ hab

/-- The rules give one yield list (R41). -/
theorem Reckoning.IsYieldList.eq_waiting {v : Reckoning} {i : ClaimIdx} {list : List ClaimIdx}
    (hl : v.IsYieldList i (v.displaced (v.claim i)) list) : list = v.waiting i := by
  obtain ⟨hbelow, hbeyond⟩ := hl
  unfold Reckoning.waiting
  split
  next hlevel =>
    obtain ⟨horder, hmem⟩ := hbelow hlevel
    have horder' := v.pairwise_yieldList (v.claim i).active.level (v.displaced (v.claim i))
    have hperm : list.Perm (v.yieldList (v.claim i).active.level (v.displaced (v.claim i))) :=
      (List.perm_ext_iff_of_nodup (Reckoning.nodup_of_order horder) (Reckoning.nodup_of_order horder')).2 fun h =>
        (hmem h).trans (v.mem_yieldList _ _ h).symm
    refine hperm.eq_of_pairwise (fun a b _ _ hab hba => ?_) horder horder'
    rcases hab with hab | ⟨hab, hlt⟩ <;> rcases hba with hba | ⟨hba, hlt'⟩
    · exact absurd hab (lt_asymm hba)
    · exact absurd hba (ne_of_gt hab)
    · exact absurd hab (ne_of_gt hba)
    · exact absurd hlt (lt_asymm hlt')
  next hlevel => exact hbeyond (not_lt.1 hlevel)

/-- The holders counted as freed for a claim are different holders (R41 to R43). -/
theorem Reckoning.freed_holders {v : Reckoning} {i : ClaimIdx} {gone list : List ClaimIdx}
    (hg : v.HolderOfItsTarget i gone) (hl : v.IsYieldList i gone list) (k : Nat) :
    (gone ++ list.take k).Nodup ∧ ∀ h ∈ gone ++ list.take k, (v.claim h).isHolder = true := by
  have hlist : list.Nodup ∧ ∀ h ∈ list, (v.claim h).isHolder = true ∧ h ∉ gone := by
    by_cases hlevel : (v.claim i).active.level.val < v.yieldLevel
    · obtain ⟨horder, hmem⟩ := hl.1 hlevel
      refine ⟨Reckoning.nodup_of_order horder, fun h hh => ?_⟩
      obtain ⟨hholder, -, -, hout⟩ := (hmem h).1 hh
      exact ⟨hholder, hout⟩
    · rw [hl.2 (not_lt.1 hlevel)]
      exact ⟨List.nodup_nil, fun h hh => absurd hh List.not_mem_nil⟩
  obtain ⟨hnodup, hmem⟩ := hlist
  refine ⟨List.nodup_append.2 ⟨hg.nodup, hnodup.sublist (List.take_sublist _ _), ?_⟩, fun h hh => ?_⟩
  · rintro a ha b hb rfl
    exact (hmem a (List.mem_of_mem_take hb)).2 ha
  · rcases List.mem_append.1 hh with hh | hh
    · exact Claim.isHolder_of_holds ((hg.2 h).1 hh).2
    · exact (hmem h (List.mem_of_mem_take hh)).1

/-- The admission test of the arbiter is that of the rules, with different holders counted as freed (R42, R43). -/
theorem Reckoning.fits_iff_passes {v : Reckoning} {i : ClaimIdx} {l : List ClaimIdx} (hn : l.Nodup)
    (hl : ∀ h ∈ l, (v.claim h).isHolder = true) : v.fits (v.claim i) (v.freedBy l) = true ↔ v.Passes i l := by
  obtain ⟨hsum, -⟩ := Reckoning.sums_doYields i l hn v hl
  unfold Reckoning.fits Reckoning.Passes
  rw [show v.demands l = v.freedBy l from rfl]
  cases (v.claim i).active.kind with
  | drive =>
    simp only [decide_eq_true_eq, true_implies, reduceCtorEq, false_implies, and_true]
    unfold Reckoning.effective
    omega
  | curb =>
    simp only [decide_eq_true_eq, true_implies, reduceCtorEq, false_implies, true_and]
    omega

/-! ## What a turn issues (R30, R39, R44) -/

/-- A reckoning that differs from another in its claims, its turns and its requests alone. -/
theorem Reckoning.SameReading.eq {v w : Reckoning} (h : v.SameReading w) {turned : List ClaimIdx}
    (ht : w.turned = turned) : w = { v with claims := w.claims, turned := turned, issued := w.issued } := by
  obtain ⟨hsecured, hhalted, hrest, hbelow, hbudget, hyield⟩ := h
  cases w
  simp_all

/-- The yields of different holders, none of them the claim's own entry, are issued one after the other. -/
theorem Reckoning.issued_doYields (i : ClaimIdx) (l : List ClaimIdx) (hn : l.Nodup) : ∀ v : Reckoning, i ∉ l →
    (v.doYields i l).issued = v.issued ++ l.map fun h => .yield h (decide ((v.claim i).active.kind = .drive ∧
      (v.claim h).active.target = (v.claim i).active.target)) := by
  induction l with
  | nil => intro v _; exact (List.append_nil _).symm
  | cons h rest ih =>
    intro v hi
    obtain ⟨hh, hrest⟩ := List.nodup_cons.1 hn
    obtain ⟨hih, hir⟩ := not_or.1 (fun hm => hi (List.mem_cons.2 hm))
    have hstands : ∀ k, k ≠ h → (v.doYield i h).claim k = v.claim k := fun k hk => by
      rw [Reckoning.claim_doYield, if_neg (Ne.symm hk)]
    show ((v.doYield i h).doYields i rest).issued = _
    rw [ih hrest _ hir, hstands i hih, List.map_congr_left fun k hk => by rw [hstands k (ne_of_mem_of_not_mem hk hh)]]
    simp [Reckoning.doYield, Bool.decide_and]

/-- Yields for a claim, as its turn, and no grant (R39). -/
theorem Reckoning.turnIssues_yields (v : Reckoning) {i : ClaimIdx} {l : List ClaimIdx} (hn : l.Nodup) (hi : i ∉ l) :
    v.TurnIssues ((v.noted i).doYields i l) i l false := by
  obtain ⟨hsame, hturned⟩ := Reckoning.doYields_sameReading i l (v.noted i)
  have hclaim : ∀ j, ((v.noted i).doYields i l).claim j = if j ∈ l then (v.claim j).afterYield else v.claim j :=
    Reckoning.claim_doYields i l hn (v.noted i)
  refine ⟨?_, (hclaim i).trans (if_neg hi), fun h hh => (hclaim h).trans (if_pos hh),
    fun j _ hj => (hclaim j).trans (if_neg hj), Reckoning.SameReading.eq (v := v) hsame hturned⟩
  rw [Reckoning.issued_doYields i l hn (v.noted i) hi, if_neg Bool.false_ne_true, List.append_nil]
  rfl

/-- A turn that issues yields, and after them a grant (R44). -/
theorem Reckoning.TurnIssues.grant {v w : Reckoning} {i : ClaimIdx} {l : List ClaimIdx} (h : v.TurnIssues w i l false)
    (hi : i ∉ l) : v.TurnIssues (w.doGrant i) i l true := by
  obtain ⟨hissued, hself, hout, hother, hframe⟩ := h
  rw [if_neg Bool.false_ne_true] at hissued hself
  have hclaim := Reckoning.claim_doGrant w i
  refine ⟨?_, ?_, fun k hk => ?_, fun j hji hj => ?_, ?_⟩
  · show w.issued ++ [.grant i (w.claim i).arming] = _
    rw [hissued, hself, List.append_nil, if_pos rfl]
  · rw [hclaim, if_pos rfl, if_pos rfl, hself]
  · rw [hclaim, if_neg (ne_of_mem_of_not_mem hk hi).symm, hout k hk]
  · rw [hclaim, if_neg (Ne.symm hji), hother j hji hj]
  · unfold Reckoning.doGrant
    rw [hframe]

/-- The turn of a claim entitled to a clearing yield (R39). -/
theorem Reckoning.turn_of_clears {v : Reckoning} {i h : ClaimIdx} (hc : v.clears i = some h) :
    v.turn i = (v.noted i).doYields i [h] := by
  have hc : (v.noted i).clears i = some h := hc
  unfold Reckoning.noted at hc
  unfold Reckoning.turn
  simp only [hc]
  rfl

/-- The turn of an admitted claim (R44). -/
theorem Reckoning.turn_of_admission {v : Reckoning} {i : ClaimIdx} {l : List ClaimIdx} (hc : v.clears i = none)
    (ha : v.admission i = some l) : v.turn i = ((v.noted i).doYields i l).doGrant i := by
  have hc : (v.noted i).clears i = none := hc
  have ha : (v.noted i).admission i = some l := (v.admission_noted i i).trans ha
  unfold Reckoning.noted at hc ha
  unfold Reckoning.turn
  simp only [hc, ha]
  rfl

/-- The turn of a claim that is not admitted (R41, R42). -/
theorem Reckoning.turn_of_not_admitted {v : Reckoning} {i : ClaimIdx} (hc : v.clears i = none)
    (ha : v.admission i = none) : v.turn i = (v.noted i).doYields i [] := by
  have hc : (v.noted i).clears i = none := hc
  have ha : (v.noted i).admission i = none := (v.admission_noted i i).trans ha
  unfold Reckoning.noted at hc ha
  unfold Reckoning.turn
  simp only [hc, ha]
  rfl

/-- The turn of a claim that clears the GRINDER holder (R39). -/
theorem Reckoning.turnIssues_of_clears {v : Reckoning} (hone : Table.OneHolder v.claims) {i h : ClaimIdx}
    (hc : v.ClearsByTheRules i h) : v.TurnIssues (v.turn i) i [h] false := by
  rw [Reckoning.turn_of_clears ((Reckoning.clears_iff hone i h).2 hc)]
  obtain ⟨⟨hpending, -⟩, hgranted, -⟩ := hc
  refine v.turnIssues_yields (List.nodup_singleton h) fun hi => ?_
  rw [List.mem_singleton.1 hi, ((Claim.grantedOn_iff _ _).1 hgranted).1] at hpending
  cases hpending

/-- Settles O16. -/
theorem turnsAdmitWhatFits : Obligations.TurnsAdmitWhatFits := by
  intro v i hone hmay
  refine ⟨fun h => Reckoning.turnIssues_of_clears hone, fun hno gone list hg hl => ?_⟩
  have hclears : v.clears i = none :=
    Option.eq_none_iff_forall_ne_some.2 fun h hh => hno h ((Reckoning.clears_iff hone i h).1 hh)
  have helig : v.eligible i = true :=
    (Reckoning.eligible_iff hone i).2 (hmay.2.resolve_right fun ⟨h, hh⟩ => hno h hh)
  have hpasses : ∀ k, v.fits (v.claim i) (v.freedBy (gone ++ list.take k)) = true ↔ v.Passes i (gone ++ list.take k) :=
    fun k => Reckoning.fits_iff_passes (Reckoning.freed_holders hg hl k).1 (Reckoning.freed_holders hg hl k).2
  obtain rfl := hg.eq_displaced hone
  obtain rfl := hl.eq_waiting
  refine ⟨fun k hk hfit hmin => ?_, fun hnone => ?_⟩
  · have ha : v.admission i = some (v.displaced (v.claim i) ++ (v.waiting i).take k) :=
      (v.admission_eq_some_iff i _).2 ⟨k, hk, rfl, (hpasses k).2 hfit, fun j hj =>
        Bool.eq_false_iff.2 fun hf => hmin j hj ((hpasses j).1 hf)⟩
    have hi := Reckoning.not_mem_of_admission helig ha
    rw [Reckoning.turn_of_admission hclears ha]
    exact (v.turnIssues_yields (Reckoning.admission_eq_some ha).1 hi).grant hi
  · have ha : v.admission i = none := (v.admission_eq_none_iff i).2 fun k hk =>
      Bool.eq_false_iff.2 fun hf => hnone k hk ((hpasses k).1 hf)
    rw [Reckoning.turn_of_not_admitted hclears ha]
    exact v.turnIssues_yields List.nodup_nil List.not_mem_nil

end Sys2Proof.Machine
end

section
/-! The requests of a pass (R30 to R45): each is one that the rules allow after those issued before it, and a pass is made
of the turns of the claims that come first. -/

namespace Sys2Proof.Machine

/-! ## Which requests the rules allow (R31, R33, R34, R38 to R41, R45) -/

/-- A pass on this state may issue the request after those already issued: the yield of a BULK claim that holds or has been
granted in the pass, while the yield level is not 0; the grant of a claim below level 15, in its arming, that was PENDING or
is a holder which has yielded in the pass. -/
def State.Allows (s : State) (before : List Request) : Request → Prop
  | .yield h _ =>
    (s.claim h).active.bulk = true ∧ 0 < s.tuning.get 1 ∧ ((s.claim h).isHolder = true ∨ ∃ n, .grant h n ∈ before)
  | .grant i n =>
    n = (s.claim i).arming ∧ (s.claim i).active.level ≠ 15 ∧
      ((s.claim i).state = .pending ∨ ((s.claim i).isHolder = true ∧ ∃ d, .yield i d ∈ before))

/-- Every request of the list is allowed after those before it. -/
def State.AllowsAll (s : State) (l : List Request) : Prop := ∀ a r b, l = a ++ r :: b → s.Allows a r

theorem State.allowsAll_nil (s : State) : s.AllowsAll [] := fun a r b h => by simp at h

theorem State.AllowsAll.append {s : State} {l : List Request} {r : Request} (hl : s.AllowsAll l) (hr : s.Allows l r) :
    s.AllowsAll (l ++ [r]) := by
  intro a q b h
  rcases List.eq_nil_or_concat b with rfl | ⟨b, x, rfl⟩
  · obtain ⟨rfl, rfl⟩ := List.append_singleton_inj.1 h
    exact hr
  · rw [List.concat_eq_append, ← List.cons_append, ← List.append_assoc, List.append_singleton_inj] at h
    exact hl a q b h.1

/-! ## The reckoning against the state (R30, R44) -/

/-- What a reckoning keeps of the state on which its pass began: a claim in force in it has the active copy and the arming
of the state's; one that is PENDING in it was PENDING, or a holder that has yielded in the pass; one that holds in it was a
holder, or PENDING and has been granted in the pass; and the requests issued are allowed. -/
structure Reckoning.Follows (s : State) (v : Reckoning) : Prop where
  reading : s.reckoning.SameReading v
  stands : ∀ j, (v.claim j).inForce = true →
    (v.claim j).active = (s.claim j).active ∧ (v.claim j).arming = (s.claim j).arming
  pending : ∀ j, (v.claim j).state = .pending →
    (s.claim j).state = .pending ∨ ((s.claim j).isHolder = true ∧ ∃ d, .yield j d ∈ v.issued)
  holder : ∀ j, (v.claim j).isHolder = true →
    (s.claim j).isHolder = true ∨ ((s.claim j).state = .pending ∧ ∃ n, .grant j n ∈ v.issued)
  allowed : s.AllowsAll v.issued

theorem Reckoning.follows_begin (s : State) : s.reckoning.Follows s where
  reading := ⟨rfl, rfl, rfl, rfl, rfl, rfl⟩
  stands _ _ := ⟨rfl, rfl⟩
  pending _ h := .inl h
  holder _ h := .inl h
  allowed := s.allowsAll_nil

theorem Claim.inForce_of_pending {c : Claim} (h : c.state = .pending) : c.inForce = true := by simp [Claim.inForce, h]

/-- What stands of a claim that is in force after a yield (R14). -/
theorem Claim.of_inForce_afterYield {c : Claim} (h : c.afterYield.inForce = true) :
    c.afterYield.active = c.active ∧ c.afterYield.arming = c.arming := by
  cases hs : c.active.singleTry with
  | true =>
    rw [Claim.afterYield_of_singleTry hs] at h
    unfold Claim.afterEnd at h
    split at h <;> simp [Claim.inForce, Claim.free] at h
  | false =>
    rw [Claim.afterYield_of_not_singleTry hs]
    exact ⟨rfl, rfl⟩

/-- The yield of a BULK holder is a request that the rules allow, while the yield level is not 0 (R34, R38 to R41, R45). -/
theorem Reckoning.Follows.doYield {s : State} {v : Reckoning} (hv : v.Follows s) (i : ClaimIdx) {h : ClaimIdx}
    (hh : (v.claim h).isHolder = true) (hb : (v.claim h).active.bulk = true) (hy : 0 < v.yieldLevel) :
    (v.doYield i h).Follows s := by
  have hclaim := Reckoning.claim_doYield v i h
  have hmore : ∀ r ∈ v.issued, r ∈ (v.doYield i h).issued := fun r hr => List.mem_append_left _ hr
  obtain ⟨hactive, -⟩ := hv.stands h (Claim.inForce_of_isHolder hh)
  constructor
  case reading => exact hv.reading.trans ⟨rfl, rfl, rfl, rfl, rfl, rfl⟩
  case stands =>
    intro j hj
    rw [hclaim] at hj ⊢
    split at hj
    next he =>
      rw [if_pos he]
      obtain ⟨ha, hn⟩ := Claim.of_inForce_afterYield hj
      rw [ha, hn, ← he]
      exact hv.stands h (Claim.inForce_of_isHolder hh)
    next he => rw [if_neg he]; exact hv.stands j hj
  case pending =>
    intro j hj
    rw [hclaim] at hj
    split at hj
    next he =>
      subst he
      exact (hv.holder h hh).elim (fun hs => .inr ⟨hs, _, List.mem_append_right _ (List.mem_singleton_self _)⟩)
        fun hs => .inl hs.1
    next he => exact (hv.pending j hj).imp_right fun ⟨hs, d, hd⟩ => ⟨hs, d, hmore _ hd⟩
  case holder =>
    intro j hj
    rw [hclaim] at hj
    split at hj
    next he => rw [Claim.isHolder_afterYield] at hj; cases hj
    next he => exact (hv.holder j hj).imp_right fun ⟨hs, n, hn⟩ => ⟨hs, n, hmore _ hn⟩
  case allowed =>
    obtain ⟨-, -, -, -, -, hyield⟩ := hv.reading
    exact hv.allowed.append ⟨hactive ▸ hb, (show v.yieldLevel = s.tuning.get 1 from hyield) ▸ hy,
      (hv.holder h hh).imp_right fun hs => hs.2⟩

/-- The grant of a PENDING claim below level 15 is a request that the rules allow (R31, R33, R40). -/
theorem Reckoning.Follows.doGrant {s : State} {v : Reckoning} (hv : v.Follows s) {i : ClaimIdx}
    (hp : (v.claim i).state = .pending) (hl : (v.claim i).active.level ≠ 15) : (v.doGrant i).Follows s := by
  have hclaim := Reckoning.claim_doGrant v i
  have hmore : ∀ r ∈ v.issued, r ∈ (v.doGrant i).issued := fun r hr => List.mem_append_left _ hr
  obtain ⟨hactive, harming⟩ := hv.stands i (Claim.inForce_of_pending hp)
  constructor
  case reading => exact hv.reading.trans ⟨rfl, rfl, rfl, rfl, rfl, rfl⟩
  case stands =>
    intro j hj
    rw [hclaim] at hj ⊢
    split at hj
    next he => rw [if_pos he, ← he]; exact ⟨hactive, harming⟩
    next he => rw [if_neg he]; exact hv.stands j hj
  case pending =>
    intro j hj
    rw [hclaim] at hj
    split at hj
    next he => cases hj
    next he => exact (hv.pending j hj).imp_right fun ⟨hs, d, hd⟩ => ⟨hs, d, hmore _ hd⟩
  case holder =>
    intro j hj
    rw [hclaim] at hj
    split at hj
    next he =>
      subst he
      exact (hv.pending i hp).elim (fun hs => .inr ⟨hs, _, List.mem_append_right _ (List.mem_singleton_self _)⟩)
        fun hs => .inl hs.1
    next he => exact (hv.holder j hj).imp_right fun ⟨hs, n, hn⟩ => ⟨hs, n, hmore _ hn⟩
  case allowed => exact hv.allowed.append ⟨harming, hactive ▸ hl, hv.pending i hp⟩

/-- The yields of different BULK holders are requests that the rules allow. -/
theorem Reckoning.Follows.doYields {s : State} (i : ClaimIdx) (l : List ClaimIdx) (hn : l.Nodup) : ∀ {v : Reckoning},
    v.Follows s → (∀ h ∈ l, (v.claim h).isHolder = true ∧ (v.claim h).active.bulk = true ∧ 0 < v.yieldLevel) →
    (v.doYields i l).Follows s := by
  induction l with
  | nil => intro v hv _; exact hv
  | cons h rest ih =>
    intro v hv hl
    obtain ⟨hh, hrest⟩ := List.nodup_cons.1 hn
    obtain ⟨hholder, hbulk, hyield⟩ := hl h List.mem_cons_self
    refine ih hrest (hv.doYield i hholder hbulk hyield) fun k hk => ?_
    rw [Reckoning.claim_doYield, if_neg (ne_of_mem_of_not_mem hk hh).symm]
    exact hl k (List.mem_cons_of_mem h hk)

/-! ## The holders that yield (R34, R38, R39, R41) -/

theorem Reckoning.level_of_eligible {v : Reckoning} {i : ClaimIdx} (he : v.eligible i = true) :
    (v.claim i).active.level ≠ 15 := by
  simp only [Reckoning.eligible, Bool.and_eq_true, decide_eq_true_eq] at he
  exact (level_lt_iff _).1 he.1.2

/-- The holder that an eligible claim displaces is BULK, and the claim is below the yield level (R34, R38). -/
theorem Reckoning.bulk_of_displaced {v : Reckoning} {i h : ClaimIdx} (he : v.eligible i = true)
    (hh : h ∈ v.displaced (v.claim i)) :
    (v.claim h).active.bulk = true ∧ (v.claim i).active.level.val < v.yieldLevel := by
  have hholder : (v.claim i).active.target ≠ .none ∧ Table.holder v.claims (v.claim i).active.target = some h := by
    unfold Reckoning.displaced at hh
    cases ht : (v.claim i).active.target with
    | none => simp [ht] at hh
    | heater | grinder | fan | latch =>
      rw [ht] at hh
      exact ⟨nofun, Option.mem_toList.1 hh⟩
  obtain ⟨htarget, hholder⟩ := hholder
  unfold Reckoning.eligible at he
  simp only [Bool.and_eq_true] at he
  replace he := he.2
  cases hk : (v.claim i).active.kind with
  | drive =>
    simp only [hk, Reckoning.mayTake, hholder, Bool.and_eq_true, decide_eq_true_eq] at he
    exact ⟨he.1.2.1.1, he.1.2.2⟩
  | curb =>
    have hmay : v.mayDisplace (v.claim i) = true := by simpa only [hk] using he
    unfold Reckoning.mayDisplace at hmay
    cases ht : (v.claim i).active.target with
    | none => exact absurd ht htarget
    | heater | grinder | fan | latch =>
      rw [ht] at hholder
      simp only [ht, hholder, Bool.and_eq_true, decide_eq_true_eq] at hmay
      exact ⟨hmay.1.1, hmay.2⟩

/-- The holders that yield for an admitted claim are BULK, and the claim is below the yield level (R34, R38, R41). -/
theorem Reckoning.bulk_of_admission {v : Reckoning} {i h : ClaimIdx} {l : List ClaimIdx} (he : v.eligible i = true)
    (ha : v.admission i = some l) (hh : h ∈ l) :
    (v.claim h).active.bulk = true ∧ (v.claim i).active.level.val < v.yieldLevel := by
  obtain ⟨k, -, rfl, -⟩ := (v.admission_eq_some_iff i l).1 ha
  rcases List.mem_append.1 hh with hh | hh
  · exact Reckoning.bulk_of_displaced he hh
  · have hw := List.mem_of_mem_take hh
    unfold Reckoning.waiting at hw
    split at hw
    next hlevel =>
      obtain ⟨-, hbulk, -⟩ := (v.mem_yieldList _ _ h).1 hw
      exact ⟨hbulk, hlevel⟩
    next => exact absurd hw List.not_mem_nil

/-- The holder that a claim clears is BULK, and the claim is below the yield level (R39). -/
theorem Reckoning.bulk_of_clears {v : Reckoning} {i h : ClaimIdx} (hc : v.clears i = some h) :
    (v.claim h).active.bulk = true ∧ (v.claim i).active.level.val < v.yieldLevel := by
  unfold Reckoning.clears at hc
  simp only at hc
  split at hc
  · split at hc
    · split at hc
      next hb =>
        cases hc
        simp only [Bool.and_eq_true, decide_eq_true_eq] at hb
        exact ⟨hb.1.1, hb.2⟩
      next => cases hc
    next => cases hc
  next => cases hc

/-- The turn of a candidate issues requests that the rules allow. -/
theorem Reckoning.Follows.turn {s : State} {v : Reckoning} (hv : v.Follows s) {i : ClaimIdx} (hc : v.candidate i = true) :
    (v.turn i).Follows s := by
  have hnoted : (v.noted i).Follows s := ⟨hv.reading, hv.stands, hv.pending, hv.holder, hv.allowed⟩
  obtain ⟨h, hcl, heq⟩ | heq | ⟨l, hcl, ha, heq⟩ := v.turn_cases i <;> rw [heq]
  · obtain ⟨hbulk, hlevel⟩ := Reckoning.bulk_of_clears hcl
    exact hnoted.doYield i (Reckoning.isHolder_of_clears hcl) hbulk (Nat.zero_lt_of_lt hlevel)
  · exact hnoted
  · have he := Reckoning.eligible_of_candidate hc hcl
    obtain ⟨hnodup, hholders, -, -⟩ := Reckoning.admission_eq_some ha
    have hself := Reckoning.claim_doYields_admitted he ha
    refine (Reckoning.Follows.doYields i l hnodup hnoted fun h hh => ?_).doGrant ?_ ?_
    · obtain ⟨hbulk, hlevel⟩ := Reckoning.bulk_of_admission he ha hh
      exact ⟨hholders h hh, hbulk, Nat.zero_lt_of_lt hlevel⟩
    · rw [hself]; exact Reckoning.pending_of_eligible he
    · rw [hself]; exact Reckoning.level_of_eligible he

theorem State.pass_follows (s : State) : s.pass.Follows s :=
  State.pass_keeps (fun _ _ hc hv => hv.turn hc) (Reckoning.follows_begin s)

/-! ## A pass is made of turns (R30, R40, R42, R43) -/

theorem Reckoning.takesTurns_turns (n : Nat) : ∀ {v : Reckoning}, Table.OneHolder v.claims →
    v.TakesTurns (Reckoning.turns n v) := by
  induction n with
  | zero => intro v _; exact .none v
  | succ n ih =>
    intro v hone
    unfold Reckoning.turns
    split
    next i hi =>
      obtain ⟨hmay, hfirst⟩ := (Reckoning.next_eq_some_iff hone i).1 hi
      exact .turn v _ i hmay hfirst (ih (Reckoning.oneHolder_turn hone ((Reckoning.candidate_iff hone i).2 hmay)))
    next => exact .none v

theorem Reckoning.issued_doYields_extends (i : ClaimIdx) (l : List ClaimIdx) : ∀ v : Reckoning,
    v.issued <+: (v.doYields i l).issued := by
  induction l with
  | nil => exact fun v => ⟨[], List.append_nil _⟩
  | cons h rest ih => exact fun v => .trans (l₂ := (v.doYield i h).issued) ⟨_, rfl⟩ (ih _)

/-- A turn adds to what has been issued, at its end. -/
theorem Reckoning.issued_turn_extends (v : Reckoning) (i : ClaimIdx) : v.issued <+: (v.turn i).issued := by
  obtain ⟨h, -, heq⟩ | heq | ⟨l, -, -, heq⟩ := v.turn_cases i <;> rw [heq]
  · exact ⟨_, rfl⟩
  · exact ⟨[], List.append_nil _⟩
  · exact (Reckoning.issued_doYields_extends i l (v.noted i)).trans ⟨_, rfl⟩

theorem Reckoning.issued_turns_extends (n : Nat) (v : Reckoning) : v.issued <+: (Reckoning.turns n v).issued :=
  Reckoning.turns_keep (P := fun w => v.issued <+: w.issued) (fun w i _ h => h.trans (w.issued_turn_extends i)) n
    ⟨[], List.append_nil _⟩

/-- An eligible LATCH claim finds no GRINDER holder to clear, and no other claim clears one (R37, R39). -/
theorem Reckoning.not_clears_of_eligible {v : Reckoning} {i : ClaimIdx} (he : v.EligibleByTheRules i) (h : ClaimIdx) :
    ¬ v.ClearsByTheRules i h := by
  rintro ⟨⟨-, hkind, htarget, -⟩, hgranted, -⟩
  obtain ⟨-, -, hdrive, -⟩ := he
  obtain ⟨-, -, -, -, -, hlatch⟩ := hdrive hkind
  rw [(hlatch htarget).2.2 h] at hgranted
  cases hgranted

/-- The turn of an eligible claim that fits as things stand, with no holder of its target, is its grant (R42, R43). -/
theorem Reckoning.issued_turn_of_fits {v : Reckoning} (hone : Table.OneHolder v.claims) {i : ClaimIdx}
    (he : v.EligibleByTheRules i) (hturned : i ∉ v.turned)
    (hfree : (v.claim i).active.target ≠ .none → ∀ h, (v.claim h).holds (v.claim i).active.target = false)
    (hpasses : v.Passes i []) : (v.turn i).issued = v.issued ++ [.grant i (v.claim i).arming] := by
  have hnone : v.displaced (v.claim i) = [] := List.eq_nil_iff_forall_not_mem.2 fun h hh => by
    obtain ⟨htarget, hholds⟩ := (Reckoning.mem_displaced_iff hone _ h).1 hh
    rw [hfree htarget h] at hholds
    cases hholds
  have hgone : v.HolderOfItsTarget i [] := ⟨Nat.zero_le 1, fun h => hnone ▸ Reckoning.mem_displaced_iff hone _ h⟩
  have hlist : v.IsYieldList i [] (v.waiting i) := by
    unfold Reckoning.waiting
    rw [hnone]
    exact ⟨fun hl => by rw [if_pos hl]; exact ⟨v.pairwise_yieldList _ _, v.mem_yieldList _ _⟩,
      fun hl => if_neg (not_lt.2 hl)⟩
  obtain ⟨-, hadmit⟩ := turnsAdmitWhatFits v i hone ⟨hturned, .inl he⟩
  obtain ⟨hissued, -⟩ := (hadmit (Reckoning.not_clears_of_eligible he) [] _ hgone hlist).1 0 (Nat.zero_le _) hpasses nofun
  simpa using hissued

/-- The first candidate of a pass is granted before anything else, if its target has no holder and it fits (R42, R43). -/
theorem State.pass_head {s : State} (hone : Table.OneHolder s.claims) {i : ClaimIdx}
    (he : s.reckoning.EligibleByTheRules i) (hfirst : ∀ j, s.reckoning.MayHaveATurn j → s.reckoning.ComesFirst i j)
    (hfree : (s.claim i).active.target ≠ .none → ∀ h, (s.claim h).holds (s.claim i).active.target = false)
    (hpasses : s.reckoning.Passes i []) : s.pass.issued.head? = some (.grant i (s.claim i).arming) := by
  have hnext : s.reckoning.next = some i :=
    (Reckoning.next_eq_some_iff (v := s.reckoning) hone i).2 ⟨⟨List.not_mem_nil, .inl he⟩, hfirst⟩
  have hpass : s.pass = Reckoning.turns 15 (s.reckoning.turn i) := by
    unfold State.pass
    rw [Reckoning.turns, hnext]
  have hissued := Reckoning.issued_turn_of_fits (v := s.reckoning) hone he List.not_mem_nil hfree hpasses
  obtain ⟨rest, hrest⟩ := Reckoning.issued_turns_extends 15 (s.reckoning.turn i)
  rw [hpass, ← hrest, hissued]
  rfl

/-- Settles O17. -/
theorem passRequestsAreAllowed : Obligations.PassRequestsAreAllowed := by
  intro s
  refine ⟨rfl, fun a b h d hi => s.pass_follows.allowed a _ b hi, fun a b i n hi => s.pass_follows.allowed a _ b hi,
    fun hone => ⟨Reckoning.takesTurns_turns 16 hone, fun i hmay => ?_, fun i => State.pass_head hone⟩⟩
  have hc := (Reckoning.candidate_iff (State.pass_oneHolder hone) i).2 hmay
  rw [s.pass_candidate i] at hc
  cases hc

/-! ## ARBITRATION_PASS (R29, R30) -/

/-- What answering reports leaves of the arbiter (R30, log 8). -/
theorem Arbiter.answered_frame (a : Arbiter) (together : Bool) :
    (a.answered together).handover = a.handover ∧ (a.answered together).budgetWrites = a.budgetWrites := by
  unfold Arbiter.answered
  split
  · exact ⟨rfl, rfl⟩
  · split <;> exact ⟨rfl, rfl⟩

/-- Settles O18. -/
theorem arbitrationPassIssuesItsRequests : Obligations.ArbitrationPassIssuesItsRequests := by
  intro together s
  show (_ → _ → ∃ t, execArbitrationPass together s = .next t ∧ _) ∧ (_ → execArbitrationPass together s = .next s)
  unfold execArbitrationPass
  refine ⟨fun hidle hdue => ?_, fun hbusy => ?_⟩
  · have hruns : (s.passDue && !s.passUnderWay) = true := by
      simpa [State.passDue, State.passUnderWay, hidle] using hdue
    obtain ⟨hhandover, hwrites⟩ := s.arbiter.answered_frame together
    rw [if_pos hruns]
    refine ⟨_, rfl, rfl, rfl, hhandover, hwrites, fun htogether => ?_⟩
    rw [htogether]
    exact ⟨rfl, rfl⟩
  · exact if_neg (by simp [State.passUnderWay, hbusy])

end Sys2Proof.Machine
end

section
/-! RESET_RELEASE leaves a lawful part (R26, R27, R69): every block's law at its reset values and first samples. -/

namespace Sys2Proof.Machine

/-! ## The ports (R145, R157, R158) -/

/-- A port right after reset release is lawful (R145, R152). -/
theorem PortState.lawful_reset (cls : PortClass) : (PortState.reset cls).Lawful := by
  cases cls <;> decide

/-- The port law depends on the ports alone. -/
theorem State.portsLawful_congr {s t : State} (hp : t.ports = s.ports) (h : s.PortsLawful) : t.PortsLawful := fun p =>
  State.port_congr hp p ▸ h p

/-- A notice keeps the port law: the attention line follows it (R157, R158). -/
theorem State.portsLawful_post {s : State} (h : s.PortsLawful) (n : Source) (p : Port) : (s.post n p).PortsLawful := by
  intro q
  unfold State.post
  rw [State.port_updPort]
  split
  · obtain ⟨-, hconsumed, hdata, hcode, hclass, hstarted⟩ := h p
    exact ⟨rfl, hconsumed, hdata, hcode, hclass, hstarted⟩
  · exact h q

theorem State.portsLawful_postAll {s : State} (h : s.PortsLawful) (n : Source) : (s.postAll n).PortsLawful :=
  State.portsLawful_post (State.portsLawful_post (State.portsLawful_post h n 0) n 1) n 2

/-- A cause raised in a table of FREE entries keeps the port law (R63, R157). -/
theorem State.portsLawful_raise {s : State} (hc : s.claims = Table.reset) (h : s.PortsLawful) {c : Cause}
    (hm : c.momentary = false) : (s.raise c).PortsLawful := by
  have hjam : c ≠ .jam := fun he => by rw [he] at hm; cases hm
  unfold State.raise
  rw [hm, if_neg Bool.false_ne_true]
  split
  · exact h
  · rw [State.tripEvent_eq, State.tripStarts_of_not_jam hjam, State.holdAll_of_reset (by exact hc)]
    exact State.portsLawful_postAll (State.portsLawful_congr (s := s) rfl h) .trip

/-- A thermistor report judged at the unit keeps the port law, in a table of FREE entries (R57, R59). -/
theorem State.portsLawful_judgeReport {s : State} (hc : s.claims = Table.reset) (h : s.PortsLawful) :
    s.judgeReport.PortsLawful := by
  have hsensor : s.judgeThermalSensor.PortsLawful := by
    unfold State.judgeThermalSensor
    split
    · exact h
    · exact State.portsLawful_raise hc h rfl
  have hclaims : s.judgeThermalSensor.claims = Table.reset := (State.unitMoves_judgeThermalSensor hc).claims.trans hc
  unfold State.judgeReport State.judgeOverheat
  split
  · exact hsensor
  · split
    · exact State.portsLawful_raise hclaims hsensor rfl
    · split
      · exact hsensor
      · exact hsensor

theorem State.portsLawful_first (f : FirstSamples) (pending : List Instr) : (State.first f pending).PortsLawful := by
  intro p
  have hport : (State.first f pending).port p = .reset (portClass (f.straps.get p)) :=
    Vector.getElem_map (fun x => PortState.reset (portClass x)) p.isLt
  rw [hport]
  exact PortState.lawful_reset _

/-- The outputs that follow at reset release leave the ports alone. -/
theorem ports_judgeFirst (f : FirstSamples) (pending : List Instr) : (State.first f pending).judgeFirst.ports =
    (if f.cutoutClosed then (State.first f pending).judgeDisagreement
      else (State.first f pending).judgeDisagreement.raise .cutout).judgeReport.ports := by
  have hmoves := unitMoves_first f pending
  unfold State.judgeFirst
  simp only
  rw [show (State.first f pending).judgeDisagreement.interlock.cutoutClosed = f.cutoutClosed from rfl]
  generalize (if f.cutoutClosed then (State.first f pending).judgeDisagreement
    else (State.first f pending).judgeDisagreement.raise .cutout).judgeReport = u at hmoves ⊢
  have hclaims : u.derivePlateBelow.claims = Table.reset := hmoves.claims.trans rfl
  rw [State.settleOutputs_of_reset hclaims (by rw [hmoves]; rfl) (by rw [hmoves]; rfl) (by rw [hmoves]; rfl)]
  rfl

theorem portsLawful_judgeFirst (f : FirstSamples) (pending : List Instr) :
    (State.first f pending).judgeFirst.PortsLawful := by
  have hstart : (State.first f pending).judgeDisagreement.PortsLawful := State.portsLawful_first f pending
  have hcut : (if f.cutoutClosed then (State.first f pending).judgeDisagreement
      else (State.first f pending).judgeDisagreement.raise .cutout).PortsLawful ∧
      (if f.cutoutClosed then (State.first f pending).judgeDisagreement
      else (State.first f pending).judgeDisagreement.raise .cutout).claims = Table.reset := by
    split
    · exact ⟨hstart, rfl⟩
    · exact ⟨State.portsLawful_raise rfl hstart rfl, (State.unitMoves_raise rfl rfl).claims.trans rfl⟩
  exact State.portsLawful_congr (ports_judgeFirst f pending) (State.portsLawful_judgeReport hcut.2 hcut.1)

/-! ## The interlock and trip unit (R49, R56, R58, R60, R61, R63, R64) -/

/-- The causes that first samples raise and the first of them agree (R63, R64). -/
theorem firstCauses_lawful (cut valid hot : Bool) :
    ((firstOfCauses cut valid hot).isSome = true ↔ firstCauses cut valid hot ≠ 0) ∧
    (∀ c ∈ firstOfCauses cut valid hot, (firstCauses cut valid hot).has c = true) := by
  revert cut valid hot
  decide

theorem firstUnit_haltLawful (f : FirstSamples) : (firstUnit f).HaltLawful := by
  obtain ⟨hset, hmember⟩ := firstCauses_lawful (!f.cutoutClosed) (firstValid f) (firstHot f)
  have hhas := firstCauses_has (!f.cutoutClosed) (firstValid f) (firstHot f)
  refine ⟨hset, ?_, hmember, BitVec.and_self, (hhas .jam).trans (by simp), (hhas .rotorSensor).trans (by simp)⟩
  show firstOfCauses _ _ _ = none ↔ (firstOfCauses _ _ _).isSome = false
  rw [Option.isSome_eq_false_iff, Option.isNone_iff_eq_none]

theorem firstUnit_inputLawful (f : FirstSamples) : (firstUnit f).InputLawful := by
  have hhas := firstCauses_has (!f.cutoutClosed) (firstValid f) (firstHot f)
  have hfault : (firstUnit f).active.has .latchFault = false := (hhas .latchFault).trans (by simp)
  have hforced : (firstUnit f).active.has .lidForced = false := (hhas .lidForced).trans (by simp)
  have hdisagrees : (firstUnit f).disagrees = !f.feedbackEngaged := rfl
  refine ⟨rfl, ?_, ?_, ?_, ?_, ?_⟩
  · exact (iff_of_eq (congrArg (· = true) (hhas .cutout))).trans (by simp [firstUnit, Interlock.withCauses, firstInputs,
      Interlock.first])
  · rw [firstUnit_disagreement, hdisagrees]
    intro h
    split at h
    next hlid => exact ⟨hlid.1, by rw [hlid.2]; rfl⟩
    next => exact absurd rfl h
  · rw [firstUnit_disagreement, hdisagrees]
    intro hlid hfeedback
    exact .inl (by rw [if_pos ⟨hlid, by simpa using hfeedback⟩]; exact Option.some_ne_none 0)
  · rw [hfault]; exact nofun
  · rw [hforced]; exact nofun

/-! ## The chamber and the sensor block (R50, R63, R70, R73, R74, R78, R81) -/

/-- The fan duty is that of R81 when the outputs have followed (R82). -/
theorem State.fanDuty_settleOutputs (s : State) : s.settleOutputs.drives.fanDuty = s.settleOutputs.fanDutyWanted := by
  unfold State.settleOutputs
  generalize s.followLatch.followRotor.followHeater = x
  rfl

/-- Nothing is driven right after reset release, and the fan stands where R81 has it. -/
theorem firstPart_chamberLawful (f : FirstSamples) (pending : List Instr) (t : State) :
    (firstPart f pending t).ChamberLawful := by
  have hfree : ∀ i, (firstPart f pending t).claim i = .free 0 := claim_of_reset_table rfl
  have hdriven : ∀ a, (firstPart f pending t).driven a = false := fun a => by
    unfold State.driven
    rw [Table.granted_eq_none.2 fun i => by rw [show (firstPart f pending t).claims.get i = _ from hfree i]; rfl]
    rfl
  have hsettled : (firstPart f pending t).settleOutputs = firstPart f pending t := by
    rw [State.settleOutputs_of_reset rfl rfl rfl rfl]
    rfl
  refine ⟨fun _ => ⟨fun i => by rw [hfree]; rfl, rfl, rfl⟩, nofun, fun h => absurd rfl h, ?_, fun _ _ i => ?_, ?_⟩
  · rw [hdriven]
    exact iff_of_false nofun nofun
  · rw [hfree]
    exact nofun
  · rw [← hsettled]
    exact State.fanDuty_settleOutputs _

theorem thermistorConversion_lawful (t : Int) : (thermistorConversion t).Lawful := by
  unfold thermistorConversion Conversion.Lawful
  rw [Bool.not_eq_false', decide_eq_true_eq]
  simp only [Config.spanLow, Config.spanHigh, Config.validLow, Config.validHigh]
  omega

theorem firstSensors_lawful (f : FirstSamples) (below : Bool) :
    ({ Sensors.first f with plateBelowOpen := below } : Sensors).Lawful := by
  obtain ⟨hplate, hair, -, hdivider, -⟩ := sensors_first f
  refine ⟨?_, ?_, ?_, ?_, ?_⟩
  · rw [hplate]; exact thermistorConversion_lawful _
  · rw [hair]; exact thermistorConversion_lawful _
  · show (Sensors.first f).humidity ≤ 100
    cases hh : f.humidity with
    | failed => rw [((humidity_first f).2 hh).1]; exact Nat.zero_le _
    | result rh => rw [((humidity_first f).1 rh hh).1]; exact Nat.min_le_right _ _
  · show (Sensors.first f).mass ≤ 20000
    cases hl : f.load with
    | failed => rw [((load_first f).2 hl).1]; exact Nat.zero_le _
    | grams g => rw [((load_first f).1 g hl).1]; exact Nat.min_le_right _ _
  · rw [hdivider]; decide

/-- The batch law at the empty table: the settle that a secured chamber starts does not bear on it (R107, R116). -/
theorem firstPart_batchLawful (f : FirstSamples) (pending : List Instr) (t : State) :
    (firstPart f pending t).BatchLawful := by
  obtain ⟨⟨-, -, -, -, -, -, hbatch, -⟩, -⟩ := resetStateIsLawful
  obtain ⟨hlength, horder, -, hretired, hmix, hfinished, hsound, hdry⟩ := hbatch
  exact ⟨hlength, horder, nofun, hretired, hmix, hfinished, hsound, hdry⟩

/-- Settles O4: the blocks that no first sample reaches are as State.reset has them, and the others keep their laws. -/
theorem resetReleaseIsLawful : Obligations.ResetReleaseIsLawful := by
  intro f s
  obtain ⟨⟨-, -, -, -, hdrive, hcounts, -, -, htuning, -, hlink⟩, -⟩ := resetStateIsLawful
  have hports := portsLawful_judgeFirst f s.pending
  refine ⟨_, rfl, ?_⟩
  rw [judgeFirst_eq]
  generalize (State.first f s.pending).judgeFirst = t at hports ⊢
  exact ⟨⟨State.claimsLawful_first f s.pending, firstUnit_haltLawful f, firstUnit_inputLawful f,
    firstPart_chamberLawful f s.pending t, hdrive, hcounts, firstPart_batchLawful f s.pending t, hports, htuning,
    firstSensors_lawful f _, hlink⟩, State.powerLawful_of_reset_table rfl rfl⟩

end Sys2Proof.Machine
end

section
/-! Events of the batch unit, said once: cure and the finished flag with their notices (R122 to R128), the reservations that
an event breaks (R136), and a write of a requirement or of an annotation whole (R126, R127, R131). -/

namespace Sys2Proof.Machine

/-! ## What an event of the batch unit reaches -/

theorem State.BatchEvent.trans {s t u : State} (h : s.BatchEvent t) (k : t.BatchEvent u) : s.BatchEvent u := by
  unfold State.BatchEvent at h k ⊢
  rw [k, h]

theorem State.batchEvent_touchBatch (s : State) (k : Nat) : s.BatchEvent (s.touchBatch k) := by
  unfold State.touchBatch
  split <;> rfl

theorem State.batchEvent_evaluate (s : State) (which : Nat → Bool) : s.BatchEvent (s.evaluate which) := by
  have htouched : ∀ o : Option Nat, s.BatchEvent (match o with
      | some k => (s.setRecords (s.judgedRecords which)).touchBatch k
      | none => s.setRecords (s.judgedRecords which)) := fun o => by
    cases o with
    | none => rfl
    | some k => exact .trans (t := s.setRecords (s.judgedRecords which)) rfl (State.batchEvent_touchBatch _ k)
  unfold State.evaluate
  simp only
  split
  · exact .trans (htouched _) rfl
  · exact htouched _

theorem State.batchEvent_judgeFinished (s : State) : s.BatchEvent s.judgeFinished := by
  unfold State.judgeFinished
  simp only
  split <;> rfl

theorem State.batchEvent_breakReservations (s : State) (hit : Port → Word → Bool) :
    s.BatchEvent (s.breakReservations hit) := by
  refine foldl_invariant s.BatchEvent _ (fun u p hu => hu.trans ?_) allPorts s rfl
  unfold State.breakOne
  split
  · split <;> rfl
  · rfl
  · rfl

/-! ## Cure (R103, R122 to R125) -/

/-- The state of a record by the requirements that hold for it (R103, R122). -/
theorem State.stateFor_eq_cureState (s : State) (r : BatchRecord) : s.stateFor r = s.cureState r r.dose r.grind := by
  have hdose : s.doseFor r = (r.doseOverride.map (·.toNat)).getD (s.tuning.get 3) := by
    unfold State.doseFor
    cases r.doseOverride <;> rfl
  have hgrind : s.grindFor r = (r.grindOverride.map (·.toNat)).getD (s.tuning.get 4) := by
    unfold State.grindFor
    cases r.grindOverride <;> rfl
  unfold State.stateFor State.cures State.cureState
  rw [hdose, hgrind]
  simp only [Bool.and_eq_true, decide_eq_true_eq]

/-- A record evaluated has the state and the cured-at that its counts give it (R123 to R125). -/
theorem State.judged_eq_credited (s : State) (r : BatchRecord) : s.judged r = s.credited r r.dose r.grind := by
  unfold State.judged State.credited
  rw [State.stateFor_eq_cureState]
  split
  next h => rw [h]
  next => rfl

theorem State.getElem?_judgedRecords (s : State) (which : Nat → Bool) (k : Nat) :
    (s.judgedRecords which)[k]? =
      s.batch.records[k]?.map fun r => if which k then s.credited r r.dose r.grind else r := by
  unfold State.judgedRecords
  rw [List.getElem?_mapIdx]
  simp only [State.judged_eq_credited]

/-- Some record enters CURED from one table to another. -/
def EntersCured (old new : List BatchRecord) : Prop :=
  ∃ (k : Nat) (r r' : BatchRecord), old[k]? = some r ∧ new[k]? = some r' ∧ r.state ≠ .cured ∧ r'.state = .cured

theorem someCured_iff (old new : List BatchRecord) : someCured old new = true ↔ EntersCured old new := by
  unfold someCured EntersCured stateDiffers
  simp only [List.any_eq_true, List.mem_range, Bool.and_eq_true, decide_eq_true_eq]
  constructor
  · rintro ⟨k, -, hdiff, hcured⟩
    obtain ⟨r', hr', hstate⟩ := Option.map_eq_some_iff.1 hcured
    cases hr : old[k]? with
    | none => simp [hr] at hdiff
    | some r =>
      simp only [hr, hr', decide_eq_true_eq, hstate] at hdiff
      exact ⟨k, r, r', hr, hr', hdiff, hstate⟩
  · rintro ⟨k, r, r', hr, hr', hne, hcured⟩
    refine ⟨k, (List.getElem?_eq_some_iff.1 hr).1, ?_, by rw [hr']; exact congrArg some hcured⟩
    simp only [hr, hr', decide_eq_true_eq, hcured]
    exact hne

/-- An entry into CURED depends on the states of the first table alone. -/
theorem entersCured_congr {old old' new : List BatchRecord} 
    (h : ∀ k : Nat, old[k]?.map BatchRecord.state = old'[k]?.map BatchRecord.state) :
    EntersCured old new ↔ EntersCured old' new := by
  have himp : ∀ a b : List BatchRecord, (∀ k : Nat, a[k]?.map BatchRecord.state = b[k]?.map BatchRecord.state) →
      EntersCured a new → EntersCured b new := by
    rintro a b hab ⟨k, r, r', hr, hr', hne, hcured⟩
    have hk := hab k
    rw [hr] at hk
    obtain ⟨x, hx, hstate⟩ := Option.map_eq_some_iff.1 hk.symm
    exact ⟨k, x, r', hx, hr', by rwa [hstate], hcured⟩
  exact ⟨himp old old' h, himp old' old fun k => (h k).symm⟩

theorem State.evaluate_batch (s : State) (which : Nat → Bool) :
    (s.evaluate which).batch = { s.batch with records := s.judgedRecords which } := by
  unfold State.evaluate
  simp only
  split <;> split <;> simp [State.setRecords]

/-- An evaluation posts BATCH_CURED if some record enters CURED (R124). -/
theorem State.notifies_evaluate (s : State) (which : Nat → Bool) : s.Notifies (s.evaluate which) fun n _ =>
    n = .batchCured ∧ EntersCured s.batch.records (s.judgedRecords which) := by
  have htouched : ∀ o : Option Nat, s.Notifies (match o with
      | some k => (s.setRecords (s.judgedRecords which)).touchBatch k
      | none => s.setRecords (s.judgedRecords which)) fun _ _ => False := fun o =>
    .of_ports_eq (by cases o <;> simp [State.setRecords])
  simp only [← someCured_iff]
  unfold State.evaluate
  simp only
  split
  next h => exact ((htouched _).trans (State.notifies_postAll _ _)).iff (by simp [h])
  next h => exact (htouched _).iff (by simp [h])

/-- The last-touched latch after an evaluation: as before it, or at a record whose state has changed (R166). -/
theorem State.evaluate_link (s : State) (which : Nat → Bool) : (s.evaluate which).link = s.link ∨
    ∃ k r r', s.batch.records[k]? = some r ∧ (s.judgedRecords which)[k]? = some r' ∧ r.state ≠ r'.state ∧
      (s.evaluate which).link = { s.link with touched := some (.batch k r'.seq) } := by
  have hlink : (s.evaluate which).link = (match lastChanged s.batch.records (s.judgedRecords which) with
      | some k => (s.setRecords (s.judgedRecords which)).touchBatch k
      | none => s.setRecords (s.judgedRecords which)).link := by
    unfold State.evaluate
    simp only
    split <;> rfl
  rw [hlink]
  cases hlast : lastChanged s.batch.records (s.judgedRecords which) with
  | none => exact .inl rfl
  | some k =>
    have hdiff : stateDiffers s.batch.records (s.judgedRecords which) k = true := List.find?_some hlast
    unfold stateDiffers at hdiff
    split at hdiff
    next r r' hr hr' =>
      refine .inr ⟨k, r, r', hr, hr', by simpa using hdiff, ?_⟩
      simp only [State.touchBatch, State.setRecords, hr']
    next => cases hdiff

/-! ## The finished flag (R128) -/

theorem BatchUnit.finishedFits_of_wanted {u : BatchUnit} (h : u.finished = u.finishedWanted) : u.FinishedFits := by
  unfold BatchUnit.FinishedFits
  rw [h]
  unfold BatchUnit.finishedWanted
  simp [and_assoc]

theorem State.judgeFinished_batch (s : State) :
    s.judgeFinished.batch = { s.batch with finished := s.batch.finishedWanted } := by
  unfold State.judgeFinished
  simp only
  split <;> rfl

theorem State.finishedFits_judgeFinished (s : State) : s.judgeFinished.batch.FinishedFits :=
  BatchUnit.finishedFits_of_wanted (by rw [State.judgeFinished_batch]; rfl)

/-- FINISHED is posted when the flag becomes true (R128). -/
theorem State.notifies_judgeFinished (s : State) : s.Notifies s.judgeFinished fun n _ =>
    n = .finished ∧ s.judgeFinished.batch.finished = true ∧ s.batch.finished = false := by
  have hjudged : s.Notifies { s with batch := { s.batch with finished := s.batch.finishedWanted } } fun _ _ => False :=
    .of_ports_eq rfl
  rw [State.judgeFinished_batch]
  unfold State.judgeFinished
  simp only
  split
  next h => exact (hjudged.trans (State.notifies_postAll _ .finished)).iff fun n q => by simpa using fun _ => by simpa using h
  next h => exact hjudged.iff fun n q => by simpa using fun _ => by simpa using h

/-! ## Cure and the finished flag in one event (R124, R126, R128) -/

/-- The notices of an event depend on the states of the records before it and on the flag before it alone. -/
theorem State.cureNotice_congr {s u t : State}
    (hstates : ∀ k : Nat, s.batch.records[k]?.map BatchRecord.state = u.batch.records[k]?.map BatchRecord.state)
    (hfinished : s.batch.finished = u.batch.finished) (n : Source) : s.CureNotice t n ↔ u.CureNotice t n := by
  unfold State.CureNotice
  rw [hfinished]
  exact or_congr_left (and_congr_right fun _ => entersCured_congr hstates)

/-- Records evaluated and the finished flag judged: the notices are those of cure and of the flag. -/
theorem State.notifies_cure (u : State) (which : Nat → Bool) :
    u.Notifies (u.evaluate which).judgeFinished fun n _ => u.CureNotice (u.evaluate which).judgeFinished n := by
  refine ((u.notifies_evaluate which).trans (State.notifies_judgeFinished _)).iff fun n q => ?_
  have hrecords : (u.evaluate which).judgeFinished.batch.records = u.judgedRecords which := by
    rw [State.judgeFinished_batch, State.evaluate_batch]
  unfold State.CureNotice
  rw [hrecords, State.evaluate_batch]
  rfl

/-- What the notices of cure say has been posted (R124, R128). -/
theorem State.cureNotices_of_posted {s t : State} (h : ∀ n q, s.CureNotice t n → t.Posted n q) : s.CureNotices t :=
  ⟨fun hcured q => h .batchCured q (.inl ⟨rfl, hcured⟩),
    fun hnow hbefore q => h .finished q (.inr ⟨rfl, hnow, hbefore⟩)⟩

/-- A write of a requirement at the batch unit (R126). -/
theorem State.requirementsChanged_cures (u : State) : u.BatchEvent u.requirementsChanged ∧
    u.requirementsChanged.batch = { u.batch with
      records := u.batch.records.map fun r => u.credited r r.dose r.grind
      finished := u.requirementsChanged.batch.finished } ∧
    u.requirementsChanged.batch.FinishedFits ∧
    u.Notifies u.requirementsChanged fun n _ => u.CureNotice u.requirementsChanged n := by
  have hrecords : u.judgedRecords (fun _ => true) = u.batch.records.map fun r => u.credited r r.dose r.grind :=
    List.ext_getElem? fun k => by rw [State.getElem?_judgedRecords, List.getElem?_map]; rfl
  refine ⟨(u.batchEvent_evaluate _).trans (State.batchEvent_judgeFinished _), ?_, State.finishedFits_judgeFinished _,
    u.notifies_cure _⟩
  unfold State.requirementsChanged State.evaluateAll
  rw [State.judgeFinished_batch, State.evaluate_batch, hrecords]

/-! ## Reservations that an event breaks (R136) -/

/-- A reservation after an event that breaks those on the numbers that the test names (R136). -/
def Reservation.brokenBy (hit : Word → Bool) : Reservation → Reservation
  | .intact seq => if hit seq then .broken seq else .intact seq
  | .none => .none
  | .broken seq => .broken seq

/-- The port's reservation is broken in an event that breaks those that the test names (R136). -/
def State.LosesReservation (s : State) (hit : Port → Word → Bool) (q : Port) : Prop :=
  ∃ seq, s.batch.reservations.get q = .intact seq ∧ hit q seq = true

theorem State.reservation_setReservation (s : State) (p q : Port) (v : Reservation) :
    (s.setReservation p v).batch.reservations.get q = if p = q then v else s.batch.reservations.get q := by
  show (s.batch.reservations.set (p : Nat) v p.isLt)[(q : Nat)] = if p = q then _ else s.batch.reservations[(q : Nat)]
  rw [Vector.getElem_set]
  simp only [Fin.ext_iff]

theorem State.reservation_breakOne (hit : Port → Word → Bool) (s : State) (p q : Port) :
    (State.breakOne hit s p).batch.reservations.get q =
      if p = q then (s.batch.reservations.get q).brokenBy (hit q) else s.batch.reservations.get q := by
  unfold State.breakOne
  by_cases hpq : p = q
  · subst hpq
    rw [if_pos rfl]
    cases hr : s.batch.reservations.get p with
    | intact seq =>
      cases hh : hit p seq with
      | true => simpa [Reservation.brokenBy, hh] using s.reservation_setReservation p p (.broken seq)
      | false => simpa [Reservation.brokenBy, hh] using hr
    | none => exact hr
    | broken seq => exact hr
  · rw [if_neg hpq]
    split
    · split
      · exact (s.reservation_setReservation p q _).trans (if_neg hpq)
      · rfl
    · rfl
    · rfl

theorem State.notifies_breakOne (hit : Port → Word → Bool) (s : State) (p : Port) :
    s.Notifies (State.breakOne hit s p) fun n q => n = .reservationLost ∧ q = p ∧ s.LosesReservation hit q := by
  unfold State.breakOne State.LosesReservation
  cases hr : s.batch.reservations.get p with
  | intact seq =>
    cases hh : hit p seq with
    | true =>
      have hset : s.Notifies (s.setReservation p (.broken seq)) fun _ _ => False := .of_ports_eq rfl
      simp only [hh, if_true]
      refine (hset.trans (State.notifies_post _ .reservationLost p)).iff fun n q => ?_
      rw [false_or]
      refine and_congr_right fun _ => ⟨?_, And.left⟩
      rintro rfl
      exact ⟨rfl, seq, hr, hh⟩
    | false =>
      refine State.Notifies.iff (.of_ports_eq (by simp [hh])) fun n q => ?_
      refine iff_of_false id ?_
      rintro ⟨-, rfl, seq', hs, hh'⟩
      rw [hr] at hs
      cases hs
      rw [hh] at hh'
      cases hh'
  | none | broken seq =>
    refine State.Notifies.iff (.of_ports_eq rfl) fun n q => ?_
    refine iff_of_false id ?_
    rintro ⟨-, rfl, seq', hs, -⟩
    rw [hr] at hs
    cases hs

theorem State.breakOne_batch (hit : Port → Word → Bool) (s : State) (p : Port) :
    (State.breakOne hit s p).batch = { s.batch with reservations := (State.breakOne hit s p).batch.reservations } := by
  unfold State.breakOne
  split
  · split <;> rfl
  · rfl
  · rfl

/-- The ports of a list lose the reservations that the test names, each with its notice (R136). -/
theorem State.foldl_breakOne (hit : Port → Word → Bool) (l : List Port) (hn : l.Nodup) : ∀ s : State,
    (∀ q, (l.foldl (State.breakOne hit) s).batch.reservations.get q =
      if q ∈ l then (s.batch.reservations.get q).brokenBy (hit q) else s.batch.reservations.get q) ∧
    (l.foldl (State.breakOne hit) s).batch =
      { s.batch with reservations := (l.foldl (State.breakOne hit) s).batch.reservations } ∧
    s.Notifies (l.foldl (State.breakOne hit) s) fun n q => n = .reservationLost ∧ q ∈ l ∧ s.LosesReservation hit q := by
  induction l with
  | nil => intro s; exact ⟨fun q => rfl, rfl, State.Notifies.iff (.of_ports_eq rfl) (by simp)⟩
  | cons p rest ih =>
    intro s
    obtain ⟨hp, hrest⟩ := List.nodup_cons.1 hn
    obtain ⟨hres, hbatch, hnotes⟩ := ih hrest (State.breakOne hit s p)
    have hother : ∀ q, q ∈ rest → (State.breakOne hit s p).batch.reservations.get q = s.batch.reservations.get q :=
      fun q hq => by rw [State.reservation_breakOne, if_neg (ne_of_mem_of_not_mem hq hp).symm]
    refine ⟨fun q => ?_, ?_, ((State.notifies_breakOne hit s p).trans hnotes).iff fun n q => ?_⟩
    · rw [List.foldl_cons, hres]
      by_cases hq : q ∈ rest
      · rw [if_pos hq, hother q hq, if_pos (List.mem_cons_of_mem _ hq)]
      · rw [if_neg hq, State.reservation_breakOne]
        simp [hq, eq_comm]
    · rw [List.foldl_cons, hbatch, State.breakOne_batch]
    · have hlost : q ∈ rest → ((State.breakOne hit s p).LosesReservation hit q ↔ s.LosesReservation hit q) := fun hq => by
        unfold State.LosesReservation
        rw [hother q hq]
      rw [List.mem_cons]
      constructor
      · rintro (⟨h1, rfl, h3⟩ | ⟨h1, h2, h3⟩)
        · exact ⟨h1, .inl rfl, h3⟩
        · exact ⟨h1, .inr h2, (hlost h2).1 h3⟩
      · rintro ⟨h1, h2 | h2, h3⟩
        · exact .inl ⟨h1, h2, h3⟩
        · exact .inr ⟨h1, h2, (hlost h2).2 h3⟩

/-- Every reservation that the test names is broken, with its notice (R136). -/
theorem State.breakReservations_breaks (s : State) (hit : Port → Word → Bool) :
    (∀ q, (s.breakReservations hit).batch.reservations.get q = (s.batch.reservations.get q).brokenBy (hit q)) ∧
    (s.breakReservations hit).batch = { s.batch with reservations := (s.breakReservations hit).batch.reservations } ∧
    s.Notifies (s.breakReservations hit) fun n q => n = .reservationLost ∧ s.LosesReservation hit q := by
  obtain ⟨hres, hbatch, hnotes⟩ := State.foldl_breakOne hit allPorts (by decide) s
  exact ⟨fun q => (hres q).trans (if_pos (mem_allPorts q)), hbatch, hnotes.iff fun n q => by simp [mem_allPorts]⟩

/-- Reservations after an event are those before it, broken by the test. -/
theorem State.losesReservation_iff {s t : State} {hit : Port → Word → Bool} {q : Port}
    (h : t.batch.reservations.get q = (s.batch.reservations.get q).brokenBy (hit q)) : s.LosesReservation hit q ↔
      ∃ seq, s.batch.reservations.get q = .intact seq ∧ t.batch.reservations.get q = .broken seq := by
  unfold State.LosesReservation
  refine exists_congr fun seq => and_congr_right fun hs => ?_
  rw [h, hs]
  simp [Reservation.brokenBy]

/-! ## A write of an annotation (R127, R131) -/

/-- The record table with one record annotated, position by position. -/
theorem getElem?_annotated (l : List BatchRecord) (k : Nat) (w : AnnotationWrite) (j : Nat) :
    (l.modify k (·.annotate w))[j]? = l[j]?.map fun r => if j = k then r.annotate w else r := by
  rw [List.getElem?_modify]
  by_cases hj : j = k
  · subst hj
    simp
  · simp [hj, Ne.symm hj]

/-- What a record is credited with depends on the tuning table and the clock alone. -/
theorem State.credited_congr {s u : State} (ht : u.tuning = s.tuning) (hs : u.sensors = s.sensors) (r : BatchRecord)
    (dose grind : Nat) : u.credited r dose grind = s.credited r dose grind := by
  unfold State.credited State.cureState
  rw [ht, hs]

/-- The state in which a write of an annotation has changed the fields, the last-touched latch and the reservations, with
cure and the finished flag still to be judged (R131). -/
def State.annotating (s : State) (k : Nat) (w : AnnotationWrite) (hit : Port → Word → Bool) : State :=
  ((s.setRecords (s.batch.records.modify k (·.annotate w))).touchBatch k).breakReservations hit

theorem State.annotate_eq (s : State) (k : Nat) (w : AnnotationWrite) (hit : Port → Word → Bool) :
    s.annotate k w hit = ((s.annotating k w hit).evaluateAt k).judgeFinished := rfl

theorem State.batchEvent_annotating (s : State) (k : Nat) (w : AnnotationWrite) (hit : Port → Word → Bool) :
    s.BatchEvent (s.annotating k w hit) :=
  State.BatchEvent.trans (t := s.setRecords (s.batch.records.modify k (·.annotate w))) rfl
    ((State.batchEvent_touchBatch _ k).trans (State.batchEvent_breakReservations _ hit))

/-- The batch unit with an annotation written: the records, and the reservations that are broken. -/
theorem State.annotating_batch (s : State) (k : Nat) (w : AnnotationWrite) (hit : Port → Word → Bool) :
    (s.annotating k w hit).batch = { s.batch with
      records := s.batch.records.modify k (·.annotate w)
      reservations := (s.annotating k w hit).batch.reservations } ∧
    ∀ q, (s.annotating k w hit).batch.reservations.get q = (s.batch.reservations.get q).brokenBy (hit q) := by
  obtain ⟨hres, hbatch, -⟩ :=
    State.breakReservations_breaks ((s.setRecords (s.batch.records.modify k (·.annotate w))).touchBatch k) hit
  rw [State.touchBatch_batch] at hres hbatch
  exact ⟨hbatch, hres⟩

theorem State.notifies_annotating (s : State) (k : Nat) (w : AnnotationWrite) (hit : Port → Word → Bool) :
    s.Notifies (s.annotating k w hit) fun n q => n = .reservationLost ∧ s.LosesReservation hit q := by
  obtain ⟨-, -, hnotes⟩ :=
    State.breakReservations_breaks ((s.setRecords (s.batch.records.modify k (·.annotate w))).touchBatch k) hit
  unfold State.LosesReservation at hnotes
  rw [State.touchBatch_batch] at hnotes
  exact hnotes.congr (by simp [State.setRecords]) rfl

/-- The latch names the record as soon as its annotation is written (R166). -/
theorem State.annotating_touched {s : State} {k : Nat} {r : BatchRecord} (hr : s.batch.records[k]? = some r)
    (w : AnnotationWrite) (hit : Port → Word → Bool) : (s.annotating k w hit).link.touched = some (.batch k r.seq) := by
  have hk : (s.setRecords (s.batch.records.modify k (·.annotate w))).batch.records[k]? = some (r.annotate w) := by
    show (s.batch.records.modify k (·.annotate w))[k]? = _
    rw [getElem?_annotated, hr]
    simp
  unfold State.annotating
  rw [State.breakReservations_link]
  simp only [State.touchBatch, hk]
  rfl

/-- The evaluation of one record leaves the last-touched latch at it, where it stands there already (R166). -/
theorem State.touched_evaluateAt {u : State} {k : Nat} {r : BatchRecord} (hr : u.batch.records[k]? = some r)
    (ht : u.link.touched = some (.batch k r.seq)) : (u.evaluateAt k).link.touched = some (.batch k r.seq) := by
  obtain hlink | ⟨j, y, y', hy, hy', hne, hlink⟩ := u.evaluate_link fun j => j == k
  · exact (congrArg Link.touched hlink).trans ht
  · rw [State.getElem?_judgedRecords, hy, Option.map_some, Option.some.injEq] at hy'
    by_cases hj : j = k
    · subst hj
      rw [hr, Option.some.injEq] at hy
      have hseq : y'.seq = r.seq := by
        rw [← hy', hy, if_pos (beq_self_eq_true j)]
        rfl
      exact (congrArg Link.touched hlink).trans (by rw [hseq])
    · rw [if_neg (by simpa using hj)] at hy'
      exact absurd (congrArg BatchRecord.state hy') hne

/-- A write of an annotation whole: the record with its new fields, cure and the finished flag judged, the reservations that
the test names broken, and the notices of these (R127, R131, R136). -/
theorem State.annotate_annotates {s : State} {k : Nat} {r : BatchRecord} (hr : s.batch.records[k]? = some r)
    (w : AnnotationWrite) (hit : Port → Word → Bool) :
    s.BatchEvent (s.annotate k w hit) ∧ s.Annotated (s.annotate k w hit) k (r.annotate w) ∧
    (∀ q, (s.annotate k w hit).batch.reservations.get q = (s.batch.reservations.get q).brokenBy (hit q)) ∧
    s.Notifies (s.annotate k w hit) fun n q =>
      s.CureNotice (s.annotate k w hit) n ∨ (n = .reservationLost ∧ s.LosesReservation hit q) := by
  obtain ⟨hbatch, hres⟩ := s.annotating_batch k w hit
  have hevent := s.batchEvent_annotating k w hit
  have hnotes := s.notifies_annotating k w hit
  have htouched := State.annotating_touched hr w hit
  rw [State.annotate_eq]
  generalize s.annotating k w hit = u at hbatch hres hevent hnotes htouched
  have hcredited : ∀ x dose grind, u.credited x dose grind = s.credited x dose grind :=
    State.credited_congr (by rw [hevent]) (by rw [hevent])
  have hrecords : ∀ j, u.batch.records[j]? = s.batch.records[j]?.map fun x => if j = k then x.annotate w else x := by
    rw [hbatch]
    exact getElem?_annotated _ k w
  have hat : ∀ j, (u.evaluateAt k).judgeFinished.batch.records[j]? = s.batch.records[j]?.map fun x =>
      if j = k then s.credited (x.annotate w) (x.annotate w).dose (x.annotate w).grind else x := fun j => by
    rw [State.judgeFinished_batch, State.evaluateAt, State.evaluate_batch]
    show (u.judgedRecords _)[j]? = _
    rw [State.getElem?_judgedRecords, hrecords, Option.map_map]
    congr 1
    funext x
    by_cases hj : j = k <;> simp [hj, hcredited]
  refine ⟨hevent.trans ((u.batchEvent_evaluate _).trans (State.batchEvent_judgeFinished _)),
    ⟨?_, fun j hj => ?_, ?_, State.finishedFits_judgeFinished _, ?_⟩, fun q => ?_, ?_⟩
  · rw [hat, hr]
    simp
  · rw [hat]
    simp [hj]
  · rw [State.judgeFinished_batch, State.evaluateAt, State.evaluate_batch, hbatch]
  · rw [State.judgeFinished_link]
    refine State.touched_evaluateAt (r := r.annotate w) ?_ htouched
    rw [hrecords, hr]
    simp
  · rw [State.judgeFinished_batch, State.evaluateAt, State.evaluate_batch]
    exact hres q
  · refine (hnotes.trans (u.notifies_cure _)).iff fun n q => ?_
    rw [or_comm]
    refine or_congr_left (State.cureNotice_congr (fun j => ?_) (by rw [hbatch]) n)
    rw [hrecords, Option.map_map]
    congr 1
    funext x
    by_cases hj : j = k <;> simp [hj, BatchRecord.annotate]

end Sys2Proof.Machine
end

section
/-! A write of a tuning entry, over a port or by the service link: what it does at the blocks that read the value (R45, R82,
R126, R169, R171), and TUNING_WRITE whole. -/

namespace Sys2Proof.Machine

/-! ## The table and its index (R169, R173) -/

theorem tuningInRange_iff (k : Fin 13) (v : Nat) : tuningInRange k v = true ↔
    (Config.tuningRows.get k).lowest ≤ v ∧ v ≤ (Config.tuningRows.get k).highest := by
  unfold tuningInRange
  rw [decide_eq_true_eq]

theorem tuningInRange_eq_false {k : Fin 13} {v : Nat}
    (h : v < (Config.tuningRows.get k).lowest ∨ (Config.tuningRows.get k).highest < v) : tuningInRange k v = false := by
  rw [Bool.eq_false_iff, ne_eq, tuningInRange_iff]
  omega

theorem tuningIndex_eq_none {b : Byte} (h : 12 < b.toNat) : tuningIndex b = none := by
  unfold tuningIndex
  exact dif_neg (by omega)

theorem tuningIndex_ofNat (k : Fin 13) : tuningIndex (BitVec.ofNat 8 k.val) = some k := by
  revert k
  decide

/-- A two-byte field laid out again in its bytes (R173). -/
theorem half16_halfAt (req : List Byte) (k : Nat) : half16 (halfAt req k).toNat = [byteAt req k, byteAt req (k + 1)] := by
  unfold half16 bytesOfHalf halfAt half
  rw [BitVec.ofNat_toNat, BitVec.setWidth_eq, BitVec.extractLsb'_append_eq_left, BitVec.extractLsb'_append_eq_right]

/-! ## What a write does at once (R45, R82, R126, R169) -/

theorem State.writeTuning_plain {s : State} {k : Fin 13} (h1 : k ≠ 1) (h3 : k ≠ 3) (h4 : k ≠ 4) (h11 : k ≠ 11) (v : Nat) :
    s.writeTuning k v = s.setTuning k v := by
  simp [State.writeTuning, h1, h3, h4, h11]

theorem State.writeTuning_requirement (s : State) {k : Fin 13} (h : k = 3 ∨ k = 4) (v : Nat) :
    s.writeTuning k v = (s.setTuning k v).requirementsChanged := by
  unfold State.writeTuning
  rcases h with rfl | rfl <;> rfl

/-- A report to the arbiter changes the arbiter alone (R29). -/
theorem State.reportPass_eq (s : State) : s.reportPass = { s with arbiter := s.reportPass.arbiter } := by
  unfold State.reportPass
  split <;> rfl

/-! ## TUNING_WRITE (R171, R172) -/

theorem State.budgetWaits_eq_false {s : State} {p : Port} (h : ∀ w ∈ s.arbiter.budgetWrites, w.1 ≠ p) :
    s.budgetWaits p = false := by
  simpa [State.budgetWaits] using fun a b hw => h (a, b) hw

theorem State.takeTuningWrite_of_index {s : State} {p : Port} {req : List Byte} {k : Fin 13}
    (hw : s.budgetWaits p = false) (ha : (s.port p).access.tuning = true) (hk : tuningIndex (byteAt req 1) = some k) :
    s.takeTuningWrite p req =
      if tuningInRange k (halfAt req 2).toNat = false then s.refuse p .range
      else if k = 0 then s.handBudget p (halfAt req 2).toNat
      else (s.writeTuning k (halfAt req 2).toNat).answer p .ok (tuningWriteData k (halfAt req 2).toNat) := by
  simp [State.takeTuningWrite, hw, ha, hk]

/-- The reply to a write that leaves the ports alone. -/
theorem State.answer_of_ports_eq {s u : State} {p : Port} {code : Byte} {req : List Byte} (h : s.Asks p code req)
    (hu : u.ports = s.ports) (st : Status) (data : List Byte) : u.answer p st data = u.replied p st code data :=
  answer_eq_replied (asks_of_ports_eq h hu) st data

/-- Settles O57. -/
theorem tuningWriteTakesEffect : Obligations.TuningWriteTakesEffect := by
  refine ⟨by decide, fun p req s hasks hnone => ?_⟩
  have hwaits := State.budgetWaits_eq_false hnone
  have hexec : exec (.tuningWrite p) s = .next (s.takeTuningWrite p req) := onRequest_asks hasks _
  rw [hexec]
  refine ⟨fun hden => ?_, fun hperm => ⟨fun hidx => ?_, fun k v w hk hv hw => ?_⟩⟩
  · rw [← refuse_eq_replied hasks]
    simp [State.takeTuningWrite, hwaits, hden]
  · rw [← refuse_eq_replied hasks]
    simp [State.takeTuningWrite, hwaits, hperm, tuningIndex_eq_none hidx]
  have hdata : tuningWriteData k v = [byteAt req 1, byteAt req 2, byteAt req 3] := by
    unfold tuningWriteData
    rw [← hv, half16_halfAt, hk]
    rfl
  rw [State.takeTuningWrite_of_index hwaits hperm (by rw [hk]; exact tuningIndex_ofNat k), hv, hdata]
  obtain rfl : w = s.setTuning k v := hw
  refine ⟨fun hout => ?_, fun hlow hhigh => ?_⟩
  · rw [if_pos (tuningInRange_eq_false hout), refuse_eq_replied hasks]
  rw [if_neg (by simp [(tuningInRange_iff k v).2 ⟨hlow, hhigh⟩])]
  refine ⟨fun h0 => ?_, fun h1 => ?_, fun h34 => ?_, fun h11 => ?_, fun h0 h1 h3 h4 h11 => ?_⟩
  · rw [if_pos h0]
    rfl
  · subst h1
    refine ⟨_, rfl, State.passDue_answer (State.reportPass_passDue _) _ _ _, State.reportPass_requests _, ?_⟩
    have hreport := State.reportPass_eq (s.setTuning 1 v)
    have hports : (s.setTuning 1 v).reportPass.ports = s.ports := State.reportPass_ports _
    rw [if_neg (by decide), show s.writeTuning 1 v = (s.setTuning 1 v).reportPass from rfl,
      State.answer_of_ports_eq hasks hports]
    generalize (s.setTuning 1 v).reportPass = u at hreport ⊢
    rw [hreport]
    rfl
  · have h0 : k ≠ 0 := by rcases h34 with rfl | rfl <;> decide
    obtain ⟨hevent, hbatch, hfits, hnotes⟩ := (s.setTuning k v).requirementsChanged_cures
    rw [if_neg h0, State.writeTuning_requirement s h34]
    have hnotes : s.Notifies (s.setTuning k v).requirementsChanged _ := hnotes.congr rfl rfl
    have hposts : s.PostsExactly
        ((s.setTuning k v).requirementsChanged.answer p .ok [byteAt req 1, byteAt req 2, byteAt req 3]) fun n _ =>
        s.CureNotice (s.setTuning k v).requirementsChanged n :=
      fun n q => (posted_answer _ p _ _ n q).trans (hnotes.posts n q)
    exact ⟨_, rfl, hevent.trans rfl, hbatch, hfits, State.cureNotices_of_posted fun n q hn => (hposts n q).2 (.inr hn),
      hposts, portsButNotices_answer hasks hnotes.ports _ _⟩
  · subst h11
    rw [if_neg (by decide), show s.writeTuning 11 v = (s.setTuning 11 v).followFan from rfl,
      State.answer_of_ports_eq (u := (s.setTuning 11 v).followFan) hasks rfl]
    rfl
  · rw [if_neg h0, State.writeTuning_plain h1 h3 h4 h11,
      State.answer_of_ports_eq (u := s.setTuning k v) hasks rfl]

end Sys2Proof.Machine
end

section
/-! POKE_DATA_FRAME and VERIFY_FRAME (R161, R164, R165, R174): what a data frame refuses, what an accepted one writes
through the owner of the word, and what both leave of the link. -/

namespace Sys2Proof.Machine

/-! ## The frame of each phase (R160, R164) -/

/-- No command is a data or a verify frame (R160, R161). -/
theorem commandKind_ne (command : BitVec 4) : commandKind command ≠ .pokeData ∧ commandKind command ≠ .verify := by
  revert command
  decide

theorem execPokeDataFrame_of_data {s : State} {bits : List Bool} {value : Word} {run : Nat} (h : s.TakesFrame bits value run)
    {table entry w : Nat} {seq : Option Word} (hp : s.link.phase = .data table entry w seq) :
    exec (.pokeDataFrame bits) s = .next ((s.takeDataAt table entry w seq value).sampledBits [] run) := by
  have hdata : s.takeData value = s.takeDataAt table entry w seq value := by
    unfold State.takeData
    rw [hp]
  rw [← hdata]
  exact takeFrame_takes h (by rw [hp]; rfl) s.takeData

theorem execVerifyFrame_of_verify {s : State} {bits : List Bool} {value : Word} {run : Nat} (h : s.TakesFrame bits value run)
    {accepted : Bool} (hp : s.link.phase = .verify accepted) : exec (.verifyFrame bits) s =
      .next (({ s with link := { s.link with phase := .none } } : State).framed run 0 (if accepted then 3 else 1)) := by
  have hverify : s.takeVerify = (s.setPhase .none).reply 0 (if accepted then 3 else 1) := by
    unfold State.takeVerify
    rw [hp]
  refine (takeFrame_takes h (by rw [hp]; rfl) fun _ => s.takeVerify).trans ?_
  rw [hverify]
  rfl

/-! ## The link after a data frame (R161, R163, R164, R165) -/

/-- A refused write leaves everything but the link, which answers the word as it stands (R164, R165). -/
theorem State.takeDataAt_refused {s : State} {table entry w : Nat} {seq : Option Word} {value : Word}
    (h : s.pokeWrite table entry w seq value = (s, false)) (run : Nat) :
    (s.takeDataAt table entry w seq value).sampledBits [] run =
      { s with link := s.link.afterData run false (s.readWord table entry w) } := by
  unfold State.takeDataAt
  rw [h]
  rfl

/-- An accepted write drops a snapshot of the same record, and answers the word after it (R163, R164, log 34). -/
theorem State.takeDataAt_accepted {s u : State} {table entry w : Nat} {seq : Option Word} {value : Word}
    (h : s.pokeWrite table entry w seq value = (u, true)) (run : Nat) :
    (s.takeDataAt table entry w seq value).sampledBits [] run =
      { u with link := { u.link.afterData run true (u.readWord table entry w) with
        snapshot := u.link.snapshotAfter table entry } } := by
  have hsnapshot : u.link.snapshotAfter table entry =
      if u.link.holdsSnapshot table entry = true then none else u.link.snapshot := by
    unfold Link.snapshotAfter Link.holdsSnapshot
    cases u.link.snapshot with
    | none => simp
    | some x => by_cases hx : x.table = table ∧ x.entry = entry <;> simp [hx]
  unfold State.takeDataAt
  rw [h, hsnapshot]
  simp only [Bool.true_and]
  split <;> rfl

/-! ## The values of the writable words (R165, R174) -/

theorem pokeValue_toNat {value : Word} {v : Half} (h : pokeValue value = some v) : v.toNat = value.toNat := by
  unfold pokeValue at h
  rw [Option.ite_none_right_eq_some, Option.some.injEq] at h
  obtain ⟨hupper, rfl⟩ := h
  have hzero : value.toNat / 65536 % 65536 = 0 := by
    simpa [BitVec.extractLsb'_toNat, Nat.shiftRight_eq_div_pow] using congrArg BitVec.toNat hupper
  have hlow : (value.extractLsb' 0 16).toNat = value.toNat % 65536 := by simp [BitVec.extractLsb'_toNat]
  have := value.isLt
  omega

theorem pokeValue_of_le {value : Word} (h : value.toNat ≤ 65535) : ∃ v, pokeValue value = some v := by
  have hupper : value.extractLsb' 16 16 = 0 := by
    apply BitVec.eq_of_toNat_eq
    rw [BitVec.extractLsb'_toNat, Nat.shiftRight_eq_div_pow]
    simp only [Nat.reducePow, BitVec.ofNat_eq_ofNat, BitVec.toNat_ofNat]
    omega
  exact ⟨_, if_pos hupper⟩

/-- The field of a record that a value writes is that of the annotation write that it makes (R165, R174). -/
theorem BatchRecord.poked_eq (r : BatchRecord) (w : Nat) (value : Word) :
    r.poked w value = (pokeAnnotation w value).map r.annotate := by
  unfold BatchRecord.poked pokeAnnotation
  by_cases hupper : value.extractLsb' 16 16 = 0
  · have habsent : value ≠ 0x80000000 := by
      rintro rfl
      exact absurd hupper (by decide)
    have hvalue : pokeValue value = some (value.extractLsb' 0 16) := if_pos hupper
    have hoverride : pokeOverride value = some (some (value.extractLsb' 0 16)) :=
      (if_neg habsent).trans (by rw [hvalue]; rfl)
    rw [hvalue, hoverride, decide_eq_true hupper]
    match w with
    | 0 | 1 | 2 | 3 | 4 | _ + 5 => rfl
  · have hvalue : pokeValue value = none := if_neg hupper
    by_cases habsent : value = 0x80000000
    · have hoverride : pokeOverride value = some none := if_pos habsent
      rw [hvalue, hoverride, decide_eq_false hupper, decide_eq_true habsent]
      match w with
      | 0 | 1 | 2 | 3 | 4 | _ + 5 => rfl
    · have hoverride : pokeOverride value = none := (if_neg habsent).trans (by rw [hvalue]; rfl)
      rw [hvalue, hoverride, decide_eq_false hupper, decide_eq_false habsent]
      match w with
      | 0 | 1 | 2 | 3 | 4 | _ + 5 => rfl

/-- An annotation word read back after the write of a value is the value (R165, R174). -/
theorem word_of_poked {r x y : BatchRecord} {w : Nat} {value : Word} (h : r.poked w value = some x) (ht : y.tag = x.tag)
    (hd : y.doseOverride = x.doseOverride) (hg : y.grindOverride = x.grindOverride) (k : Nat) :
    (y.words k).getD w 0 = value := by
  have hlow : value.extractLsb' 16 16 = 0 → (value.extractLsb' 0 16).setWidth 32 = value := fun hupper => by
    have hv := pokeValue_toNat (value := value) (if_pos hupper)
    apply BitVec.eq_of_toNat_eq
    rw [BitVec.toNat_setWidth, hv]
    exact Nat.mod_eq_of_lt value.isLt
  unfold BatchRecord.poked at h
  split at h
  next hu => cases h; exact (congrArg (BitVec.setWidth 32) ht).trans (hlow (of_decide_eq_true hu))
  next hu => cases h; exact (congrArg overrideWord hd).trans (hlow (of_decide_eq_true hu))
  next hm => cases h; exact (congrArg overrideWord hd).trans (of_decide_eq_true hm).symm
  next hu => cases h; exact (congrArg overrideWord hg).trans (hlow (of_decide_eq_true hu))
  next hm => cases h; exact (congrArg overrideWord hg).trans (of_decide_eq_true hm).symm
  next => cases h

/-! ## What a data frame writes (R165) -/

theorem State.pokeWrite_tuning (s : State) (k : Fin 13) (seq : Option Word) (value : Word) :
    s.pokeWrite 0 k.val 0 seq value = s.pokeTuning k value := by
  unfold State.pokeWrite
  rw [if_pos ⟨rfl, rfl⟩, dif_pos k.isLt]

theorem State.pokeWrite_batch (s : State) (entry w : Nat) (seq : Option Word) (value : Word) :
    s.pokeWrite 2 entry w seq value = s.pokeBatch entry w seq value := by
  unfold State.pokeWrite
  rw [if_neg (fun h => absurd h.1 (by decide)), if_pos rfl]

theorem State.pokeTuning_refused {s : State} {k : Fin 13} {value : Word} (h : value.extractLsb' 16 16 ≠ 0 ∨
    value.toNat < (Config.tuningRows.get k).lowest ∨ (Config.tuningRows.get k).highest < value.toNat) :
    s.pokeTuning k value = (s, false) := by
  unfold State.pokeTuning
  split
  · rfl
  next v hv =>
    have hupper : value.extractLsb' 16 16 = 0 := by
      unfold pokeValue at hv
      exact (Option.ite_none_right_eq_some.1 hv).1
    rw [pokeValue_toNat hv, tuningInRange_eq_false (h.resolve_left (not_not_intro hupper))]
    rfl

theorem State.pokeTuning_in_range {s : State} {k : Fin 13} {value : Word} (hlow : (Config.tuningRows.get k).lowest ≤ value.toNat)
    (hhigh : value.toNat ≤ (Config.tuningRows.get k).highest) : s.pokeTuning k value =
      if k = 0 then s.pokeBudget value.toNat else (s.writeTuning k value.toNat, true) := by
  have htop : ∀ k, (Config.tuningRows.get k).highest ≤ 65535 := by decide
  obtain ⟨v, hv⟩ := pokeValue_of_le (hhigh.trans (htop k))
  unfold State.pokeTuning
  rw [hv]
  simp only [pokeValue_toNat hv, (tuningInRange_iff k _).2 ⟨hlow, hhigh⟩]
  rfl

theorem State.pokeBatch_refused {s : State} {entry w : Nat} {seq : Option Word} {value : Word}
    (h : ∀ r, s.batch.records[entry]? = some r → seq ≠ some r.seq ∨ r.poked w value = none) :
    s.pokeBatch entry w seq value = (s, false) := by
  unfold State.pokeBatch
  split
  next r x hr hx =>
    have hpoked : r.poked w value ≠ none := by
      rw [BatchRecord.poked_eq, hx]
      exact Option.some_ne_none _
    exact if_neg (Ne.symm ((h r hr).resolve_right hpoked))
  next => rfl

theorem State.pokeBatch_accepted {s : State} {entry w : Nat} {value : Word} {r : BatchRecord} {x : AnnotationWrite}
    (hr : s.batch.records[entry]? = some r) (hx : pokeAnnotation w value = some x) :
    s.pokeBatch entry w (some r.seq) value = (s.annotate entry x fun _ n => n == r.seq, true) := by
  unfold State.pokeBatch
  rw [hr, hx]
  exact if_pos rfl

/-- The arbiter between passes, with no budget write waiting, has nothing to finish before a budget POKE (log 13). -/
theorem State.settleArbiter_of_idle {s : State} (hr : s.arbiter.requests = []) (hb : s.arbiter.budgetWrites = []) :
    s.settleArbiter = s := by
  unfold State.settleArbiter
  simp [hr, hb, State.takeRequests, State.takeBudgetWrites]

theorem State.readWord_tuning (s : State) (k : Fin 13) : s.readWord 0 k.val 0 = BitVec.ofNat 32 (s.tuning.get k) := by
  unfold State.readWord State.recordWords
  simp [k.isLt]

theorem State.readWord_batch {s : State} {k : Nat} {r : BatchRecord} (h : s.batch.records[k]? = some r) (w : Nat) :
    s.readWord 2 k w = (r.words k).getD w 0 := by
  unfold State.readWord State.recordWords
  simp only [h]

/-- What a data frame may not write: an address with no writable word, a tuning value out of its row's range, a record that
is not the one recorded, or a value that breaks an annotation word's encoding (R165, R174). -/
theorem State.pokeWrite_refused {s : State} {table entry w : Nat} {seq : Option Word} {value : Word}
    (h : (table ≠ 0 ∧ table ≠ 2) ∨ (table = 0 ∧ (w ≠ 0 ∨ 12 < entry ∨ value.extractLsb' 16 16 ≠ 0)) ∨
      (∃ k : Fin 13, table = 0 ∧ entry = k.val ∧
        (value.toNat < (Config.tuningRows.get k).lowest ∨ (Config.tuningRows.get k).highest < value.toNat)) ∨
      (table = 2 ∧ ∀ r, s.batch.records[entry]? = some r → seq ≠ some r.seq ∨ r.poked w value = none)) :
    s.pokeWrite table entry w seq value = (s, false) := by
  have hother : ∀ entry w, w ≠ 0 ∨ 12 < entry → s.pokeWrite 0 entry w seq value = (s, false) := fun entry w hout => by
    unfold State.pokeWrite
    rw [if_neg (show (0 : Nat) ≠ 2 by decide)]
    split
    next hw => exact dif_neg (by have := hout.resolve_left (not_not_intro hw.2); omega)
    next => rfl
  obtain ⟨h0, h2⟩ | ⟨rfl, hw⟩ | ⟨k, rfl, rfl, hout⟩ | ⟨rfl, hr⟩ := h
  · unfold State.pokeWrite
    rw [if_neg fun h => h0 h.1, if_neg h2]
  · by_cases haddress : w ≠ 0 ∨ 12 < entry
    · exact hother entry w haddress
    · obtain ⟨hzero, hentry⟩ := not_or.1 haddress
      obtain rfl : w = 0 := not_not.1 hzero
      have hupper : value.extractLsb' 16 16 ≠ 0 := by tauto
      exact (s.pokeWrite_tuning ⟨entry, by omega⟩ seq value).trans (State.pokeTuning_refused (.inl hupper))
  · by_cases hw : w = 0
    · subst hw
      exact (s.pokeWrite_tuning k seq value).trans (State.pokeTuning_refused (.inr hout))
    · exact hother k.val w (.inl hw)
  · exact (s.pokeWrite_batch entry w seq value).trans (State.pokeBatch_refused hr)

/-! ## An accepted write of a tuning word (R45, R82, R126, R165) -/

section

variable {s : State} {bits : List Bool} {run : Nat} {value : Word} {k : Fin 13} {seq : Option Word}

/-- The state that the write of a tuning word leaves before the blocks that read it have acted. -/
def State.tuningPoked (s : State) (k : Fin 13) (value : Word) (run : Nat) : State :=
  { s with
    tuning := s.tuning.set k value.toNat
    link := { s.link.afterData run true value with snapshot := s.link.snapshotAfter 0 k.val } }

/-- A tuning word whose value the write has replaced is read back as the value (R164, R174). -/
theorem State.readWord_written {u : State} (h : u.tuning = s.tuning.set k value.toNat) : u.readWord 0 k.val 0 = value := by
  rw [State.readWord_tuning, h]
  show BitVec.ofNat 32 (s.tuning.set k value.toNat)[(k : Nat)] = value
  rw [Vector.getElem_set_self, BitVec.ofNat_toNat, BitVec.setWidth_eq]

/-- An accepted write of a tuning word: the owner's write, and the link (R164, R165). -/
theorem execPoke_tuning (h : s.TakesFrame bits value run) (hp : s.link.phase = .data 0 k.val 0 seq) {u : State}
    (hw : s.pokeTuning k value = (u, true)) (hu : u.tuning = s.tuning.set k value.toNat) :
    exec (.pokeDataFrame bits) s = .next { u with link := { u.link.afterData run true value with
      snapshot := u.link.snapshotAfter 0 k.val } } := by
  rw [execPokeDataFrame_of_data h hp, State.takeDataAt_accepted ((s.pokeWrite_tuning k seq value).trans hw),
    State.readWord_written hu]

/-- A budget written by the link between passes, with no other write waiting: judged as the arbiter judges one (R165, R172,
log 13). -/
theorem execPoke_budget (h : s.TakesFrame bits value run) (hp : s.link.phase = .data 0 (0 : Fin 13).val 0 seq)
    (hw : s.pokeTuning 0 value = s.pokeBudget value.toNat) (hr : s.arbiter.requests = []) (hb : s.arbiter.budgetWrites = []) :
    (Table.grantedSum s.claims + Table.reductions s.claims ≤ value.toNat →
      exec (.pokeDataFrame bits) s =
        .next { s.tuningPoked 0 value run with arbiter := { s.arbiter with reports := s.arbiter.reports + 1 } }) ∧
    (value.toNat < Table.grantedSum s.claims + Table.reductions s.claims →
      exec (.pokeDataFrame bits) s = .next { s with link := s.link.afterData run false (s.readWord 0 0 0) }) := by
  unfold State.pokeBudget State.budgetFits at hw
  rw [State.settleArbiter_of_idle hr hb] at hw
  refine ⟨fun hfits => ?_, fun hover => ?_⟩
  · simp only [hfits, decide_true, if_true] at hw
    have happly : s.applyBudget value.toNat =
        { s.setTuning 0 value.toNat with arbiter := { s.arbiter with reports := s.arbiter.reports + 1 } } := by
      unfold State.applyBudget State.reportPass
      exact if_pos hr
    rw [happly] at hw
    exact execPoke_tuning h hp hw rfl
  · simp only [not_le.2 hover, decide_false, Bool.false_eq_true, if_false] at hw
    rw [execPokeDataFrame_of_data h hp, State.takeDataAt_refused ((s.pokeWrite_tuning 0 seq value).trans hw)]
    rfl

/-- A requirement written by the link: the cure evaluation, in the frame's event (R126, R165). -/
theorem execPoke_requirement (h : s.TakesFrame bits value run) (hp : s.link.phase = .data 0 k.val 0 seq)
    (hw : s.pokeTuning k value = ((s.setTuning k value.toNat).requirementsChanged, true)) :
    ∃ t, exec (.pokeDataFrame bits) s = .next t ∧ (s.tuningPoked k value run).BatchEvent t ∧
      t.batch = { s.batch with
        records := s.batch.records.map fun r => (s.tuningPoked k value run).credited r r.dose r.grind
        finished := t.batch.finished } ∧
      t.batch.FinishedFits ∧ s.CureNotices t ∧ s.PortsButNotices t ∧ s.PostsExactly t (fun n _ => s.CureNotice t n) := by
  obtain ⟨hevent, hbatch, hfits, hnotes⟩ := (s.setTuning k value.toNat).requirementsChanged_cures
  have hnotes : s.Notifies (s.setTuning k value.toNat).requirementsChanged _ := hnotes.congr rfl rfl
  have hexec := execPoke_tuning h hp hw (State.requirementsChanged_tuning _)
  generalize (s.setTuning k value.toNat).requirementsChanged = u at hevent hbatch hfits hnotes hexec
  refine ⟨_, hexec, ?_, hbatch, hfits, State.cureNotices_of_posted fun n q hn => hnotes.posted hn, hnotes.ports,
    hnotes.posts⟩
  unfold State.BatchEvent at hevent ⊢
  rw [hevent]
  rfl

end

/-! ## An accepted write of an annotation word (R127, R131, R136, R165) -/

/-- Crediting a record leaves its annotation alone (R123 to R125). -/
theorem State.credited_annotation (s : State) (r : BatchRecord) (dose grind : Nat) :
    (s.credited r dose grind).tag = r.tag ∧ (s.credited r dose grind).doseOverride = r.doseOverride ∧
      (s.credited r dose grind).grindOverride = r.grindOverride := ⟨rfl, rfl, rfl⟩

/-- An annotation word written by the link: the record annotated and judged, its reservations broken, and the latch (R165,
R166). -/
theorem execPoke_annotation {s : State} {bits : List Bool} {run : Nat} {value : Word} {entry w : Nat} {r x : BatchRecord}
    (h : s.TakesFrame bits value run) (hp : s.link.phase = .data 2 entry w (some r.seq))
    (hr : s.batch.records[entry]? = some r) (hx : r.poked w value = some x) :
    ∃ t, exec (.pokeDataFrame bits) s = .next t ∧
      t = { s with batch := t.batch, ports := t.ports, link := t.link } ∧ s.Annotated t entry x ∧
      s.Breaks t (fun _ n => n == r.seq) (fun _ => false) ∧ s.CureNotices t ∧ s.PortsButNotices t ∧
      s.PostsExactly t (fun n q => s.CureNotice t n ∨ s.LostNotice t n q) ∧
      t.link = { s.link.afterData run true value with
        snapshot := s.link.snapshotAfter 2 entry, touched := some (.batch entry r.seq) } := by
  have hpoked := hx
  rw [BatchRecord.poked_eq] at hx
  obtain ⟨write, hwrite, rfl⟩ := Option.map_eq_some_iff.1 hx
  obtain ⟨hevent, hannotated, hres, hnotes⟩ := State.annotate_annotates hr write fun _ n => n == r.seq
  have hexec := execPokeDataFrame_of_data h hp
  rw [State.takeDataAt_accepted ((s.pokeWrite_batch _ _ _ _).trans (State.pokeBatch_accepted hr hwrite))] at hexec
  generalize (s.annotate entry write fun _ n => n == r.seq) = u at hevent hannotated hres hnotes hexec
  obtain ⟨hrecord, hothers, hbatch, hfits, htouched⟩ := hannotated
  obtain ⟨htag, hdose, hgrind⟩ := s.credited_annotation (r.annotate write) (r.annotate write).dose (r.annotate write).grind
  have hword : u.readWord 2 entry w = value :=
    (State.readWord_batch hrecord w).trans (word_of_poked hpoked htag hdose hgrind entry)
  rw [hword] at hexec
  have hposts : s.PostsExactly u fun n q => s.CureNotice u n ∨ s.LostNotice u n q := fun n q =>
    (hnotes.posts n q).trans (or_congr_right (or_congr_right (and_congr_right fun _ => State.losesReservation_iff (hres q))))
  refine ⟨_, hexec, ?_, ⟨hrecord, hothers, hbatch, hfits, htouched⟩, fun q _ => ⟨fun n hn hit => ?_, fun hkept => ?_⟩,
    State.cureNotices_of_posted fun n q hn => (hposts n q).2 (.inr (.inl hn)), hnotes.ports, hposts, ?_⟩
  · unfold State.BatchEvent at hevent
    rw [hevent]
  · exact ⟨by rw [hres q, hn]; exact if_pos hit, (hnotes.posts _ q).2 (.inr (.inr ⟨rfl, n, hn, hit⟩))⟩
  · rw [hres q]
    cases hq : s.batch.reservations.get q with
    | intact n => exact if_neg (Bool.eq_false_iff.1 (hkept n hq))
    | none | broken n => rfl
  · have hlink : u.link = { s.link with touched := some (.batch entry r.seq) } := by
      have htouched : u.link.touched = some (.batch entry r.seq) := htouched
      rw [← htouched]
      unfold State.BatchEvent at hevent
      exact congrArg State.link hevent
    rw [hlink]
    rfl

/-- Settles O59. -/
theorem pokeWritesThroughTheOwner : Obligations.PokeWritesThroughTheOwner := by
  intro s bits run value hframe
  refine ⟨fun hnone => ?_, fun accepted => execVerifyFrame_of_verify hframe, fun table entry w seq hphase =>
    ⟨fun hrefused => ?_, fun k x ht he hw hlow hhigh hx => ?_, ?_⟩⟩
  · have hkind : s.link.phase.kindOf value = commandKind (frameCommand value) := by rw [hnone]; rfl
    obtain ⟨hdata, hverify⟩ := commandKind_ne (frameCommand value)
    exact ⟨takeFrame_other hframe (hkind ▸ hdata) s.takeData,
      takeFrame_other hframe (hkind ▸ hverify) fun _ => s.takeVerify⟩
  · rw [execPokeDataFrame_of_data hframe hphase, State.takeDataAt_refused (State.pokeWrite_refused hrefused)]
  · subst ht he hw
    obtain rfl : x = s.tuningPoked k value run := hx
    have hwrite := State.pokeTuning_in_range (s := s) hlow hhigh
    refine ⟨fun h0 h1 h3 h4 h11 => ?_, fun h0 hr hb => ?_, fun h1 => ?_, fun h34 => ?_, fun h11 => ?_⟩
    · rw [if_neg h0, State.writeTuning_plain h1 h3 h4 h11] at hwrite
      exact execPoke_tuning hframe hphase hwrite rfl
    · subst h0
      rw [if_pos rfl] at hwrite
      exact execPoke_budget hframe hphase hwrite hr hb
    · subst h1
      rw [if_neg (by decide)] at hwrite
      have hreport := State.reportPass_eq (s.setTuning 1 value.toNat)
      have hdue := State.reportPass_passDue (s.setTuning 1 value.toNat)
      have hrequests := State.reportPass_requests (s.setTuning 1 value.toNat)
      have hexec := execPoke_tuning hframe hphase hwrite (State.reportPass_tuning (s.setTuning 1 value.toNat))
      rw [show s.writeTuning 1 value.toNat = (s.setTuning 1 value.toNat).reportPass from rfl] at hexec
      generalize (s.setTuning 1 value.toNat).reportPass = u at hreport hdue hrequests hexec
      refine ⟨_, hexec, ?_, hdue, hrequests⟩
      rw [hreport]
      rfl
    · have h0 : k ≠ 0 := by rcases h34 with rfl | rfl <;> decide
      rw [if_neg h0, State.writeTuning_requirement s h34] at hwrite
      exact execPoke_requirement hframe hphase hwrite
    · subst h11
      rw [if_neg (by decide)] at hwrite
      exact execPoke_tuning hframe hphase hwrite rfl
  · rintro r x rfl hr rfl hx
    exact execPoke_annotation hframe hphase hr hx

end Sys2Proof.Machine
end

section
/-! The fields of the two parts of STATUS, each in its place (R55, R155, R173). -/

namespace Sys2Proof.Machine

/-! ## Flags and codes in one byte -/

theorem six_flags (a b c d e f : Bool) : ∀ y,
    y = (flagBit a 0 ||| flagBit b 1 ||| flagBit c 2 ||| flagBit d 3 ||| flagBit e 4 ||| flagBit f 5) →
    y.getLsbD 0 = a ∧ y.getLsbD 1 = b ∧ y.getLsbD 2 = c ∧ y.getLsbD 3 = d ∧ y.getLsbD 4 = e ∧ y.getLsbD 5 = f ∧
      y.extractLsb' 6 2 = 0 := by
  rintro _ rfl
  revert a b c d e f
  decide

/-- Four flags, with a number above them. -/
theorem four_flags_below_field (a b c d : Bool) (n : Nat) : ∀ y,
    y = (flagBit a 0 ||| flagBit b 1 ||| flagBit c 2 ||| flagBit d 3 ||| fieldAt n 4) →
    y.getLsbD 0 = a ∧ y.getLsbD 1 = b ∧ y.getLsbD 2 = c ∧ y.getLsbD 3 = d ∧ y.extractLsb' 4 4 = BitVec.ofNat 4 n := by
  rintro _ rfl
  obtain ⟨ha, hb, hc, hd, hzero⟩ := four_flags a b c d _ rfl
  generalize flagBit a 0 ||| flagBit b 1 ||| flagBit c 2 ||| flagBit d 3 = y at *
  have hlow : ∀ k, k < 4 → (y ||| fieldAt n 4).getLsbD k = y.getLsbD k := fun k hk => by
    simp [fieldAt, hk]
  refine ⟨by rw [hlow 0 (by decide), ha], by rw [hlow 1 (by decide), hb], by rw [hlow 2 (by decide), hc],
    by rw [hlow 3 (by decide), hd], ?_⟩
  apply BitVec.eq_of_getLsbD_eq
  intro k hk
  have hk' := congrArg (BitVec.getLsbD · k) hzero
  have h8 : 4 + k < 8 := by omega
  simp only [BitVec.getLsbD_extractLsb', hk, decide_true, Bool.true_and] at hk' ⊢
  rw [BitVec.getLsbD_or, hk', fieldAt, BitVec.getLsbD_shiftLeft, BitVec.getLsbD_ofNat, BitVec.getLsbD_ofNat]
  simp [hk, h8, show k < 8 by omega]

theorem Mix.code_place (m : Mix) (finished : Bool) :
    (m.code ||| flagBit finished 7).getLsbD 7 = finished ∧
      (m, (m.code ||| flagBit finished 7).extractLsb' 0 2) ∈ mixCodes ∧
      (m.code ||| flagBit finished 7).extractLsb' 2 5 = 0 := by
  cases m <;> cases finished <;> decide

/-- A trip cause is sent by its number, and none by zero (R55). -/
theorem firstCauseCode_fields (c : Option Cause) :
    (firstCauseCode c = 0 ↔ c = none) ∧ ∀ x, c = some x → (x, firstCauseCode c) ∈ causeCodes := by
  cases c with
  | none => exact ⟨by decide, nofun⟩
  | some c =>
    refine ⟨?_, ?_⟩
    · cases c <;> decide
    · rintro x ⟨rfl⟩
      cases c <;> decide

/-- Cause n of a set is bit n − 1 of its byte (R55). -/
theorem causeSet_byte (set : CauseSet) :
    ∀ x ∈ causeCodes, (set.setWidth 8).getLsbD (x.2.toNat - 1) = set.has x.1 := by
  have hbit : ∀ x ∈ causeCodes, x.2.toNat - 1 = x.1.bit ∧ x.1.bit < 8 := by decide
  intro x hx
  obtain ⟨hplace, hlt⟩ := hbit x hx
  unfold CauseSet.has
  rw [hplace, BitVec.getLsbD_setWidth, decide_eq_true hlt, Bool.true_and]

/-- The retired count stands above the high part of the dry run count. -/
theorem toNat_retired_dryRun {n d : Nat} (hn : n ≤ 6) (hd : d ≤ 600) :
    (fieldAt n 4 ||| BitVec.ofNat 8 (d / 256)).toNat = 16 * n + d / 256 := by
  have hhigh : d / 256 ≤ 2 := by omega
  generalize d / 256 = k at hhigh
  interval_cases n <;> interval_cases k <;> rfl

/-! ## STATUS (R155) -/

/-- Settles O24. -/
theorem statusCarriesItsFields : Obligations.StatusCarriesItsFields := by
  intro s
  obtain ⟨h0, h1, h2, h3, h4, h5, h6⟩ := six_flags s.interlock.secured s.interlock.lidClosed s.interlock.binIn
    (decide (s.interlock.latchCommand = .release)) s.interlock.feedbackEngaged s.interlock.haltLatch _ rfl
  obtain ⟨hnone, hsome⟩ := firstCauseCode_fields s.interlock.firstCause
  obtain ⟨hfinished, hmix, hzero⟩ := s.batch.mix.code_place s.batch.finished
  obtain ⟨k0, k1, k2, k3, k4⟩ := four_flags_below_field s.sensors.plate.faulted s.sensors.air.faulted
    s.sensors.humidityFault s.sensors.loadFault s.batch.records.length _ rfl
  exact ⟨rfl, h0, h1, h2, h3, h4, h5, h6, rfl, causeSet_byte _, hnone, hsome, hfinished, hmix, hzero, half_bytes _,
    half_bytes _, half_bytes _, word_bytes _, rfl, half_bytes _, half_bytes _, rfl, half_bytes _, k0, k1, k2, k3, k4,
    word_bytes _, fun hn hd => ⟨toNat_retired_dryRun hn hd, BitVec.toNat_ofNat _ _⟩⟩

end Sys2Proof.Machine
end

section
/-! The interlock and trip unit's two laws, operation by operation (R49, R55, R56, R58, R60, R61, R63, R64): a cause raised
or no longer active, the disagreement judged afresh, the secured condition derived, the latch command, the halt cleared. -/

namespace Sys2Proof.Machine

/-! ## Sets of causes -/

/-- Two sets with the same causes are the same. -/
theorem CauseSet.eq_of_has {a b : CauseSet} (h : ∀ c, a.has c = b.has c) : a = b := by
  apply BitVec.eq_of_getLsbD_eq
  intro k hk
  have hbit : ∃ c : Cause, c.bit = k := by
    have hall : ∀ k : Fin 7, ∃ c ∈ [Cause.overheat, .cutout, .thermalSensor, .lidForced, .latchFault, .jam, .rotorSensor],
        c.bit = k := by decide
    obtain ⟨c, -, hc⟩ := hall ⟨k, hk⟩
    exact ⟨c, hc⟩
  obtain ⟨c, rfl⟩ := hbit
  exact h c

/-- A set lies within another when each of its causes does. -/
theorem CauseSet.and_eq_left_iff {a b : CauseSet} : a &&& b = a ↔ ∀ c, a.has c = true → b.has c = true := by
  have hand : ∀ c, CauseSet.has (a &&& b) c = (a.has c && b.has c) := fun c => BitVec.getLsbD_and
  constructor
  · intro h c hc
    rw [← h, hand, Bool.and_eq_true] at hc
    exact hc.2
  · intro h
    refine CauseSet.eq_of_has fun c => ?_
    rw [hand]
    cases ha : a.has c with
    | false => rfl
    | true => rw [h c ha]; rfl

theorem CauseSet.insert_ne_zero (a : CauseSet) (c : Cause) : a.insert c ≠ 0 := fun h => by
  have hc : (a.insert c).has c = true := by simp [CauseSet.has_insert]
  rw [h, show CauseSet.has 0 c = false from CauseSet.has_zero c] at hc
  cases hc

/-! ## The halt law (R56, R63, R64) -/

/-- Fewer causes active keep the halt law (R56). -/
theorem Interlock.HaltLawful.of_active {u v : Interlock} (h : u.HaltLawful) (hc : v.causes = u.causes)
    (hf : v.firstCause = u.firstCause) (hl : v.haltLatch = u.haltLatch)
    (ha : ∀ c, v.active.has c = true → u.active.has c = true) : v.HaltLawful := by
  obtain ⟨hset, hfirst, hmember, hinside, hjam, hsensor⟩ := h
  rw [CauseSet.and_eq_left_iff] at hinside
  unfold Interlock.HaltLawful
  rw [hc, hf, hl, CauseSet.and_eq_left_iff]
  refine ⟨hset, hfirst, hmember, fun c hv => hinside c (ha c hv), ?_, ?_⟩ <;> rw [← Bool.not_eq_true]
  · exact fun hv => by rw [ha _ hv] at hjam; cases hjam
  · exact fun hv => by rw [ha _ hv] at hsensor; cases hsensor

/-- A trip event keeps the halt law, for a cause that is active or is never so (R56, R63, R64). -/
theorem Interlock.haltLawful_tripped {u : Interlock} (h : u.HaltLawful) {c : Cause} {set : CauseSet}
    (hset : ∀ d, set.has d = true → u.active.has d = true ∨ (d = c ∧ c.momentary = false)) :
    (({ u with active := set } : Interlock).tripped c).HaltLawful := by
  obtain ⟨-, hfirst, hmember, hinside, hjam, hsensor⟩ := h
  rw [CauseSet.and_eq_left_iff] at hinside
  have hmomentary : ∀ d : Cause, d.momentary = true → u.active.has d = false → set.has d = false := fun d hd hu => by
    rw [← Bool.not_eq_true]
    intro hs
    rcases hset d hs with ha | ⟨rfl, hc⟩
    · rw [hu] at ha; cases ha
    · rw [hd] at hc; cases hc
  refine ⟨iff_of_true rfl (CauseSet.insert_ne_zero _ _), ?_, fun d hd => ?_, CauseSet.and_eq_left_iff.2 fun d hd => ?_,
    hmomentary .jam rfl hjam, hmomentary .rotorSensor rfl hsensor⟩
  · cases hl : u.haltLatch with
    | false => simp [Interlock.tripped]
    | true => simp [Interlock.tripped, hl, hfirst]
  · show (u.causes.insert c).has d = true
    rw [CauseSet.has_insert, Bool.or_eq_true, decide_eq_true_eq]
    cases hl : u.haltLatch with
    | false =>
      simp only [Interlock.tripped, hl] at hd
      exact .inr (Option.some.inj hd)
    | true =>
      simp only [Interlock.tripped, hl] at hd
      exact .inl (hmember d hd)
  · show (u.causes.insert c).has d = true
    rw [CauseSet.has_insert, Bool.or_eq_true, decide_eq_true_eq]
    exact (hset d hd).imp (hinside d) fun hdc => hdc.1.symm

theorem Interlock.haltLawful_raised {u : Interlock} (h : u.HaltLawful) {c : Cause} (hc : c.momentary = false) :
    (u.raised c).HaltLawful := by
  unfold Interlock.raised
  split
  · exact h
  · refine Interlock.haltLawful_tripped h fun d hd => ?_
    rw [CauseSet.has_insert, Bool.or_eq_true, decide_eq_true_eq] at hd
    exact hd.imp_right fun hcd => ⟨hcd.symm, hc⟩

/-- JAM and ROTOR_SENSOR trip without an active flag (R56). -/
theorem Interlock.haltLawful_tripped_momentary {u : Interlock} (h : u.HaltLawful) (c : Cause) : (u.tripped c).HaltLawful :=
  Interlock.haltLawful_tripped h (set := u.active) fun _ hd => .inl hd

theorem Interlock.haltLawful_deactivated {u : Interlock} (h : u.HaltLawful) (c : Cause) : (u.deactivated c).HaltLawful :=
  h.of_active rfl rfl rfl fun d hd => by
    have hd : (u.active.erase c).has d = true := hd
    rw [CauseSet.has_erase, Bool.and_eq_true] at hd
    exact hd.1

theorem Interlock.judgeDisagreement_active (u : Interlock) (now : Nat) (c : Cause) :
    (u.judgeDisagreement now).active.has c = (u.active.has c && (u.disagrees || decide (c ≠ .latchFault))) := by
  unfold Interlock.judgeDisagreement
  cases u.disagrees with
  | true => simp
  | false => simp [CauseSet.has_erase, eq_comm]

theorem Interlock.haltLawful_judgeDisagreement {u : Interlock} (h : u.HaltLawful) (now : Nat) :
    (u.judgeDisagreement now).HaltLawful :=
  h.of_active rfl rfl rfl fun c hc => by
    rw [Interlock.judgeDisagreement_active, Bool.and_eq_true] at hc
    exact hc.1

/-- With no cause of the set active the cleared halt is lawful (R67). -/
theorem Interlock.haltLawful_clearHalt {u : Interlock} (h : u.HaltLawful) (ha : u.causes &&& u.active = 0) :
    u.clearHalt.HaltLawful := by
  obtain ⟨-, -, -, hinside, hjam, hsensor⟩ := h
  refine ⟨iff_of_false nofun (not_not.2 rfl), iff_of_true rfl rfl, nofun, ?_, hjam, hsensor⟩
  rw [BitVec.and_comm, hinside] at ha
  show u.active &&& 0 = u.active
  rw [ha]
  rfl

/-! ## The input law (R49, R58, R60, R61) -/

/-- What the input law says of the switches and the cutout line (R49, R58, R60). -/
structure Interlock.SwitchLawful (u : Interlock) : Prop where
  secured : u.secured = u.securedWanted
  cutout : u.active.has .cutout = true ↔ u.cutoutClosed = false
  forced : u.active.has .lidForced = true → u.secured = false

/-- What the input law says of the latch feedback (R61). -/
structure Interlock.FeedbackLawful (u : Interlock) : Prop where
  timer : u.disagreement ≠ none → u.lidClosed = true ∧ u.disagrees = true
  judged : u.lidClosed = true → u.disagrees = true → u.disagreement ≠ none ∨ u.active.has .latchFault = true
  fault : u.active.has .latchFault = true → u.disagrees = true

theorem Interlock.inputLawful_iff (u : Interlock) : u.InputLawful ↔ u.SwitchLawful ∧ u.FeedbackLawful := by
  constructor
  · rintro ⟨hsecured, hcutout, htimer, hjudged, hfault, hforced⟩
    exact ⟨⟨hsecured, hcutout, hforced⟩, ⟨htimer, hjudged, hfault⟩⟩
  · rintro ⟨⟨hsecured, hcutout, hforced⟩, ⟨htimer, hjudged, hfault⟩⟩
    exact ⟨hsecured, hcutout, htimer, hjudged, hfault, hforced⟩

/-- The feedback's part of the law is of the lid, the feedback, the command, the timer and LATCH_FAULT alone (R61). -/
theorem Interlock.FeedbackLawful.of_same {u v : Interlock} (h : u.FeedbackLawful) (hd : v.disagreement = u.disagreement)
    (hl : v.lidClosed = u.lidClosed) (hg : v.disagrees = u.disagrees)
    (ha : v.active.has .latchFault = u.active.has .latchFault) : v.FeedbackLawful := by
  obtain ⟨htimer, hjudged, hfault⟩ := h
  exact ⟨by rwa [hd, hl, hg], by rwa [hd, hl, hg, ha], by rwa [hg, ha]⟩

/-- The disagreement judged afresh is lawful whatever it was (R61). -/
theorem Interlock.feedbackLawful_judgeDisagreement (u : Interlock) (now : Nat) :
    (u.judgeDisagreement now).FeedbackLawful := by
  have hdisagrees : (u.judgeDisagreement now).disagrees = u.disagrees := rfl
  refine ⟨?_, fun hlid hd => .inl ?_, fun ha => ?_⟩
  · rw [hdisagrees]
    unfold Interlock.judgeDisagreement
    simp
  · rw [hdisagrees] at hd
    have hlid : u.lidClosed = true := hlid
    simp [Interlock.judgeDisagreement, hlid, hd]
  · rw [Interlock.judgeDisagreement_active, Bool.and_eq_true] at ha
    rw [hdisagrees]
    simpa using ha.2

theorem Interlock.inputLawful_judgeDisagreement {u : Interlock} (h : u.SwitchLawful) (now : Nat) :
    (u.judgeDisagreement now).InputLawful := by
  obtain ⟨hsecured, hcutout, hforced⟩ := h
  refine (Interlock.inputLawful_iff _).2 ⟨⟨hsecured, ?_, fun ha => hforced ?_⟩, u.feedbackLawful_judgeDisagreement now⟩
  · rw [Interlock.judgeDisagreement_active, show (u.judgeDisagreement now).cutoutClosed = u.cutoutClosed from rfl]
    simpa using hcutout
  · rw [Interlock.judgeDisagreement_active] at ha
    simpa using ha

/-- A cause raised is active after it, and no other flag moves (R55, R56). -/
theorem Interlock.raised_active (u : Interlock) (c d : Cause) :
    (u.raised c).active.has d = (u.active.has d || decide (c = d)) := by
  unfold Interlock.raised
  split
  next h =>
    by_cases hcd : c = d
    · rw [← hcd, h]; rfl
    · simp [hcd]
  next => exact CauseSet.has_insert _ _ _

/-- A raising reaches the set, the first cause, the halt latch and the active flags alone. -/
theorem Interlock.raised_eq (u : Interlock) (c : Cause) : u.raised c =
    { u with
      active := (u.raised c).active, causes := (u.raised c).causes, firstCause := (u.raised c).firstCause
      haltLatch := (u.raised c).haltLatch } := by
  unfold Interlock.raised
  split <;> rfl

theorem Interlock.raised_disagrees (u : Interlock) (c : Cause) : (u.raised c).disagrees = u.disagrees := by
  rw [Interlock.raised_eq]
  rfl

theorem Interlock.switchLawful_raised {u : Interlock} (h : u.SwitchLawful) {c : Cause}
    (hcut : c = .cutout → u.cutoutClosed = false) (hforced : c = .lidForced → u.secured = false) :
    (u.raised c).SwitchLawful := by
  obtain ⟨ks, kc, kf⟩ := h
  have hactive := u.raised_active c
  have heq := u.raised_eq c
  generalize (u.raised c) = v at hactive heq ⊢
  rw [heq]
  refine ⟨ks, ?_, ?_⟩
  · show v.active.has .cutout = true ↔ u.cutoutClosed = false
    rw [hactive, Bool.or_eq_true, decide_eq_true_eq, kc]
    exact ⟨fun h => h.elim id hcut, .inl⟩
  · show v.active.has .lidForced = true → u.secured = false
    rw [hactive, Bool.or_eq_true, decide_eq_true_eq]
    exact fun h => h.elim kf hforced

theorem Interlock.feedbackLawful_raised {u : Interlock} (h : u.FeedbackLawful) {c : Cause} (hc : c ≠ .latchFault) :
    (u.raised c).FeedbackLawful := by
  refine h.of_same ?_ ?_ (u.raised_disagrees c) (by rw [Interlock.raised_active]; simp [hc])
  all_goals rw [Interlock.raised_eq]

theorem Interlock.inputLawful_raised {u : Interlock} (h : u.InputLawful) {c : Cause} (hcut : c ≠ .cutout)
    (hforced : c ≠ .lidForced) (hfault : c ≠ .latchFault) : (u.raised c).InputLawful := by
  obtain ⟨hs, hf⟩ := (Interlock.inputLawful_iff u).1 h
  exact (Interlock.inputLawful_iff _).2 ⟨Interlock.switchLawful_raised hs (absurd · hcut) (absurd · hforced),
    Interlock.feedbackLawful_raised hf hfault⟩

theorem Interlock.inputLawful_deactivated {u : Interlock} (h : u.InputLawful) {c : Cause} (hcut : c ≠ .cutout)
    (hfault : c ≠ .latchFault) : (u.deactivated c).InputLawful := by
  obtain ⟨⟨hsecured, hcutout, hforced⟩, hf⟩ := (Interlock.inputLawful_iff u).1 h
  have hactive : ∀ d, (u.deactivated c).active.has d = (u.active.has d && decide (c ≠ d)) := CauseSet.has_erase _ _
  refine (Interlock.inputLawful_iff _).2 ⟨⟨hsecured, ?_, fun ha => hforced ?_⟩, hf.of_same rfl rfl rfl ?_⟩
  · rw [hactive, show (u.deactivated c).cutoutClosed = u.cutoutClosed from rfl]
    simpa [hcut] using hcutout
  · rw [hactive, Bool.and_eq_true] at ha
    exact ha.1
  · rw [hactive]
    simp [hfault]

/-! ## The secured condition (R49, R51) -/

/-- The unit with the secured condition that its switch copies give, as the state derives it (R49, R50, R51). -/
def Interlock.derived (u : Interlock) : Interlock :=
  if u.securedWanted = u.secured then u
  else if u.securedWanted then { u with secured := true, active := u.active.erase .lidForced }
  else { u with secured := false }

theorem State.securedGained_interlock (s : State) : s.securedGained.interlock =
    { s.interlock with secured := true, active := s.interlock.active.erase .lidForced } := by
  rw [show s.securedGained = s.gained s.interlock from s.securedGained_eq s.interlock, State.gained_interlock]
  rfl

theorem State.securedLost_interlock (s : State) : s.securedLost.interlock = { s.interlock with secured := false } := by
  unfold State.securedLost
  rw [State.handSecured_interlock, State.holdAll_interlock]

theorem State.deriveSecured_interlock (s : State) : s.deriveSecured.interlock = s.interlock.derived := by
  unfold State.deriveSecured Interlock.derived
  split
  · rfl
  · split
    · exact s.securedGained_interlock
    · exact s.securedLost_interlock

/-- The derived unit: secured as its switch copies say, and nothing else moved but LID_FORCED (R49, R51). -/
theorem Interlock.derived_eq (u : Interlock) :
    u.derived = { u with secured := u.securedWanted, active := u.derived.active } := by
  unfold Interlock.derived
  split
  next h => rw [h]
  next h =>
    split
    next hw => rw [hw]
    next hw => rw [Bool.not_eq_true] at hw; rw [hw]

theorem Interlock.derived_active (u : Interlock) (c : Cause) :
    u.derived.active.has c =
      (u.active.has c && !(decide (c = .lidForced) && u.securedWanted && !u.secured)) := by
  unfold Interlock.derived
  split
  next h => rw [h]; cases u.secured <;> simp
  next h =>
    split
    next hw =>
      have hs : u.secured = false := by simpa [hw] using h
      rw [CauseSet.has_erase, hw, hs]
      simp [eq_comm]
    next hw => simp [hw]

/-- The unit is switch-lawful once the secured condition is derived from the switches (R49, R60). -/
theorem Interlock.switchLawful_derived {u : Interlock} (hc : u.active.has .cutout = true ↔ u.cutoutClosed = false)
    (hf : u.active.has .lidForced = true → u.secured = false) : u.derived.SwitchLawful := by
  have hactive := u.derived_active
  rw [Interlock.derived_eq]
  refine ⟨rfl, ?_, ?_⟩
  · show u.derived.active.has .cutout = true ↔ u.cutoutClosed = false
    rw [hactive]
    simpa using hc
  · show u.derived.active.has .lidForced = true → u.securedWanted = false
    rw [hactive]
    intro h
    obtain ⟨ha, hn⟩ := (Bool.and_eq_true _ _).mp h
    simpa [hf ha] using hn

theorem Interlock.feedbackLawful_derived {u : Interlock} (h : u.FeedbackLawful) : u.derived.FeedbackLawful := by
  refine h.of_same ?_ ?_ ?_ (by rw [Interlock.derived_active]; simp)
  all_goals rw [Interlock.derived_eq]
  rfl

theorem Interlock.haltLawful_derived {u : Interlock} (h : u.HaltLawful) : u.derived.HaltLawful := by
  refine h.of_active ?_ ?_ ?_ fun c hc => ?_
  · rw [Interlock.derived_eq]
  · rw [Interlock.derived_eq]
  · rw [Interlock.derived_eq]
  · rw [Interlock.derived_active, Bool.and_eq_true] at hc
    exact hc.1

/-! ## Both laws kept -/

/-- From the first unit to the second the unit's two laws are kept. -/
structure Interlock.Keeps (u v : Interlock) : Prop where
  halt : u.HaltLawful → v.HaltLawful
  input : u.InputLawful → v.InputLawful

theorem Interlock.Keeps.refl (u : Interlock) : u.Keeps u := ⟨id, id⟩

theorem Interlock.Keeps.of_eq {u v : Interlock} (h : v = u) : u.Keeps v := h ▸ .refl u

theorem Interlock.Keeps.trans {u v w : Interlock} (h : u.Keeps v) (k : v.Keeps w) : u.Keeps w :=
  ⟨k.halt ∘ h.halt, k.input ∘ h.input⟩

/-- A change of the latch command, with the disagreement judged afresh (R53, R61). -/
theorem State.keeps_setLatchCommand (s : State) (k : LatchCommand) :
    s.interlock.Keeps (s.setLatchCommand k).interlock := by
  unfold State.setLatchCommand
  split
  · exact .refl _
  · refine ⟨fun h => Interlock.haltLawful_judgeDisagreement (u := { s.interlock with latchCommand := k }) h _, fun h => ?_⟩
    obtain ⟨⟨hsecured, hcutout, hforced⟩, -⟩ := (Interlock.inputLawful_iff _).1 h
    exact Interlock.inputLawful_judgeDisagreement (u := { s.interlock with latchCommand := k })
      ⟨hsecured, hcutout, hforced⟩ _

/-- The end of an event reaches the unit by the latch command alone (R53). -/
theorem State.keeps_conclude (u old : State) : u.interlock.Keeps (u.conclude old).interlock := by
  rw [State.conclude_interlock, State.followLatch_interlock]
  exact u.keeps_setLatchCommand _

theorem State.raise_interlock {c : Cause} (hc : c.momentary = false) (s : State) :
    (s.raise c).interlock = s.interlock.raised c := by
  unfold State.raise State.isActive Interlock.raised
  rw [hc, if_neg Bool.false_ne_true]
  split
  · rfl
  · exact State.tripEvent_interlock _ c

theorem State.keeps_raise {c : Cause} (hm : c.momentary = false) (hcut : c ≠ .cutout) (hforced : c ≠ .lidForced)
    (hfault : c ≠ .latchFault) (s : State) : s.interlock.Keeps (s.raise c).interlock := by
  rw [State.raise_interlock hm]
  exact ⟨fun h => Interlock.haltLawful_raised h hm, fun h => Interlock.inputLawful_raised h hcut hforced hfault⟩

/-- JAM and ROTOR_SENSOR move no input and no active flag (R56). -/
theorem State.keeps_raise_momentary {c : Cause} (hm : c.momentary = true) (s : State) :
    s.interlock.Keeps (s.raise c).interlock := by
  unfold State.raise
  rw [if_pos hm, State.tripEvent_interlock]
  exact ⟨fun h => Interlock.haltLawful_tripped_momentary h c, id⟩

theorem State.keeps_deactivate {c : Cause} (hcut : c ≠ .cutout) (hfault : c ≠ .latchFault) (s : State) :
    s.interlock.Keeps (s.deactivate c).interlock :=
  ⟨fun h => Interlock.haltLawful_deactivated h c, fun h => Interlock.inputLawful_deactivated h hcut hfault⟩

/-! ## The inputs (R49, R58, R60, R61) -/

/-- LID_FORCED raised by a switch that opens under the command ENGAGE (R60). -/
def Interlock.forcedBy (u : Interlock) (opened : Bool) : Interlock :=
  if opened && decide (u.latchCommand = .engage) then u.raised .lidForced else u

theorem State.judgeForced_interlock (s : State) (opened : Bool) :
    (s.judgeForced opened).interlock = s.interlock.forcedBy opened := by
  unfold State.judgeForced Interlock.forcedBy
  split
  · exact State.raise_interlock rfl s
  · rfl

theorem Interlock.haltLawful_forcedBy {u : Interlock} (h : u.HaltLawful) (opened : Bool) :
    (u.forcedBy opened).HaltLawful := by
  unfold Interlock.forcedBy
  split
  · exact Interlock.haltLawful_raised h rfl
  · exact h

/-- A switch that opens leaves the chamber not secured, so LID_FORCED may be active (R49, R60). -/
theorem Interlock.switchLawful_forcedBy {u : Interlock} (h : u.SwitchLawful) {opened : Bool}
    (ho : opened = true → u.securedWanted = false) : (u.forcedBy opened).SwitchLawful := by
  unfold Interlock.forcedBy
  split
  next hf =>
    simp only [Bool.and_eq_true] at hf
    exact Interlock.switchLawful_raised h (by simp) fun _ => h.secured.trans (ho hf.1)
  next => exact h

theorem Interlock.feedbackLawful_forcedBy {u : Interlock} (h : u.FeedbackLawful) (opened : Bool) :
    (u.forcedBy opened).FeedbackLawful := by
  unfold Interlock.forcedBy
  split
  · exact Interlock.feedbackLawful_raised h (by decide)
  · exact h

theorem Interlock.derived_securedWanted (u : Interlock) : u.derived.securedWanted = u.securedWanted := by
  rw [Interlock.derived_eq]
  rfl

/-- A change of the lid switch (R49, R60, R61). -/
theorem Interlock.keeps_lidChange (u : Interlock) (closed : Bool) (now : Nat) :
    u.Keeps ((({ u with lidClosed := closed } : Interlock).derived.forcedBy (!closed)).judgeDisagreement now) := by
  refine ⟨fun h => ?_, fun h => ?_⟩
  · exact Interlock.haltLawful_judgeDisagreement
      (Interlock.haltLawful_forcedBy (Interlock.haltLawful_derived (u := { u with lidClosed := closed }) h) _) _
  · obtain ⟨⟨-, hcut, hforced⟩, -⟩ := (Interlock.inputLawful_iff _).1 h
    refine Interlock.inputLawful_judgeDisagreement (Interlock.switchLawful_forcedBy
      (Interlock.switchLawful_derived (u := { u with lidClosed := closed }) hcut hforced) fun ho => ?_) _
    rw [Interlock.derived_securedWanted]
    simp only [Bool.not_eq_true'] at ho
    simp [Interlock.securedWanted, ho]

/-- A change of the bin switch (R49, R60). -/
theorem Interlock.keeps_binChange (u : Interlock) (closed : Bool) :
    u.Keeps (({ u with binIn := closed } : Interlock).derived.forcedBy (!closed)) := by
  refine ⟨fun h => ?_, fun h => ?_⟩
  · exact Interlock.haltLawful_forcedBy (Interlock.haltLawful_derived (u := { u with binIn := closed }) h) _
  · obtain ⟨⟨-, hcut, hforced⟩, hfeedback⟩ := (Interlock.inputLawful_iff _).1 h
    refine (Interlock.inputLawful_iff _).2 ⟨Interlock.switchLawful_forcedBy
      (Interlock.switchLawful_derived (u := { u with binIn := closed }) hcut hforced) fun ho => ?_,
      Interlock.feedbackLawful_forcedBy (Interlock.feedbackLawful_derived
        (hfeedback.of_same (v := { u with binIn := closed }) rfl rfl rfl rfl)) _⟩
    rw [Interlock.derived_securedWanted]
    simp only [Bool.not_eq_true'] at ho
    simp [Interlock.securedWanted, ho]

/-- A change of the latch feedback (R49, R61). -/
theorem Interlock.keeps_feedbackChange (u : Interlock) (engaged : Bool) (now : Nat) :
    u.Keeps (({ u with feedbackEngaged := engaged } : Interlock).derived.judgeDisagreement now) := by
  refine ⟨fun h => ?_, fun h => ?_⟩
  · exact Interlock.haltLawful_judgeDisagreement
      (Interlock.haltLawful_derived (u := { u with feedbackEngaged := engaged }) h) _
  · obtain ⟨⟨-, hcut, hforced⟩, -⟩ := (Interlock.inputLawful_iff _).1 h
    exact Interlock.inputLawful_judgeDisagreement
      (Interlock.switchLawful_derived (u := { u with feedbackEngaged := engaged }) hcut hforced) _

/-- The cutout line closes: CUTOUT is no longer active (R58). -/
theorem Interlock.keeps_cutoutClosed (u : Interlock) :
    u.Keeps (({ u with cutoutClosed := true } : Interlock).deactivated .cutout) := by
  refine ⟨fun h => Interlock.haltLawful_deactivated (u := { u with cutoutClosed := true }) h .cutout, fun h => ?_⟩
  obtain ⟨⟨hsecured, -, hforced⟩, hfeedback⟩ := (Interlock.inputLawful_iff _).1 h
  have hactive : ∀ d, (({ u with cutoutClosed := true } : Interlock).deactivated .cutout).active.has d =
      (u.active.has d && decide (.cutout ≠ d)) := CauseSet.has_erase _ _
  refine (Interlock.inputLawful_iff _).2 ⟨⟨hsecured, ?_, fun ha => hforced ?_⟩,
    hfeedback.of_same rfl rfl rfl ((hactive _).trans (by simp))⟩
  · rw [hactive]
    simp [Interlock.deactivated]
  · rw [hactive] at ha
    simpa using ha

/-- The cutout line opens: CUTOUT is active (R58). -/
theorem Interlock.keeps_cutoutOpened (u : Interlock) :
    u.Keeps (({ u with cutoutClosed := false } : Interlock).raised .cutout) := by
  refine ⟨fun h => Interlock.haltLawful_raised (u := { u with cutoutClosed := false }) h rfl, fun h => ?_⟩
  obtain ⟨⟨hsecured, -, hforced⟩, hfeedback⟩ := (Interlock.inputLawful_iff _).1 h
  have hactive := Interlock.raised_active { u with cutoutClosed := false } .cutout
  have heq := Interlock.raised_eq { u with cutoutClosed := false } .cutout
  have hf := Interlock.feedbackLawful_raised (c := .cutout)
    (hfeedback.of_same (v := { u with cutoutClosed := false }) rfl rfl rfl rfl) (by decide)
  generalize Interlock.raised { u with cutoutClosed := false } .cutout = v at *
  refine (Interlock.inputLawful_iff _).2 ⟨?_, hf⟩
  rw [heq]
  refine ⟨hsecured, iff_of_true ((hactive .cutout).trans (by simp)) rfl, fun ha => hforced ?_⟩
  simpa using (hactive .lidForced).symm.trans ha

/-- The disagreement timer ends, and LATCH_FAULT is active in its place (R61). -/
theorem Interlock.keeps_disagreementOver (u : Interlock) (hrun : u.disagreement ≠ none) :
    u.Keeps (({ u with disagreement := none } : Interlock).raised .latchFault) := by
  refine ⟨fun h => Interlock.haltLawful_raised (u := { u with disagreement := none }) h rfl, fun h => ?_⟩
  obtain ⟨⟨hsecured, hcut, hforced⟩, ⟨htimer, -, -⟩⟩ := (Interlock.inputLawful_iff _).1 h
  have hswitch := Interlock.switchLawful_raised (c := .latchFault)
    (u := { u with disagreement := none }) ⟨hsecured, hcut, hforced⟩ (by simp) (by simp)
  have hdisagrees := Interlock.raised_disagrees { u with disagreement := none } .latchFault
  have hnone : (({ u with disagreement := none } : Interlock).raised .latchFault).disagreement = none := by
    rw [Interlock.raised_eq]
  refine (Interlock.inputLawful_iff _).2 ⟨hswitch, fun hd => absurd hnone hd, fun _ _ => .inr ?_, fun _ => ?_⟩
  · rw [Interlock.raised_active]
    simp
  · rw [hdisagrees]
    exact (htimer hrun).2

end Sys2Proof.Machine
end

section
/-! The drive law of the rotor monitor (R87, R89), operation by operation: the output and the rest that follows it, the
drive modes and the jog phases, and what a pulse leaves of them. -/

namespace Sys2Proof.Machine

/-! ## A change of the output (R87) -/

@[simp] theorem Rotor.setOutput_output (r : Rotor) (now : Nat) (o : Direction) : (r.setOutput now o).output = o := by
  unfold Rotor.setOutput
  split
  next h => exact h.symm
  next =>
    split
    · rfl
    · split <;> rfl

@[simp] theorem Rotor.setOutput_period (r : Rotor) (now : Nat) (o : Direction) :
    (r.setOutput now o).period = r.period := by
  unfold Rotor.setOutput
  (repeat' split) <;> rfl

@[simp] theorem Rotor.setOutput_setting (r : Rotor) (now : Nat) (o : Direction) :
    (r.setOutput now o).setting = r.setting := by
  unfold Rotor.setOutput
  (repeat' split) <;> rfl

/-- The rest timer runs only with the output OFF, and at rest the output is OFF and the period absent (R87). -/
abbrev Rotor.RestLawful (r : Rotor) : Prop :=
  (r.restTimer ≠ none → r.output = .off) ∧ (r.atRest = true → r.output = .off ∧ r.period = none)

theorem Rotor.restLawful_setOutput {r : Rotor} (h : r.RestLawful) (now : Nat) (o : Direction) :
    (r.setOutput now o).RestLawful := by
  obtain ⟨htimer, hrest⟩ := h
  unfold Rotor.setOutput
  split
  · exact ⟨htimer, hrest⟩
  · split
    next ho => exact ⟨fun _ => ho, fun ha => ⟨ho, (hrest ha).2⟩⟩
    next ho =>
      split
      next hoff => exact ⟨fun ht => absurd rfl ht, nofun⟩
      next hoff => exact ⟨fun ht => absurd (htimer ht) hoff, fun ha => absurd (hrest ha).1 hoff⟩

/-- A change of the output with the drive mode and the jog phase that ask for it (R87, R89). -/
theorem Rotor.DriveLawful.of_output {r x : Rotor} (h : r.DriveLawful) (now : Nat) (o : Direction)
    (ho : x.output = (r.setOutput now o).output) (ht : x.restTimer = (r.setOutput now o).restTimer)
    (ha : x.atRest = (r.setOutput now o).atRest) (hp : x.period = r.period ∨ x.period = none)
    (hs : x.setting = r.setting) (hw : x.outputWanted = o) (hj : x.jogPhase = .none ↔ x.mode ≠ .jogging) :
    x.DriveLawful := by
  obtain ⟨-, -, hdir, hrest⟩ := h
  obtain ⟨htimer, hat⟩ := Rotor.restLawful_setOutput hrest now o
  refine ⟨?_, hj, hs ▸ hdir, fun k => ?_, fun k => ?_⟩
  · rw [ho, hw, Rotor.setOutput_output]
  · rw [ho]
    exact htimer (ht ▸ k)
  · obtain ⟨hoff, hnone⟩ := hat (ha ▸ k)
    rw [Rotor.setOutput_period] at hnone
    exact ⟨ho.trans hoff, hp.elim (·.trans hnone) id⟩

/-- With the drive IDLE the output is OFF (R89). -/
theorem Rotor.DriveLawful.output_of_idle {r : Rotor} (h : r.DriveLawful) (hm : r.mode = .idle) : r.output = .off := by
  obtain ⟨ho, -⟩ := h
  rw [ho]
  unfold Rotor.outputWanted
  rw [hm]

/-! ## The drive modes (R89, R92, R93) -/

theorem Rotor.driveLawful_stop {r : Rotor} (h : r.DriveLawful) (now : Nat) : (r.stop now).DriveLawful := by
  unfold Rotor.stop
  split
  · exact h
  · exact h.of_output now .off rfl rfl rfl (.inl (by simp)) (by simp) rfl (iff_of_true rfl nofun)

theorem Rotor.driveLawful_drive {r : Rotor} (h : r.DriveLawful) (now : Nat) : (r.drive now).DriveLawful :=
  h.of_output now r.setting.direction rfl rfl rfl (.inr rfl) (by simp [Rotor.drive, Rotor.startGrace])
    (by simp [Rotor.drive, Rotor.startGrace, Rotor.outputWanted]) (iff_of_true rfl nofun)

theorem Rotor.driveLawful_beginOffPhase {r : Rotor} (h : r.DriveLawful) (now : Nat) :
    (r.beginOffPhase now).DriveLawful :=
  h.of_output now .off rfl rfl rfl (.inl (by simp [Rotor.beginOffPhase])) (by simp [Rotor.beginOffPhase]) rfl
    (iff_of_true rfl nofun)

theorem Rotor.driveLawful_startJog {r : Rotor} (h : r.DriveLawful) (now : Nat) : (r.startJog now).DriveLawful :=
  h.of_output now .off rfl rfl rfl (.inl (by simp [Rotor.startJog])) (by simp [Rotor.startJog]) rfl
    (iff_of_false nofun (not_not.2 rfl))

/-- The next phase of a jog has the output that R93 gives it. -/
theorem Rotor.driveLawful_nextPhase {r : Rotor} (h : r.DriveLawful) (hm : r.mode = .jogging) (now : Nat) :
    (r.nextPhase now).DriveLawful := by
  have hmode : ∀ o, (r.setOutput now o).mode = .jogging := fun o => by
    unfold Rotor.setOutput
    (repeat' split) <;> exact hm
  unfold Rotor.nextPhase
  split
  · exact h.of_output now r.setting.direction.opposite rfl rfl rfl (.inl (by simp)) (by simp)
      (by simp [Rotor.outputWanted, hmode]) (iff_of_false nofun (not_not.2 (hmode _)))
  · exact h.of_output now .off rfl rfl rfl (.inl (by simp)) (by simp) (by simp [Rotor.outputWanted, hmode])
      (iff_of_false nofun (not_not.2 (hmode _)))
  · exact h.of_output now r.setting.direction rfl rfl rfl (.inr rfl) (by simp [Rotor.startGrace])
      (by simp [Rotor.outputWanted, Rotor.startGrace, hmode]) (iff_of_false nofun (not_not.2 (hmode _)))
  · exact h
  · exact h

/-- A GRINDER claim that enters GRANTED drives in its own direction, which is never OFF (R3, R89). -/
theorem Rotor.driveLawful_grantedBy {r : Rotor} (h : r.DriveLawful) (now : Nat) (i : ClaimIdx) (c : Claim) :
    (r.grantedBy now i c).DriveLawful := by
  obtain ⟨-, -, -, htimer, hrest⟩ := h
  have hdir : (if c.active.settingB.getLsbD 15 then Direction.reverse else .forward) ≠ .off := by
    split <;> exact nofun
  refine ⟨rfl, iff_of_true rfl nofun, hdir, fun ht => ?_, fun ha => ?_⟩
  all_goals simp only [Rotor.grantedBy] at *
  · split at ht
    · exact absurd rfl ht
    next hoff => exact absurd (htimer ht) hoff
  · split at ha
    · cases ha
    next hoff => exact absurd (hrest ha).1 hoff

/-- Driving goes on at the yield of a displacement, and anything else stops (R89, log 9). -/
theorem Rotor.driveLawful_handOver {r : Rotor} (h : r.DriveLawful) (now : Nat) : (r.handOver now).DriveLawful := by
  unfold Rotor.handOver
  split
  · exact h
  · exact Rotor.driveLawful_stop h now

theorem Rotor.driveLawful_endOnTime {r : Rotor} (h : r.DriveLawful) (now : Nat) : (r.endOnTime now).DriveLawful := by
  unfold Rotor.endOnTime
  split
  · exact Rotor.driveLawful_beginOffPhase h now
  all_goals exact h

/-! ## A pulse (R83 to R88, R94) -/

theorem Rotor.driveLawful_record {r : Rotor} (h : r.DriveLawful) (now edge : Nat) : (r.record now edge).DriveLawful := by
  obtain ⟨ho, hj, hd, htimer, -⟩ := h
  refine ⟨ho, hj, hd, fun ht => ?_, nofun⟩
  by_contra hoff
  have hoff : r.output ≠ .off := hoff
  simp only [Rotor.record, if_neg hoff] at ht
  exact hoff (htimer ht)

theorem Rotor.driveLawful_earlyPulse {r : Rotor} (h : r.DriveLawful) (now edge : Nat) :
    (r.earlyPulse now edge).DriveLawful := Rotor.driveLawful_record h now edge

/-- The laboured judgement reaches its flag and its two counts alone (R88). -/
theorem Rotor.countLaboured_eq (r : Rotor) (limit edge : Nat) : r.countLaboured limit edge =
    { r with
      laboured := (r.countLaboured limit edge).laboured, aboveCount := (r.countLaboured limit edge).aboveCount
      belowCount := (r.countLaboured limit edge).belowCount } := by
  unfold Rotor.countLaboured Rotor.judgeLaboured
  (repeat' split) <;> rfl

/-- The revolution count reaches the counts and what is handed to the batch unit alone (R86). -/
theorem Rotor.countRevolution_eq (r : Rotor) : r.countRevolution =
    { r with
      quarterCount := r.countRevolution.quarterCount, revolutions := r.countRevolution.revolutions
      handed := r.countRevolution.handed } := by
  unfold Rotor.countRevolution
  (repeat' split) <;> rfl

/-- A probe that succeeds goes on driving in the direction that the probe had, or turns to the off phase due (R92, R94). -/
theorem Rotor.driveLawful_probeSucceeds {r : Rotor} (h : r.DriveLawful) (hp : r.probing = true) (now : Nat) :
    (r.probeSucceeds now).DriveLawful := by
  obtain ⟨hmode, hphase⟩ : r.mode = .jogging ∧ r.jogPhase = .probe := by simpa [Rotor.probing] using hp
  obtain ⟨ho, -, hd, hrest⟩ := h
  have hdrives : ({ r with jogPhase := .none, mode := .driving, cleanRun := some now } : Rotor).DriveLawful := by
    refine ⟨?_, iff_of_true rfl nofun, hd, hrest⟩
    show r.output = r.setting.direction
    rw [ho]
    unfold Rotor.outputWanted
    rw [hmode, hphase]
  unfold Rotor.probeSucceeds
  simp only
  split
  · exact Rotor.driveLawful_beginOffPhase hdrives now
  · exact hdrives

theorem Rotor.driveLawful_countProbe {r : Rotor} (h : r.DriveLawful) (now : Nat) : (r.countProbe now).DriveLawful := by
  unfold Rotor.countProbe
  split
  next hp =>
    simp only
    split
    · exact Rotor.driveLawful_probeSucceeds (r := { r with probeCount := r.probeCount + 1 }) h hp now
    · exact h
  · exact h

theorem Rotor.driveLawful_acceptedPulse {r : Rotor} (h : r.DriveLawful) (now limit edge : Nat) :
    (r.acceptedPulse now limit edge).DriveLawful := by
  unfold Rotor.acceptedPulse
  refine Rotor.driveLawful_countProbe ?_ now
  rw [Rotor.countRevolution_eq, Rotor.countLaboured_eq]
  obtain ⟨ho, hj, hd, htimer, -⟩ := Rotor.driveLawful_record h now edge
  exact ⟨ho, hj, hd, htimer, nofun⟩

/-- A pulse leaves an IDLE drive IDLE. -/
theorem Rotor.mode_acceptedPulse {r : Rotor} (now limit edge : Nat) (h : r.mode = .idle) :
    (r.acceptedPulse now limit edge).mode = .idle := by
  unfold Rotor.acceptedPulse
  rw [Rotor.countRevolution_eq, Rotor.countLaboured_eq]
  unfold Rotor.countProbe Rotor.probing
  rw [if_neg (by simp [Rotor.accept, Rotor.record, h])]
  exact h

end Sys2Proof.Machine
end

section
/-! The chamber law (R50, R51, R53, R63, R67, R78, R81, R89): what it looks at, what an event has to leave for its end to
restore it, and that the end of an event does. -/

namespace Sys2Proof.Machine

/-! ## What the chamber law looks at -/

/-- What a claim that is GRANTED or HELD is for: its state, kind and target, and the setting that carries a duty. -/
def Claim.driving (c : Claim) : Option (ClaimState × Kind × Target × Byte) :=
  if c.holding then some (c.state, c.active.kind, c.active.target, c.active.settingA) else none

theorem Claim.driving_of_not_holding {c : Claim} (h : c.holding = false) : c.driving = none := by
  unfold Claim.driving
  rw [h, if_neg Bool.false_ne_true]

/-- Two claims that are for the same hold alike, and alike in all that the chamber law reads of them. -/
theorem Claim.driving_cases {c d : Claim} (h : d.driving = c.driving) :
    (d.holding = false ∧ c.holding = false) ∨
      (d.holding = true ∧ d.state = c.state ∧ d.active.kind = c.active.kind ∧ d.active.target = c.active.target ∧
        d.active.settingA = c.active.settingA) := by
  unfold Claim.driving at h
  cases hd : d.holding <;> cases hc : c.holding <;> simp_all

theorem Claim.grantedOn_of_driving {c d : Claim} (h : d.driving = c.driving) (a : Target) :
    d.grantedOn a = c.grantedOn a := by
  rcases Claim.driving_cases h with ⟨hd, hc⟩ | ⟨-, hs, hk, ht, -⟩
  · rw [Claim.grantedOn_of_not_holds (Claim.holds_eq_false hd a),
      Claim.grantedOn_of_not_holds (Claim.holds_eq_false hc a)]
  · exact Bool.eq_iff_iff.2 (by rw [Claim.grantedOn_iff, Claim.grantedOn_iff, hs, hk, ht])

theorem Claim.isHoldable_of_driving {c d : Claim} (h : d.driving = c.driving) : d.isHoldable = c.isHoldable := by
  unfold Claim.isHoldable
  rw [Claim.grantedOn_of_driving h, Claim.grantedOn_of_driving h]

theorem Claim.held_of_driving {c d : Claim} (h : d.driving = c.driving) (hd : d.state = .held) : c.state = .held := by
  rcases Claim.driving_cases h with ⟨hn, -⟩ | ⟨-, hs, -⟩
  · exact absurd hd (Claim.ne_held_of_holding hn)
  · exact hs ▸ hd

/-- The GRANTED claim on an actuator is found at the same place in two tables whose claims are for the same. -/
theorem Table.granted_of_driving {s t : State} (h : ∀ j, (t.claim j).driving = (s.claim j).driving) (a : Target) :
    Table.granted t.claims a = Table.granted s.claims a := by
  unfold Table.granted
  congr 1
  funext i
  exact Claim.grantedOn_of_driving (h i) a

theorem State.driven_of_driving {s t : State} (h : ∀ j, (t.claim j).driving = (s.claim j).driving)
    (hh : t.arbiter.handover = s.arbiter.handover) (a : Target) : t.driven a = s.driven a := by
  unfold State.driven State.handsOver
  rw [Table.granted_of_driving h, hh]

theorem State.fanHolderDuty_of_driving {s t : State} (h : ∀ j, (t.claim j).driving = (s.claim j).driving)
    (hh : t.arbiter.handover = s.arbiter.handover) : t.fanHolderDuty = s.fanHolderDuty := by
  unfold State.fanHolderDuty
  rw [Table.granted_of_driving h, hh]
  cases hg : Table.granted s.claims .fan with
  | none => rfl
  | some i =>
    have hi : (s.claim i).grantedOn .fan = true := (Table.granted_eq_some.1 hg).1
    rcases Claim.driving_cases (h i) with ⟨-, hc⟩ | ⟨-, -, -, -, ha⟩
    · rw [Claim.grantedOn_of_not_holds (Claim.holds_eq_false hc _)] at hi
      cases hi
    · exact congrArg BitVec.toNat ha

theorem State.fanDutyWanted_of_driving {s t : State} (h : ∀ j, (t.claim j).driving = (s.claim j).driving)
    (hh : t.arbiter.handover = s.arbiter.handover) (hu : t.interlock = s.interlock)
    (hp : t.sensors.plateBelowOpen = s.sensors.plateBelowOpen) (hv : t.lidVentDuty = s.lidVentDuty) :
    t.fanDutyWanted = s.fanDutyWanted := by
  unfold State.fanDutyWanted
  rw [State.fanHolderDuty_of_driving h hh, hu, hp, hv]

/-! ## What leaves the chamber law alone -/

/-- From the first rotor to the second the drive has not left IDLE, and keeps its law (R89). -/
structure Rotor.Runs (r x : Rotor) : Prop where
  idle : r.mode = .idle → x.mode = .idle
  drive : r.DriveLawful → x.DriveLawful

theorem Rotor.Runs.refl (r : Rotor) : r.Runs r := ⟨id, id⟩

theorem Rotor.Runs.of_eq {r x : Rotor} (h : x = r) : r.Runs x := h ▸ .refl r

theorem Rotor.Runs.trans {r x y : Rotor} (h : r.Runs x) (k : x.Runs y) : r.Runs y :=
  ⟨k.idle ∘ h.idle, k.drive ∘ h.drive⟩

/-- From the first state to the second no claim has begun or ceased to drive, the unit, the heater and the handover stand,
the grinder's drive has at most run on, and the fan is where R81 has it if it was. -/
structure State.ChamberStands (s t : State) : Prop where
  driving : ∀ j, (t.claim j).driving = (s.claim j).driving
  interlock : t.interlock = s.interlock
  heater : t.drives.heaterOn = s.drives.heaterOn
  handover : t.arbiter.handover = s.arbiter.handover
  rotor : s.rotor.Runs t.rotor
  fan : s.drives.fanDuty = s.fanDutyWanted → t.drives.fanDuty = t.fanDutyWanted

theorem State.ChamberStands.refl (s : State) : s.ChamberStands s := ⟨fun _ => rfl, rfl, rfl, rfl, .refl _, id⟩

theorem State.ChamberStands.trans {s t u : State} (h : s.ChamberStands t) (k : t.ChamberStands u) :
    s.ChamberStands u :=
  ⟨fun j => (k.driving j).trans (h.driving j), k.interlock.trans h.interlock, k.heater.trans h.heater,
    k.handover.trans h.handover, h.rotor.trans k.rotor, k.fan ∘ h.fan⟩

/-- The drives stand, and so does all that the fan duty depends on (R81). -/
theorem State.ChamberStands.of_driving {s t : State} (h : ∀ j, (t.claim j).driving = (s.claim j).driving)
    (hu : t.interlock = s.interlock) (hd : t.drives = s.drives) (hh : t.arbiter.handover = s.arbiter.handover)
    (hr : s.rotor.Runs t.rotor) (hp : t.sensors.plateBelowOpen = s.sensors.plateBelowOpen)
    (hv : t.lidVentDuty = s.lidVentDuty) : s.ChamberStands t :=
  ⟨h, hu, by rw [hd], hh, hr, fun hf => by rw [State.fanDutyWanted_of_driving h hh hu hp hv, hd]; exact hf⟩

/-- Nothing of the claim table, the unit, the drives, the arbiter, the sensors and the tuning table changes. -/
theorem State.ChamberStands.of_eq {s t : State} (hc : t.claims = s.claims) (hu : t.interlock = s.interlock)
    (hd : t.drives = s.drives) (ha : t.arbiter.handover = s.arbiter.handover) (hr : t.rotor = s.rotor)
    (hm : t.sensors.plateBelowOpen = s.sensors.plateBelowOpen) (hv : t.tuning = s.tuning) : s.ChamberStands t :=
  .of_driving (fun j => by rw [State.claim_congr hc]) hu hd ha (.of_eq hr) hm (by unfold State.lidVentDuty; rw [hv])

/-- The rotor monitor alone changes, and what the batch unit and the ports see of it. -/
theorem State.ChamberStands.of_rotor {s t : State} (hr : s.rotor.Runs t.rotor) (hc : t.claims = s.claims)
    (hu : t.interlock = s.interlock) (hd : t.drives = s.drives) (ha : t.arbiter.handover = s.arbiter.handover)
    (hm : t.sensors = s.sensors) (hv : t.tuning = s.tuning) : s.ChamberStands t :=
  .of_driving (fun j => by rw [State.claim_congr hc]) hu hd ha hr (by rw [hm]) (by unfold State.lidVentDuty; rw [hv])

/-- One entry is written, and what it is for stands. -/
theorem State.chamberStands_setClaim {s : State} {i : ClaimIdx} {c : Claim} (h : c.driving = (s.claim i).driving) :
    s.ChamberStands (s.setClaim i c) := by
  refine .of_driving (fun j => ?_) rfl rfl rfl (.refl _) rfl rfl
  rw [State.claim_setClaim]
  split
  next hij => rw [h, hij]
  next => rfl

theorem State.chamberOk_congr {s t : State} (h : t.interlock = s.interlock) : t.chamberOk = s.chamberOk := by
  unfold State.chamberOk
  rw [h]

/-- The chamber law and the drive law are kept by all that leaves what they look at. -/
theorem State.ChamberStands.lawful {s t : State} (h : s.ChamberStands t) (hc : s.ChamberLawful)
    (hd : s.rotor.DriveLawful) : t.ChamberLawful ∧ t.rotor.DriveLawful := by
  obtain ⟨hquiet, hheater, hrotor, hlatch, hheld, hfan⟩ := hc
  have hok : t.chamberOk = s.chamberOk := State.chamberOk_congr h.interlock
  have hdrive := h.rotor.drive hd
  have hdriven := State.driven_of_driving h.driving h.handover
  have hmode : t.rotor.mode ≠ .idle → s.rotor.mode ≠ .idle := mt h.rotor.idle
  refine ⟨⟨fun hno => ?_, fun hon => ?_, fun hm => ?_, ?_, fun hk he i hi => ?_, h.fan hfan⟩, hdrive⟩
  · obtain ⟨hq, ho, -⟩ := hquiet (hok ▸ hno)
    refine ⟨fun i => (Claim.isHoldable_of_driving (h.driving i)).trans (hq i), h.heater.trans ho,
      hdrive.output_of_idle ?_⟩
    by_contra hm
    rw [← hok, hno] at hrotor
    cases (hrotor (hmode hm)).2
  · rw [hdriven]
    exact hheater (h.heater ▸ hon)
  · rw [hdriven, hok]
    exact hrotor (hmode hm)
  · rw [hdriven, h.interlock]
    exact hlatch
  · exact hheld (hok ▸ hk) (h.interlock ▸ he) i (Claim.held_of_driving (h.driving i) hi)

/-! ## What the end of an event needs -/

/-- Before the end of an event: the claims are lawful; in a chamber that is not fit none drives the heater or the grinder
(R50, R63); in one that is, with the command ENGAGE, none is HELD (R51, R53, R67); and the rotor's drive is lawful (R89). -/
structure State.Ready (u : State) : Prop where
  claims : u.ClaimsLawful
  quiet : u.chamberOk = false → u.ChamberQuiet
  resumed : u.chamberOk = true → u.interlock.latchCommand = .engage → ∀ i, (u.claim i).state ≠ .held
  drive : u.rotor.DriveLawful

theorem State.ready_of_lawful {s : State} (hl : s.ClaimsLawful) (hc : s.ChamberLawful) (hd : s.rotor.DriveLawful) :
    s.Ready := by
  obtain ⟨hquiet, -, -, -, hheld, -⟩ := hc
  exact ⟨hl, fun h => (hquiet h).1, hheld, hd⟩

/-- The claim table, the state of the chamber and the latch command stand. -/
theorem State.Ready.of_eq {s u : State} (h : s.Ready) (hc : u.claims = s.claims) (hok : u.chamberOk = s.chamberOk)
    (hk : u.interlock.latchCommand = s.interlock.latchCommand) (hd : u.rotor.DriveLawful) : u.Ready :=
  ⟨State.claimsLawful_congr hc h.claims, fun hno i => by rw [State.claim_congr hc]; exact h.quiet (hok ▸ hno) i,
    fun ho he i => by rw [State.claim_congr hc]; exact h.resumed (hok ▸ ho) (hk ▸ he) i, hd⟩

/-- Entries that stand, or that hold nothing. -/
theorem State.Ready.of_claims {s u : State} (h : s.Ready) (hl : u.ClaimsLawful) (hu : u.interlock = s.interlock)
    (hd : u.rotor.DriveLawful) (hc : ∀ j, u.claim j = s.claim j ∨ (u.claim j).holding = false) : u.Ready := by
  have hok : u.chamberOk = s.chamberOk := State.chamberOk_congr hu
  refine ⟨hl, fun hno j => ?_, fun ho he j => ?_, hd⟩
  · rcases hc j with heq | hn
    · rw [heq]
      exact h.quiet (hok ▸ hno) j
    · exact Claim.isHoldable_of_state fun hg => by simp [Claim.holding, hg] at hn
  · rcases hc j with heq | hn
    · rw [heq]
      exact h.resumed (hok ▸ ho) (hu ▸ he) j
    · exact Claim.ne_held_of_holding hn

/-- Entries that leave GRANTED or HELD, and nothing else that the outputs follow. -/
theorem State.Ready.of_leaves {s u : State} {leaves : ClaimIdx → Bool} (h : s.Ready) (hv : s.Leaves u leaves)
    (hl : u.ClaimsLawful) : u.Ready :=
  h.of_claims hl hv.interlock (hv.rotor ▸ h.drive) fun j => by
    cases hj : leaves j with
    | true => exact .inr (hv.left j hj)
    | false => exact (hv.stays j hj).imp_right And.right

/-! ## Resumptions and holds -/

theorem State.driveLawful_enterGranted {s : State} (h : s.rotor.DriveLawful) (i : ClaimIdx) :
    (s.enterGranted i).rotor.DriveLawful := by
  rw [State.rotor_enterGranted]
  split
  · exact Rotor.driveLawful_grantedBy h _ _ _
  · exact h

theorem State.driveLawful_resumeOne {s : State} (h : s.rotor.DriveLawful) (i : ClaimIdx) :
    (s.resumeOne i).rotor.DriveLawful := by
  unfold State.resumeOne
  split
  · exact State.driveLawful_enterGranted h i
  · exact h

theorem State.driveLawful_resumeAll {s : State} (h : s.rotor.DriveLawful) : s.resumeAll.rotor.DriveLawful := by
  unfold State.resumeAll
  exact foldl_invariant (fun u => u.rotor.DriveLawful) State.resumeOne
    (fun u i hu => State.driveLawful_resumeOne hu i) all16 s h

/-- After a resume request in a chamber fit for it (R16). -/
theorem State.ready_resumeAll {s : State} (hl : s.ClaimsLawful) (hd : s.rotor.DriveLawful) (hok : s.chamberOk = true) :
    s.resumeAll.Ready := by
  have hsame : s.resumeAll.chamberOk = true := (State.chamberOk_congr (by simp)).trans hok
  refine ⟨(s.calm_resumeAll (arms := anyArming)).claimsLawful hl, fun hno => ?_, fun _ _ i => ?_,
    State.driveLawful_resumeAll hd⟩
  · rw [hsame] at hno
    cases hno
  · rw [State.claim_resumeAll]
    exact Claim.state_resumed_ne_held _ _

/-- After a hold request in a chamber that is not fit (R15). -/
theorem State.ready_holdAll {s : State} (hl : s.ClaimsLawful) (hd : s.rotor.DriveLawful) (hok : s.chamberOk = false) :
    s.holdAll.Ready := by
  have hsame : s.holdAll.chamberOk = false := (State.chamberOk_congr (by simp)).trans hok
  refine ⟨(s.calm_holdAll (arms := anyArming)).claimsLawful hl, fun _ i => ?_, fun ho => ?_, by rwa [State.holdAll_rotor]⟩
  · rw [State.claim_holdAll]
    exact Claim.isHoldable_afterHold _
  · rw [hsame] at ho
    cases ho

/-- After a trip event (R63). -/
theorem State.ready_tripEvent {s : State} (hl : s.ClaimsLawful) (hd : s.rotor.DriveLawful) (c : Cause) :
    (s.tripEvent c).Ready := by
  have hno := s.chamberOk_tripEvent c
  refine ⟨(s.calm_tripEvent (arms := anyArming) c).claimsLawful hl, fun _ i => ?_, fun ho => ?_, by rwa [State.tripEvent_rotor]⟩
  · rw [State.tripEvent_eq, State.claim_postAll, State.claim_holdAll]
    exact Claim.isHoldable_afterHold _
  · rw [hno] at ho
    cases ho

theorem State.Ready.raise {s : State} (h : s.Ready) (c : Cause) : (s.raise c).Ready := by
  unfold State.raise
  split
  · exact State.ready_tripEvent h.claims h.drive c
  · split
    · exact h
    · exact State.ready_tripEvent (s := s.activate c) h.claims h.drive c

theorem State.Ready.deactivate {s : State} (h : s.Ready) (c : Cause) : (s.deactivate c).Ready :=
  h.of_eq rfl rfl rfl h.drive

/-! ## The end of an event -/

/-- In a lawful table a resumption starts no claim of the latch (R5, R53). -/
theorem State.driven_latch_followLatch {u : State} (hl : u.ClaimsLawful) :
    u.followLatch.driven .latch = u.driven .latch := by
  by_cases hr : u.ResumesHeld
  · have hgrants : ∀ j, (u.followLatch.claim j).grantedOn .latch = true ↔ (u.claim j).grantedOn .latch = true := by
      intro j
      rw [State.claim_followLatch_of_resumes hr]
      by_cases hheld : (u.claim j).state = .held
      · obtain ⟨-, -, -, hkind, -⟩ := hl j
        obtain ⟨-, ht⟩ := hkind hheld
        simp only [Claim.grantedOn_iff, Claim.active_resumed]
        exact iff_of_false (fun hg => by rw [hg.2.2] at ht; rcases ht with ht | ht <;> cases ht)
          fun hg => by rw [hg.2.2] at ht; rcases ht with ht | ht <;> cases ht
      · rw [Claim.resumed_of_not_held hheld]
    refine Bool.eq_iff_iff.2 ?_
    rw [State.driven_iff, State.driven_iff]
    simp only [hgrants]
    unfold State.handsOver
    rw [State.followLatch_arbiter]
  · exact State.driven_congr (State.claims_followLatch_of_not_resumes hr) (by simp) _

/-- The latch command follows the claim table (R53). -/
theorem State.latchFollows_followLatch {u : State} (hl : u.ClaimsLawful) : u.followLatch.LatchFollows := by
  have hcommand : ∀ k, (u.setLatchCommand k).interlock.latchCommand = k := fun k => by
    rw [State.setLatchCommand_unit]
  unfold State.LatchFollows
  rw [State.driven_latch_followLatch hl, State.followLatch_interlock, hcommand]
  cases u.driven .latch <;> simp

/-- The latch and with it the HELD claims have followed: the claims and the rotor are still as the end of an event needs
them. -/
theorem State.Ready.followLatch {u : State} (h : u.Ready) : u.followLatch.Ready := by
  have hok := u.chamberOk_followLatch
  have hclaims := (u.calm_followLatch (arms := anyArming)).claimsLawful h.claims
  by_cases hr : u.ResumesHeld
  · rw [State.followLatch_of_resumes hr]
    exact State.ready_resumeAll (State.claimsLawful_congr (State.setLatchCommand_claims _ _) h.claims)
      (by rw [State.setLatchCommand_rotor]; exact h.drive) ((u.chamberOk_setLatchCommand _).trans hr.2.2)
  · have hsame := State.claims_followLatch_of_not_resumes hr
    refine ⟨hclaims, fun hno i => ?_, fun ho he i => ?_, by rw [State.rotor_followLatch_of_not_resumes hr]; exact h.drive⟩
    · rw [State.claim_congr hsame]
      exact h.quiet (hok ▸ hno) i
    · have hfollows := State.latchFollows_followLatch h.claims
      have hnot : u.driven .latch = false := by
        rw [← State.driven_latch_followLatch h.claims, ← Bool.not_eq_true]
        intro hd
        rw [hfollows.2 hd] at he
        cases he
      have hengaged : u.interlock.latchCommand = .engage := by
        cases hc : u.interlock.latchCommand with
        | engage => rfl
        | release => exact absurd ⟨hnot, hc, hok ▸ ho⟩ hr
      rw [State.claim_congr hsame]
      exact h.resumed (hok ▸ ho) hengaged i

/-- The heater output follows the claim table and the chamber (R78). -/
theorem State.heaterOn_followHeater (x : State) :
    x.followHeater.drives.heaterOn = (x.driven .heater && x.chamberOk && x.drives.heaterOn) := by
  unfold State.followHeater
  split
  next h => rw [h, Bool.true_and]
  next h => rw [Bool.eq_false_iff.2 h]; rfl

/-- The grinder drive follows the claim table and the chamber (R89). -/
theorem State.rotor_followRotor (x : State) :
    x.followRotor.rotor = if x.driven .grinder && x.chamberOk then x.rotor else x.rotor.stop x.time := by
  unfold State.followRotor
  split <;> rfl

/-- The end of an event restores the chamber law and the drive law (R50, R53, R63, R78, R81, R89). -/
theorem State.Ready.conclude {u : State} (h : u.Ready) (old : State) :
    (u.conclude old).ChamberLawful ∧ (u.conclude old).rotor.DriveLawful := by
  have hx := h.followLatch
  have hlatch := State.latchFollows_followLatch h.claims
  have hok : (u.conclude old).chamberOk = u.followLatch.chamberOk := State.chamberOk_congr (u.conclude_interlock old)
  have hdriven : ∀ a, (u.conclude old).driven a = u.followLatch.driven a := fun a =>
    State.driven_congr (u.conclude_claims old) (by simp) a
  have hclaim := u.claim_conclude old
  have hheater : (u.conclude old).drives.heaterOn =
      (u.followLatch.driven .heater && u.followLatch.chamberOk && u.followLatch.drives.heaterOn) := by
    rw [State.conclude_heaterOn, State.heaterOn_followHeater,
      State.driven_congr (s := u.followLatch) (by simp) (by simp), State.chamberOk_congr (s := u.followLatch) (by simp),
      State.followRotor_drives]
  have hrotor := (u.conclude_rotor old).trans u.followLatch.rotor_followRotor
  have hdrive : (u.conclude old).rotor.DriveLawful := by
    rw [hrotor]
    split
    · exact hx.drive
    · exact Rotor.driveLawful_stop hx.drive _
  refine ⟨⟨fun hno => ?_, fun hon => ?_, fun hm => ?_, ?_, fun ho he i => ?_, u.conclude_fanDuty old⟩, hdrive⟩
  · rw [hok] at hno
    refine ⟨fun i => by rw [hclaim]; exact hx.quiet hno i, by rw [hheater, hno]; simp, hdrive.output_of_idle ?_⟩
    rw [hrotor, hno, if_neg (by simp)]
    exact Rotor.mode_stop _ _
  · rw [hheater, Bool.and_eq_true, Bool.and_eq_true] at hon
    rw [hdriven]
    exact hon.1.1
  · rw [hrotor] at hm
    split at hm
    next hd =>
      rw [hdriven, hok]
      exact (Bool.and_eq_true _ _).mp hd
    next => exact absurd (Rotor.mode_stop _ _) hm
  · rw [hdriven, u.conclude_interlock old]
    exact hlatch
  · rw [hclaim]
    rw [u.conclude_interlock old] at he
    exact hx.resumed (hok ▸ ho) he i

end Sys2Proof.Machine
end

section
/-! Every command keeps the unit's laws, the chamber law and the drive law (R49 to R67, R78, R81, R89): the commands that
leave the chamber alone, and those whose end restores it. -/

namespace Sys2Proof.Machine

/-! ## What an event keeps -/

/-- From the first state to the second the unit's two laws are kept, and so are the chamber law and the drive law of a
lawful claim table. -/
structure State.LawsKept (s t : State) : Prop where
  unit : s.interlock.Keeps t.interlock
  chamber : s.ClaimsLawful → s.ChamberLawful → s.rotor.DriveLawful → t.ChamberLawful ∧ t.rotor.DriveLawful

theorem State.ChamberStands.lawsKept {s t : State} (h : s.ChamberStands t) : s.LawsKept t :=
  ⟨.of_eq h.interlock, fun _ => h.lawful⟩

theorem State.LawsKept.refl (s : State) : s.LawsKept s := (State.ChamberStands.refl s).lawsKept

theorem State.LawsKept.trans {s t u : State} (h : s.LawsKept t) (hl : s.ClaimsLawful → t.ClaimsLawful)
    (k : t.LawsKept u) : s.LawsKept u :=
  ⟨h.unit.trans k.unit, fun hc hs hd => by
    obtain ⟨ht, hr⟩ := h.chamber hc hs hd
    exact k.chamber (hl hc) ht hr⟩

/-- What follows an event and leaves the chamber alone. -/
theorem State.LawsKept.stands {s t u : State} (h : s.LawsKept t) (k : t.ChamberStands u) : s.LawsKept u :=
  ⟨h.unit.trans (.of_eq k.interlock), fun hc hs hd => by
    obtain ⟨ht, hr⟩ := h.chamber hc hs hd
    exact k.lawful ht hr⟩

/-- An event that is ready for its end when it began in a ready state. -/
theorem State.lawsKept_conclude {s u : State} (hu : s.interlock.Keeps u.interlock) (h : s.Ready → u.Ready)
    (old : State) : s.LawsKept (u.conclude old) :=
  ⟨hu.trans (u.keeps_conclude old), fun hc hs hd => (h (State.ready_of_lawful hc hs hd)).conclude old⟩

/-- An event in which entries leave GRANTED or HELD. -/
theorem State.Leaves.lawsKept {s u : State} {leaves : ClaimIdx → Bool} (h : s.Leaves u leaves)
    (hl : s.ClaimsLawful → u.ClaimsLawful) (old : State) : s.LawsKept (u.conclude old) :=
  State.lawsKept_conclude (.of_eq h.interlock) (fun hr => hr.of_leaves h (hl hr.claims)) old

/-! ## Operations that leave the chamber alone -/

theorem State.chamberStands_updPort (s : State) (p : Port) (f : PortState → PortState) :
    s.ChamberStands (s.updPort p f) := .of_eq rfl rfl rfl rfl rfl rfl rfl

theorem State.chamberStands_answer (s : State) (p : Port) (st : Status) (data : List Byte) :
    s.ChamberStands (s.answer p st data) := s.chamberStands_updPort p _

theorem State.chamberStands_reportPass (s : State) : s.ChamberStands s.reportPass :=
  .of_eq (by simp) (by simp) (by simp) (by simp) (by simp) (by simp) (by simp)

/-- A command that changes the state only where its condition holds. -/
theorem ite_lawsKept {c : Prop} [Decidable c] {s t : State} (h : c → s.LawsKept t) :
    ∃ u, (if c then Host.Outcome.next t else Host.Outcome.next s : Answer) = .next u ∧ s.LawsKept u := by
  split
  next hc => exact ⟨t, rfl, h hc⟩
  next => exact ⟨s, rfl, .refl s⟩

theorem onRequest_lawsKept {s : State} {p : Port} {code : Byte} {f : List Byte → State}
    (hf : ∀ req, s.LawsKept (f req)) : ∃ t, onRequest s p code f = .next t ∧ s.LawsKept t :=
  onRequest_next (.refl s) hf

theorem onRequest_stands {s : State} {p : Port} {code : Byte} {f : List Byte → State}
    (hf : ∀ req, s.ChamberStands (f req)) : ∃ t, onRequest s p code f = .next t ∧ s.LawsKept t :=
  onRequest_lawsKept fun req => (hf req).lawsKept

theorem takeFrame_stands {s : State} {bits : List Bool} {kind : FrameKind} {f : Word → State}
    (hf : ∀ frame, s.ChamberStands (f frame)) : ∃ t, takeFrame s bits kind f = .next t ∧ s.LawsKept t :=
  takeFrame_next (.refl s) (fun _ _ => State.ChamberStands.lawsKept (.of_eq rfl rfl rfl rfl rfl rfl rfl))
    fun frame run => ((hf frame).trans (u := (f frame).sampledBits [] run) (.of_eq rfl rfl rfl rfl rfl rfl rfl)).lawsKept

/-! ## The ports' requests -/

theorem State.chamberStands_takeStatus (s : State) (p : Port) (req : List Byte) : s.ChamberStands (s.takeStatus p req) := by
  unfold State.takeStatus
  (repeat' split) <;> exact s.chamberStands_answer _ _ _

theorem State.chamberStands_takeNoticeLevel (s : State) (p : Port) (req : List Byte) :
    s.ChamberStands (s.takeNoticeLevel p req) := by
  unfold State.takeNoticeLevel
  split
  · exact s.chamberStands_updPort _ _
  · exact s.chamberStands_answer _ _ _

theorem State.chamberStands_takeAccessRead (s : State) (p : Port) (req : List Byte) :
    s.ChamberStands (s.takeAccessRead p req) := by
  unfold State.takeAccessRead
  split <;> exact s.chamberStands_answer _ _ _

theorem State.chamberStands_takeAccessWrite (s : State) (p : Port) (req : List Byte) :
    s.ChamberStands (s.takeAccessWrite p req) := by
  unfold State.takeAccessWrite
  split
  · exact s.chamberStands_answer _ _ _
  · split
    · exact (s.chamberStands_updPort _ _).trans (State.chamberStands_answer _ _ _ _)
    · exact s.chamberStands_answer _ _ _

theorem State.chamberStands_takeRotorRead (s : State) (p : Port) (req : List Byte) :
    s.ChamberStands (s.takeRotorRead p req) := by
  unfold State.takeRotorRead
  split <;> exact s.chamberStands_answer _ _ _

theorem State.chamberStands_takeClaimRead (s : State) (p : Port) (req : List Byte) :
    s.ChamberStands (s.takeClaimRead p req) := by
  unfold State.takeClaimRead
  (repeat' split) <;> exact s.chamberStands_answer _ _ _

theorem State.chamberStands_takeBatchRead (s : State) (p : Port) (req : List Byte) :
    s.ChamberStands (s.takeBatchRead p req) := by
  unfold State.takeBatchRead
  (repeat' split) <;> exact s.chamberStands_answer _ _ _

theorem State.chamberStands_takeRetiredPeek (s : State) (p : Port) (req : List Byte) :
    s.ChamberStands (s.takeRetiredPeek p req) := by
  unfold State.takeRetiredPeek
  (repeat' split) <;> exact s.chamberStands_answer _ _ _

theorem State.chamberStands_takeTuningRead (s : State) (p : Port) (req : List Byte) :
    s.ChamberStands (s.takeTuningRead p req) := by
  unfold State.takeTuningRead
  split <;> exact s.chamberStands_answer _ _ _

theorem State.chamberStands_takeBatchReserve (s : State) (p : Port) (req : List Byte) :
    s.ChamberStands (s.takeBatchReserve p req) := by
  unfold State.takeBatchReserve
  (repeat' split) <;> exact .of_eq rfl rfl rfl rfl rfl rfl rfl

theorem State.chamberStands_takeRetiredTake (s : State) (p : Port) (req : List Byte) :
    s.ChamberStands (s.takeRetiredTake p req) := by
  unfold State.takeRetiredTake
  (repeat' split) <;> exact .of_eq rfl rfl rfl rfl rfl rfl rfl

/-- A write of an annotation reaches the batch unit, the notices and the last-touched latch (R131). -/
theorem State.chamberStands_annotate (s : State) (k : Nat) (w : AnnotationWrite) (hit : Port → Word → Bool) :
    s.ChamberStands (s.annotate k w hit) := .of_eq (by simp) (by simp) (by simp) (by simp) (by simp) (by simp) (by simp)

theorem State.chamberStands_takeBatchCommit (s : State) (p : Port) (req : List Byte) :
    s.ChamberStands (s.takeBatchCommit p req) := by
  unfold State.takeBatchCommit
  split
  · exact s.chamberStands_answer _ _ _
  · split
    · exact s.chamberStands_answer _ _ _
    · split
      · exact s.chamberStands_answer _ _ _
      · split
        · exact s.chamberStands_answer _ _ _
        · refine .trans ?_ (State.chamberStands_answer _ _ _ _)
          exact .of_eq (by simp) (by simp) (by simp) (by simp) (by simp) (by simp) (by simp)

/-! ## The tuning table (R82, R169, R171) -/

/-- A write of the lid-vent duty lets the fan follow at once, and no other write moves what the fan depends on (R82). -/
theorem State.chamberStands_writeTuning (s : State) (k : Fin 13) (v : Nat) : s.ChamberStands (s.writeTuning k v) := by
  by_cases h11 : k = 11
  · subst h11
    exact ⟨fun _ => rfl, rfl, rfl, rfl, .refl _, fun _ => rfl⟩
  · have hset : s.ChamberStands (s.setTuning k v) := by
      have hk : (k : Nat) ≠ 11 := fun h => h11 (Fin.ext h)
      have hvent : (s.tuning.set (k : Nat) v k.isLt)[11] = s.tuning[11] := Vector.getElem_set_ne k.isLt (by decide) hk
      exact .of_driving (fun _ => rfl) rfl rfl rfl (.refl _) rfl hvent
    unfold State.writeTuning
    simp only
    split
    · exact hset.trans (State.chamberStands_reportPass _)
    · split
      · exact hset.trans (.of_eq (by simp) (by simp) (by simp) (by simp) (by simp) (by simp) (by simp))
      · exact hset

theorem State.chamberStands_takeTuningWrite (s : State) (p : Port) (req : List Byte) :
    s.ChamberStands (s.takeTuningWrite p req) := by
  unfold State.takeTuningWrite
  split
  · exact .refl s
  · split
    · exact s.chamberStands_answer _ _ _
    · split
      · exact s.chamberStands_answer _ _ _
      · simp only
        split
        · exact s.chamberStands_answer _ _ _
        · split
          · exact .of_eq rfl rfl rfl rfl rfl rfl rfl
          · exact (s.chamberStands_writeTuning _ _).trans (State.chamberStands_answer _ _ _ _)

/-- The budget is not among what the fan depends on (R172). -/
theorem State.chamberStands_applyBudget (s : State) (v : Nat) : s.ChamberStands (s.applyBudget v) := by
  unfold State.applyBudget
  refine .trans ?_ (State.chamberStands_reportPass _)
  have hvent : (s.tuning.set 0 v)[11] = s.tuning[11] := Vector.getElem_set_ne (by decide) (by decide) (by decide)
  exact .of_driving (fun _ => rfl) rfl rfl rfl (.refl _) rfl hvent

theorem State.chamberStands_judgeBudget (s : State) (p : Port) (v : Nat) : s.ChamberStands (s.judgeBudget p v) := by
  unfold State.judgeBudget
  split
  · exact (s.chamberStands_applyBudget v).trans (State.chamberStands_answer _ _ _ _)
  · exact s.chamberStands_answer _ _ _

theorem State.chamberStands_takeBudgetWrite (s : State) : s.ChamberStands s.takeBudgetWrite := by
  unfold State.takeBudgetWrite
  split
  next p v rest _ =>
    refine .trans (t := { s with arbiter := { s.arbiter with budgetWrites := rest } }) ?_
      (State.chamberStands_judgeBudget _ p v)
    exact .of_eq rfl rfl rfl rfl rfl rfl rfl
  next => exact .refl s

/-! ## The claim table's own requests and timers -/

/-- A DRAFT takes an entry that drives nothing, or writes the staged copy alone (R7). -/
theorem Claim.driving_draft (c : Claim) (p : Port) (q : Params) : (c.draft p q).driving = c.driving := by
  unfold Claim.draft
  split
  next h => rw [Claim.driving_of_not_holding (c := c) (by simp [Claim.holding, h])]; rfl
  next => rfl

theorem Claim.driving_second (c : Claim) : c.second.driving = c.driving := by
  unfold Claim.second
  (repeat' split) <;> rfl

theorem State.chamberStands_touchClaims (s : State) (old : Table) : s.ChamberStands (s.touchClaims old) :=
  .of_eq rfl rfl rfl rfl rfl rfl rfl

theorem State.chamberStands_takeDraft (s : State) (p : Port) (req : List Byte) : s.ChamberStands (s.takeDraft p req) := by
  unfold State.takeDraft
  split
  · exact s.chamberStands_answer _ _ _
  · split
    · exact s.chamberStands_answer _ _ _
    · exact ((State.chamberStands_setClaim (Claim.driving_draft _ _ _)).trans (State.chamberStands_touchClaims _ _)).trans
        (State.chamberStands_answer _ _ _ _)

theorem State.chamberStands_takeAlter (s : State) (p : Port) (req : List Byte) : s.ChamberStands (s.takeAlter p req) := by
  unfold State.takeAlter
  split
  · exact s.chamberStands_answer _ _ _
  next i _ =>
    split
    · exact s.chamberStands_answer _ _ _
    next x _ =>
      have halter : s.ChamberStands (s.setClaim i ((s.claim i).alter x)) := State.chamberStands_setClaim rfl
      refine .trans ?_ (State.chamberStands_answer _ _ _ _)
      unfold State.alterEntry
      simp only
      split
      · exact halter.trans (State.chamberStands_reportPass _)
      · exact halter

theorem State.lawsKept_takeArm (s : State) (p : Port) (req : List Byte) : s.LawsKept (s.takeArm p req) := by
  unfold State.takeArm
  split
  · exact (s.chamberStands_answer _ _ _).lawsKept
  next i hi =>
    split
    · exact (s.chamberStands_answer _ _ _).lawsKept
    next hr =>
      refine .stands (State.Leaves.lawsKept (State.leaves_setClaim_reportPass rfl) (fun hl => ?_) s)
        (State.chamberStands_answer _ _ _ _)
      obtain ⟨-, hnotFree, -⟩ := State.ownEntry_eq_ok.1 hi
      obtain ⟨-, -, -, hconsistent⟩ := armRefusal_eq_none.1 hr
      have hlawful := Claim.lawful_move (arms := anyArming) (hl i) (.arm _ hnotFree hconsistent trivial)
      exact State.claimsLawful_congr (State.reportPass_claims _) (State.claimsLawful_setClaim hl hlawful)

/-- An end of a claim in force, with its chain step (R19, R20). -/
theorem State.lawsKept_end {s : State} {i : ClaimIdx} {why : ClaimOutcome} (hf : (s.claim i).inForce = true)
    (hw : why ≠ .none) : s.LawsKept ((s.endAndReport i why).conclude s) := by
  refine State.lawsKept_conclude (.of_eq (by simp)) (fun hr => ?_) s
  have hapart : s.EndsApart i why := fun _ hfo => by
    obtain ⟨-, -, -, -, hchain⟩ := hr.claims i
    exact absurd (hchain i hfo) (lt_irrefl i)
  exact hr.of_leaves (State.leaves_endAndReport hapart)
    ((s.calm_endAndReport (arms := anyArming) i why hf hw fun _ _ => trivial).claimsLawful hr.claims)

theorem State.lawsKept_disarm (s : State) (i : ClaimIdx) : s.LawsKept (s.disarm i) := by
  unfold State.disarm
  split
  next h => exact State.lawsKept_end h (by decide)
  next h =>
    refine State.ChamberStands.lawsKept (.trans (State.chamberStands_setClaim ?_) (State.chamberStands_touchClaims _ _))
    rw [Claim.driving_of_not_holding (c := s.claim i)]
    · rfl
    · unfold Claim.holding
      unfold Claim.inForce at h
      cases hs : (s.claim i).state <;> simp_all

theorem State.lawsKept_takeDisarm (s : State) (p : Port) (req : List Byte) : s.LawsKept (s.takeDisarm p req) := by
  unfold State.takeDisarm
  split
  · exact (s.chamberStands_answer _ _ _).lawsKept
  · exact (s.lawsKept_disarm _).stands (State.chamberStands_answer _ _ _ _)

theorem State.lawsKept_takePortReset (s : State) (p : Port) : s.LawsKept (s.takePortReset p) := by
  unfold State.takePortReset
  refine State.lawsKept_conclude (.of_eq (by simp)) (fun hr => ?_) s
  refine hr.of_claims ?_ (by simp) (by simpa using hr.drive) fun j => ?_
  · exact State.claimsLawful_congr (by simp) ((s.calm_resetEntries (arms := anyArming) p).claimsLawful hr.claims)
  · rw [State.claim_reportPass, State.claim_updPort, State.claim_congr (State.setReservation_claims _ _ _),
      State.claim_resetEntries]
    split
    · exact .inr rfl
    · exact .inl rfl

/-! ## The interlock and trip unit -/

theorem State.Ready.handSecured {s : State} (h : s.Ready) (e : SecuredEvent) : (s.handSecured e).Ready :=
  h.of_eq rfl rfl rfl h.drive

theorem State.Ready.handBin {s : State} (h : s.Ready) (e : BinEvent) : (s.handBin e).Ready :=
  h.of_eq rfl rfl rfl h.drive

theorem State.Ready.reportPass {s : State} (h : s.Ready) : s.reportPass.Ready :=
  h.of_eq (by simp) (State.chamberOk_congr (by simp)) (by simp) (by rw [State.reportPass_rotor]; exact h.drive)

/-- The unit's copies of the inputs are written, and the chamber is as fit as before (R48). -/
theorem State.Ready.withInputs {s : State} (h : s.Ready) {u : Interlock} (hs : u.secured = s.interlock.secured)
    (hh : u.haltLatch = s.interlock.haltLatch) (hk : u.latchCommand = s.interlock.latchCommand) :
    State.Ready { s with interlock := u } :=
  h.of_eq rfl (by unfold State.chamberOk; rw [hs, hh]) hk h.drive

theorem State.keeps_clearHalt {s : State} (h : s.interlock.causes &&& s.interlock.active = 0) :
    s.interlock.Keeps s.clearHalt.interlock := by
  have hunit : s.clearHalt.interlock = s.interlock.clearHalt := by
    rw [State.clearHalt_eq, State.reportPass_interlock, s.haltCleared.resumeIfEngaged_frame.2.1]
    rfl
  rw [hunit]
  exact ⟨fun hl => Interlock.haltLawful_clearHalt hl h, id⟩

/-- A resume request that the chamber and the latch command allow, in a chamber that has just become fit or is not
(R51, R67). -/
theorem State.ready_resumeIfEngaged {w : State} (hl : w.ClaimsLawful) (hd : w.rotor.DriveLawful)
    (hq : w.chamberOk = false → w.ChamberQuiet) : w.resumeIfEngaged.Ready := by
  by_cases hfit : w.chamberOk = true ∧ w.interlock.latchCommand = .engage
  · rw [State.resumeIfEngaged_of_fit hfit.1 hfit.2]
    exact State.ready_resumeAll hl hd hfit.1
  · rw [State.resumeIfEngaged_of_unfit hfit]
    exact ⟨hl, hq, fun ho he => absurd ⟨ho, he⟩ hfit, hd⟩

theorem State.ready_clearHalt {s : State} (h : s.Ready) (hh : s.interlock.haltLatch = true) : s.clearHalt.Ready := by
  have hno : s.chamberOk = false := by simp [State.chamberOk, hh]
  have hr := State.ready_resumeIfEngaged (w := s.haltCleared) h.claims h.drive fun _ => h.quiet hno
  rw [State.clearHalt_eq]
  exact hr.reportPass

theorem State.lawsKept_takeHaltClear (s : State) (p : Port) : s.LawsKept (s.takeHaltClear p) := by
  unfold State.takeHaltClear
  split
  · exact (s.chamberStands_answer _ _ _).lawsKept
  · split
    · exact (s.chamberStands_answer _ _ _).lawsKept
    next hh =>
      split
      · exact (s.chamberStands_answer _ _ _).lawsKept
      next ha =>
        refine .stands (State.lawsKept_conclude (State.keeps_clearHalt (not_not.1 ha)) (fun hr => ?_) s)
          (State.chamberStands_answer _ _ _ _)
        exact State.ready_clearHalt hr (by simpa using hh)

/-- The secured condition derived: a hold as it is lost, a resume request as it is gained (R50, R51). -/
theorem State.Ready.deriveSecured {s : State} (h : s.Ready) : s.deriveSecured.Ready := by
  unfold State.deriveSecured
  split
  · exact h
  next hne =>
    split
    next hw =>
      have hno : s.chamberOk = false := by
        have hs : s.interlock.secured = false := by simpa [hw] using hne
        simp [State.chamberOk, hs]
      have hr := State.ready_resumeIfEngaged (w := s.gainedBy s.interlock) h.claims h.drive fun _ => h.quiet hno
      rw [show s.securedGained = s.gained s.interlock from s.securedGained_eq s.interlock]
      exact hr.reportPass.handSecured .gained
    next =>
      have hr := State.ready_holdAll (s := { s with interlock := { s.interlock with secured := false } }) h.claims h.drive
        rfl
      exact hr.handSecured .lost

theorem State.Ready.judgeForced {s : State} (h : s.Ready) (opened : Bool) : (s.judgeForced opened).Ready := by
  unfold State.judgeForced
  split
  · exact h.raise _
  · exact h

theorem State.Ready.judgeDisagreement {s : State} (h : s.Ready) : s.judgeDisagreement.Ready :=
  h.of_eq rfl rfl rfl h.drive

/-- A change of the lid switch (R49, R60, R61). -/
theorem State.lawsKept_lidSwitchChange (s : State) (closed : Bool) :
    ∃ t, exec (.lidSwitchChange closed) s = .next t ∧ s.LawsKept t := by
  show ∃ t, execLidSwitchChange closed s = .next t ∧ s.LawsKept t
  unfold execLidSwitchChange
  split
  · exact ⟨s, rfl, .refl s⟩
  · refine ⟨_, rfl, State.lawsKept_conclude ?_ (fun hr => ?_) s⟩
    · rw [State.judgeDisagreement_interlock, State.judgeForced_interlock, State.deriveSecured_interlock]
      exact s.interlock.keeps_lidChange closed _
    · exact (((hr.withInputs (u := { s.interlock with lidClosed := closed }) rfl rfl rfl).deriveSecured).judgeForced
        _).judgeDisagreement

/-- A change of the bin switch (R49, R60). -/
theorem State.lawsKept_binSwitchChange (s : State) (closed : Bool) :
    ∃ t, exec (.binSwitchChange closed) s = .next t ∧ s.LawsKept t := by
  show ∃ t, execBinSwitchChange closed s = .next t ∧ s.LawsKept t
  unfold execBinSwitchChange
  split
  · exact ⟨s, rfl, .refl s⟩
  · refine ⟨_, rfl, State.lawsKept_conclude ?_ (fun hr => ?_) s⟩
    · rw [State.handBin_interlock, State.judgeForced_interlock, State.deriveSecured_interlock]
      exact s.interlock.keeps_binChange closed
    · exact (((hr.withInputs (u := { s.interlock with binIn := closed }) rfl rfl rfl).deriveSecured).judgeForced
        _).handBin _

/-- A change of the latch feedback (R49, R61). -/
theorem State.lawsKept_latchFeedbackChange (s : State) (engaged : Bool) :
    ∃ t, exec (.latchFeedbackChange engaged) s = .next t ∧ s.LawsKept t := by
  show ∃ t, execLatchFeedbackChange engaged s = .next t ∧ s.LawsKept t
  unfold execLatchFeedbackChange
  split
  · exact ⟨s, rfl, .refl s⟩
  · refine ⟨_, rfl, State.lawsKept_conclude ?_ (fun hr => ?_) s⟩
    · rw [State.judgeDisagreement_interlock, State.deriveSecured_interlock]
      exact s.interlock.keeps_feedbackChange engaged _
    · exact ((hr.withInputs (u := { s.interlock with feedbackEngaged := engaged }) rfl rfl rfl).deriveSecured
        ).judgeDisagreement

/-- A change of the cutout line (R58). -/
theorem State.lawsKept_cutoutChange (s : State) (closed : Bool) :
    ∃ t, exec (.cutoutChange closed) s = .next t ∧ s.LawsKept t := by
  show ∃ t, execCutoutChange closed s = .next t ∧ s.LawsKept t
  unfold execCutoutChange
  split
  · exact ⟨s, rfl, .refl s⟩
  · refine ⟨_, rfl, State.lawsKept_conclude ?_ (fun hr => ?_) s⟩
    · cases closed with
      | true => exact s.interlock.keeps_cutoutClosed
      | false =>
        rw [if_neg Bool.false_ne_true, State.raise_interlock rfl]
        exact s.interlock.keeps_cutoutOpened
    · have hs := hr.withInputs (u := { s.interlock with cutoutClosed := closed }) rfl rfl rfl
      split
      · exact hs.deactivate _
      · exact hs.raise _

/-- The disagreement timer's end (R61). -/
theorem State.lawsKept_disagreementTimerExpiry (s : State) :
    ∃ t, exec .disagreementTimerExpiry s = .next t ∧ s.LawsKept t := by
  refine ite_lawsKept fun hover => State.lawsKept_conclude ?_ (fun hr => ?_) s
  · rw [State.raise_interlock rfl]
    refine s.interlock.keeps_disagreementOver fun hnone => ?_
    simp [State.disagreementOver, hnone] at hover
  · exact (hr.withInputs (u := { s.interlock with disagreement := none }) rfl rfl rfl).raise _

/-! ## The thermistor report (R57, R59, R72) -/

theorem State.keeps_judgeReport (s : State) : s.interlock.Keeps s.judgeReport.interlock := by
  have hsensor : s.interlock.Keeps s.judgeThermalSensor.interlock := by
    unfold State.judgeThermalSensor
    split
    · exact s.keeps_deactivate (by decide) (by decide)
    · exact s.keeps_raise rfl (by decide) (by decide) (by decide)
  refine hsensor.trans ?_
  unfold State.judgeReport State.judgeOverheat
  split
  · exact .refl _
  · split
    · exact State.keeps_raise rfl (by decide) (by decide) (by decide) _
    · split
      · exact State.keeps_deactivate (by decide) (by decide) _
      · exact .refl _

theorem State.Ready.judgeReport {s : State} (h : s.Ready) : s.judgeReport.Ready := by
  have hsensor : s.judgeThermalSensor.Ready := by
    unfold State.judgeThermalSensor
    split
    · exact h.deactivate _
    · exact h.raise _
  unfold State.judgeReport State.judgeOverheat
  split
  · exact hsensor
  · split
    · exact hsensor.raise _
    · split
      · exact hsensor.deactivate _
      · exact hsensor

theorem State.Ready.judgePlateBelow {s : State} (h : s.Ready) : s.judgePlateBelow.Ready :=
  h.of_eq (by simp) (State.chamberOk_congr (by simp)) (by simp) (by rw [State.judgePlateBelow_rotor]; exact h.drive)

theorem State.Ready.judgeHeater {s : State} (h : s.Ready) : s.judgeHeater.Ready := h.of_eq rfl rfl rfl h.drive

theorem State.lawsKept_thermistorReport (s : State) (plate air : Int) :
    ∃ t, exec (.thermistorReport plate air) s = .next t ∧ s.LawsKept t := by
  refine ⟨_, rfl, State.lawsKept_conclude ?_ (fun hr => ?_) s⟩
  · rw [State.judgeHeater_interlock, State.judgePlateBelow_interlock]
    exact State.keeps_judgeReport (s.storeReport plate air)
  · have hstored : (s.storeReport plate air).Ready := hr.of_eq rfl rfl rfl hr.drive
    exact hstored.judgeReport.judgePlateBelow.judgeHeater

/-! ## The rotor monitor (R83 to R97) -/

/-- The rotor monitor runs on, and nothing but the ports sees it. -/
theorem State.chamberStands_rotor {s : State} {r : Rotor} (h : s.rotor.Runs r) :
    s.ChamberStands { s with rotor := r } := .of_rotor h rfl rfl rfl rfl rfl rfl

/-- The rotor monitor has moved to a lawful drive. -/
theorem State.Ready.withRotor {s : State} (h : s.Ready) {r : Rotor} (hd : r.DriveLawful) :
    State.Ready { s with rotor := r } := h.of_eq rfl rfl rfl hd

theorem State.chamberStands_takeAccepted (s : State) : s.ChamberStands s.takeAccepted := by
  have hruns : s.rotor.Runs (s.rotor.acceptedPulse s.time s.labouredLimit s.pulseEdge) :=
    ⟨Rotor.mode_acceptedPulse _ _ _, fun h => Rotor.driveLawful_acceptedPulse h _ _ _⟩
  unfold State.takeAccepted
  simp only
  split
  · exact (State.chamberStands_rotor hruns).trans (.of_eq rfl rfl rfl rfl rfl rfl rfl)
  · exact State.chamberStands_rotor hruns

theorem State.lawsKept_rotorPulse (s : State) : ∃ t, exec .rotorPulse s = .next t ∧ s.LawsKept t := by
  show ∃ t, execRotorPulse s = .next t ∧ s.LawsKept t
  unfold execRotorPulse
  split
  · refine ⟨_, rfl, ?_⟩
    unfold State.takeEarly
    simp only
    split
    · refine State.lawsKept_conclude ?_ (fun hr => ?_) s
      · exact State.keeps_raise_momentary rfl { s with rotor := s.rotor.earlyPulse s.time s.pulseEdge }
      · exact (hr.withRotor (Rotor.driveLawful_earlyPulse hr.drive _ _)).raise _
    · exact (State.chamberStands_rotor (r := s.rotor.earlyPulse s.time s.pulseEdge)
        ⟨id, fun h => Rotor.driveLawful_earlyPulse h _ _⟩).lawsKept
  · exact ⟨_, rfl, s.chamberStands_takeAccepted.lawsKept⟩

/-- The rotor has come to rest: the output is OFF, as its rest timer ran (R87). -/
theorem State.lawsKept_rotorAtRest (s : State) : ∃ t, exec .rotorAtRest s = .next t ∧ s.LawsKept t := by
  refine ite_lawsKept fun hover => State.ChamberStands.lawsKept (State.ChamberStands.trans
    (t := { s with rotor := { s.rotor with atRest := true, restTimer := none, period := none, earlyCount := 0 } })
    (State.chamberStands_rotor ⟨id, fun h => ?_⟩) (State.chamberStands_reportPass _))
  obtain ⟨ho, hj, hd, htimer, -⟩ := h
  refine ⟨ho, hj, hd, fun ht => absurd rfl ht, fun _ => ⟨htimer fun hnone => ?_, rfl⟩⟩
  simp [State.restOver, hnone] at hover

theorem State.chamberStands_startJog {s : State} (h : s.rotor.mode ≠ .idle) : s.ChamberStands s.startJog := by
  unfold State.startJog
  refine .trans (State.chamberStands_rotor (r := s.rotor.startJog s.time)
    ⟨fun hi => absurd hi h, fun hd => Rotor.driveLawful_startJog hd _⟩) ?_
  exact .of_eq (by simp) (by simp) (by simp) (by simp) (by simp) (by simp) (by simp)

theorem State.lawsKept_declareJam (s : State) : s.LawsKept s.declareJam := by
  have hdrive : s.rotor.DriveLawful → s.jammed.rotor.DriveLawful := fun h => Rotor.driveLawful_stop h s.time
  rw [State.declareJam_eq]
  refine State.lawsKept_conclude ?_ (fun (hr : s.Ready) => ?_) s
  on_goal 2 => exact State.ready_tripEvent (s := s.jammed) hr.claims (hdrive hr.drive) _
  rw [State.tripEvent_interlock]
  exact ⟨fun h => Interlock.haltLawful_tripped_momentary (u := s.interlock) h _, id⟩

theorem State.lawsKept_probeFails {s : State} (h : s.rotor.mode ≠ .idle) : s.LawsKept s.probeFails := by
  unfold State.probeFails
  split
  · exact ((State.chamberStands_rotor (r := { s.rotor with attempts := s.rotor.attempts + 1 }) ⟨id, id⟩).trans
      (State.chamberStands_startJog h)).lawsKept
  · exact s.lawsKept_declareJam

theorem Rotor.mode_of_probing {r : Rotor} (h : r.probing = true) : r.mode = .jogging := by
  simp only [Rotor.probing, decide_eq_true_eq] at h
  exact h.1

theorem State.lawsKept_stall {s : State} (h : s.watching = true) : s.LawsKept s.stall := by
  unfold State.stall
  split
  next hm => exact (State.chamberStands_startJog (by rw [hm]; decide)).lawsKept
  next hm =>
    have hp : s.rotor.probing = true := by simpa [State.watching, hm] using h
    exact State.lawsKept_probeFails (by rw [Rotor.mode_of_probing hp]; decide)

theorem State.lawsKept_jogPhaseEnd (s : State) : ∃ t, exec .jogPhaseEnd s = .next t ∧ s.LawsKept t := by
  refine ite_lawsKept fun hover => (State.chamberStands_rotor ?_).lawsKept
  have hm : s.rotor.mode = .jogging := by
    unfold State.phaseOver at hover
    split at hover
    · simp only [Bool.and_eq_true, decide_eq_true_eq] at hover
      exact hover.1
    · cases hover
  exact ⟨fun hi => absurd (hm.symm.trans hi) (by decide), fun h => Rotor.driveLawful_nextPhase h hm _⟩

theorem Rotor.mode_endOnTime {r : Rotor} (now : Nat) (h : r.mode = .idle) : (r.endOnTime now).mode = .idle := by
  unfold Rotor.endOnTime
  rw [h]
  exact h

theorem State.lawsKept_offTimeEnd (s : State) : ∃ t, exec .offTimeEnd s = .next t ∧ s.LawsKept t := by
  refine ite_lawsKept fun hover => (State.chamberStands_rotor (r := s.rotor.drive s.time)
    ⟨fun hi => ?_, fun h => Rotor.driveLawful_drive h _⟩).lawsKept
  unfold State.offTimeOver at hover
  split at hover
  · simp [hi] at hover
  all_goals cases hover

theorem State.lawsKept_grindCredit (s : State) : ∃ t, exec .grindCredit s = .next t ∧ s.LawsKept t := by
  refine ite_lawsKept fun _ => State.ChamberStands.lawsKept (.trans
    (State.chamberStands_rotor (r := { s.rotor with handed := s.rotor.handed - 1 }) ⟨id, id⟩) ?_)
  exact .of_eq (by simp) (by simp) (by simp) (by simp) (by simp) (by simp) (by simp)

end Sys2Proof.Machine
end

section
/-! Every command keeps the unit's laws, the chamber law and the drive law (R49 to R67, R78, R81, R89): the requests of a
pass, the rest of the commands, and the step. -/

namespace Sys2Proof.Machine

/-! ## The requests of a pass -/

/-- A claim that a grant request puts into GRANTED: the checks of R52 have it drive the heater or the grinder in a chamber
fit for it alone. -/
theorem State.Ready.enterGranted {u : State} (h : u.Ready) {i : ClaimIdx} (hp : (u.claim i).state = .pending)
    (hchecks : u.grantChecks (u.claim i) = true) : (u.enterGranted i).Ready := by
  have hok : (u.enterGranted i).chamberOk = u.chamberOk := State.chamberOk_congr (u.enterGranted_interlock i)
  refine ⟨State.claimsLawful_enterGranted h.claims hp, fun hno j => ?_, fun ho he j => ?_,
    State.driveLawful_enterGranted h.drive i⟩
  · rw [hok] at hno
    rw [State.claim_enterGranted]
    split
    next hij =>
      rw [← Bool.not_eq_true]
      intro hg
      obtain ⟨-, hk, ht⟩ := (Claim.isHoldable_iff _).1 hg
      rw [(State.chamberOk_iff u).2 (((State.grantChecks_iff _ _).1 hchecks hk).1 ht)] at hno
      cases hno
    next => exact h.quiet hno j
  · rw [hok] at ho
    rw [State.enterGranted_interlock] at he
    rw [State.claim_enterGranted]
    split
    · simp [Claim.grantedAt]
    · exact h.resumed ho he j

theorem State.lawsKept_takeGrant (s : State) (i : ClaimIdx) (n : Word) : s.LawsKept (s.takeGrant i n) := by
  unfold State.takeGrant
  simp only
  refine State.lawsKept_conclude (.of_eq ?_) (fun hr => ?_) s
  · split
    · exact State.enterGranted_interlock _ _
    · rfl
  · have hu : State.Ready { s.dropRequest with arbiter := { s.dropRequest.arbiter with handover := none } } :=
      hr.of_eq rfl rfl rfl hr.drive
    split
    next happ =>
      obtain ⟨hp, -, hchecks⟩ := (State.grantApplies_iff _ _ _).1 happ
      exact hu.enterGranted hp hchecks
    next => exact hu

/-- A displacement begins: the grinder's drive goes on or stops. -/
theorem State.Ready.beginHandover {s : State} (h : s.Ready) (c : Claim) : (s.beginHandover c).Ready := by
  refine h.of_eq rfl rfl rfl ?_
  rw [State.beginHandover_rotor]
  split
  · exact Rotor.driveLawful_handOver h.drive _
  · exact h.drive

theorem State.Ready.applyYield {u : State} (h : u.Ready) {i : ClaimIdx} (hf : (u.claim i).inForce = true) :
    (u.applyYield i).Ready := h.of_leaves (u.leaves_applyYield i) (State.claimsLawful_applyYield h.claims i hf)

theorem State.lawsKept_takeYield (s : State) (i : ClaimIdx) (d : Bool) : s.LawsKept (s.takeYield i d) := by
  unfold State.takeYield
  simp only
  refine State.lawsKept_conclude (.of_eq ?_) (fun hr => ?_) s
  · split
    · rw [State.applyYield_interlock]
      split <;> rfl
    · rfl
  · have hd : s.dropRequest.Ready := hr.of_eq rfl rfl rfl hr.drive
    split
    next hh =>
      have hf := Claim.inForce_of_isHolder hh
      split
      · exact (hd.beginHandover _).applyYield hf
      · exact hd.applyYield hf
    next => exact hd

theorem State.lawsKept_takeRequest (s : State) : s.LawsKept s.takeRequest := by
  unfold State.takeRequest
  split
  · exact s.lawsKept_takeGrant _ _
  · exact s.lawsKept_takeYield _ _
  · exact .refl s

theorem State.lawsKept_takeRequests (n : Nat) (s : State) : s.LawsKept (State.takeRequests n s) := by
  induction n generalizing s with
  | zero => exact .refl s
  | succ n ih => exact s.lawsKept_takeRequest.trans State.claimsLawful_takeRequest (ih s.takeRequest)

theorem State.chamberStands_takeBudgetWrites (n : Nat) (s : State) : s.ChamberStands (State.takeBudgetWrites n s) := by
  induction n generalizing s with
  | zero => exact .refl s
  | succ n ih => exact s.chamberStands_takeBudgetWrite.trans (ih s.takeBudgetWrite)

theorem State.lawsKept_settleArbiter (s : State) : s.LawsKept s.settleArbiter :=
  (s.lawsKept_takeRequests _).stands (State.chamberStands_takeBudgetWrites _ _)

theorem State.lawsKept_pokeWrite (s : State) (table entry w : Nat) (seq : Option Word) (value : Word) :
    s.LawsKept (s.pokeWrite table entry w seq value).1 := by
  obtain h | ⟨k, x, hit, h⟩ | ⟨k, v, -, h⟩ | h | ⟨v, -, h⟩ := s.pokeWrite_cases table entry w seq value <;> rw [h]
  · exact .refl s
  · exact (s.chamberStands_annotate k x hit).lawsKept
  · exact (s.chamberStands_writeTuning k v).lawsKept
  · exact s.lawsKept_settleArbiter
  · exact s.lawsKept_settleArbiter.stands (State.chamberStands_applyBudget _ v)

theorem State.lawsKept_resetRelease (s : State) (first : FirstSamples) :
    ∃ t, exec (.resetRelease first) s = .next t ∧ s.LawsKept t := by
  obtain ⟨t, ht, ⟨-, hhalt, hinput, hchamber, hdrive, -⟩, -⟩ := resetReleaseIsLawful first s
  exact ⟨t, ht, ⟨fun _ => hhalt, fun _ => hinput⟩, fun _ _ _ => ⟨hchamber, hdrive⟩⟩

/-- A pass issues its requests, and the handover is not its to end. -/
theorem Arbiter.handover_answered (a : Arbiter) (together : Bool) : (a.answered together).handover = a.handover := by
  unfold Arbiter.answered
  (repeat' split) <;> rfl

theorem State.lawsKept_arbitrationPass (s : State) (together : Bool) :
    ∃ t, exec (.arbitrationPass together) s = .next t ∧ s.LawsKept t :=
  ite_lawsKept fun _ => State.ChamberStands.lawsKept
    (.of_eq rfl rfl rfl (s.arbiter.handover_answered together) rfl rfl rfl)

/-! ## The rest of the commands -/

theorem State.chamberStands_second (s : State) :
    s.ChamberStands { s with claims := s.claims.map Claim.second, sensors := s.sensors.second } := by
  refine .of_driving (fun j => ?_) rfl rfl rfl (.refl _) ?_ rfl
  · have hmap : State.claim { s with claims := s.claims.map Claim.second, sensors := s.sensors.second } j =
        (s.claim j).second := Vector.getElem_map ..
    rw [hmap, Claim.driving_second]
  · show s.sensors.second.plateBelowOpen = s.sensors.plateBelowOpen
    unfold Sensors.second
    split <;> rfl

theorem State.lawsKept_runTimeExpiry (s : State) (i : ClaimIdx) :
    ∃ t, exec (.runTimeExpiry i) s = .next t ∧ s.LawsKept t := by
  refine ite_lawsKept fun h => State.lawsKept_end ?_ (by decide)
  simp only [Claim.runTimeOver, decide_eq_true_eq] at h
  simp [Claim.inForce, h.1]

theorem State.lawsKept_deadlineExpiry (s : State) (i : ClaimIdx) :
    ∃ t, exec (.deadlineExpiry i) s = .next t ∧ s.LawsKept t := by
  refine ite_lawsKept fun h => State.lawsKept_end ?_ (by decide)
  simp only [Claim.deadlineOver, decide_eq_true_eq] at h
  simp [Claim.inForce, h.1]

theorem Sensors.plateBelowOpen_storeHumidity (m : Sensors) (x : HumidityReading) :
    (m.storeHumidity x).plateBelowOpen = m.plateBelowOpen := by
  cases x <;> rfl

theorem Sensors.plateBelowOpen_storeLoad (m : Sensors) (x : LoadReading) :
    (m.storeLoad x).plateBelowOpen = m.plateBelowOpen := by
  cases x <;> rfl

/-- A sensor conversion that is not the plate's. -/
theorem State.chamberStands_sensors {s : State} {m : Sensors} (h : m.plateBelowOpen = s.sensors.plateBelowOpen) :
    s.ChamberStands { s with sensors := m } := .of_eq rfl rfl rfl rfl rfl h rfl

theorem State.chamberStands_takeSample (s : State) (x : HumidityReading) : s.ChamberStands (s.takeSample x) :=
  .of_eq (by simp) (by simp) (by simp) (by simp) (by simp) (by simp) (by simp)

theorem State.lawsKept_doseSample (s : State) (x : HumidityReading) :
    ∃ t, exec (.doseSample x) s = .next t ∧ s.LawsKept t := by
  refine ite_lawsKept fun _ => State.ChamberStands.lawsKept (.trans (State.chamberStands_sensors ?_)
    (State.chamberStands_takeSample _ x))
  exact s.sensors.plateBelowOpen_storeHumidity x

theorem State.lawsKept_probeWindowEnd (s : State) : ∃ t, exec .probeWindowEnd s = .next t ∧ s.LawsKept t := by
  refine ite_lawsKept fun h => State.lawsKept_probeFails ?_
  obtain ⟨hp, -⟩ := (Bool.and_eq_true _ _).mp h
  rw [Rotor.mode_of_probing hp]
  decide

theorem State.lawsKept_onTimeEnd (s : State) : ∃ t, exec .onTimeEnd s = .next t ∧ s.LawsKept t :=
  ite_lawsKept fun _ => (State.chamberStands_rotor (r := s.rotor.endOnTime s.time)
    ⟨Rotor.mode_endOnTime _, fun h => Rotor.driveLawful_endOnTime h _⟩).lawsKept

theorem State.lawsKept_cleanRun (s : State) : ∃ t, exec .cleanRunTimerExpiry s = .next t ∧ s.LawsKept t :=
  ite_lawsKept fun _ => (State.chamberStands_rotor (r := { s.rotor with attempts := 0, cleanRun := none })
    ⟨id, id⟩).lawsKept

/-- What the batch unit alone takes. -/
theorem State.chamberStands_batch (s : State) (b : BatchUnit) : s.ChamberStands { s with batch := b } :=
  .of_eq rfl rfl rfl rfl rfl rfl rfl

theorem State.lawsKept_massAfterSettleEnd (s : State) : ∃ t, exec .massAfterSettleEnd s = .next t ∧ s.LawsKept t := by
  show ∃ t, execMassAfterSettleEnd s = .next t ∧ s.LawsKept t
  unfold execMassAfterSettleEnd
  split
  · split
    · exact ⟨_, rfl, State.ChamberStands.lawsKept
        (.of_eq (by simp) (by simp) (by simp) (by simp) (by simp) (by simp) (by simp))⟩
    · exact ⟨_, rfl, (s.chamberStands_batch _).lawsKept⟩
  · exact ⟨_, rfl, .refl s⟩

theorem State.lawsKept_retirement (s : State) : ∃ t, exec .retirement s = .next t ∧ s.LawsKept t := by
  show ∃ t, execRetirement s = .next t ∧ s.LawsKept t
  unfold execRetirement
  split
  · exact ⟨_, rfl, State.ChamberStands.lawsKept
      (.of_eq (by simp) (by simp) (by simp) (by simp) (by simp) (by simp) (by simp))⟩
  · exact ⟨_, rfl, .refl s⟩
  · exact ⟨_, rfl, .refl s⟩

/-! ## The service link -/

theorem State.chamberStands_reply (s : State) (answer : Word) (sack : Nat) : s.ChamberStands (s.reply answer sack) :=
  .of_eq rfl rfl rfl rfl rfl rfl rfl

theorem State.chamberStands_takePeek (s : State) (table entry w : Nat) : s.ChamberStands (s.takePeek table entry w) := by
  unfold State.takePeek
  split
  · exact .of_eq rfl rfl rfl rfl rfl rfl rfl
  · split <;> exact .of_eq rfl rfl rfl rfl rfl rfl rfl

theorem State.chamberStands_takePoke (s : State) (table entry w : Nat) : s.ChamberStands (s.takePoke table entry w) :=
  .of_eq rfl rfl rfl rfl rfl rfl rfl

theorem State.chamberStands_takeVerify (s : State) : s.ChamberStands s.takeVerify := by
  unfold State.takeVerify
  split
  · exact .of_eq rfl rfl rfl rfl rfl rfl rfl
  · exact .refl s
  · exact .refl s

theorem State.chamberStands_postAll (s : State) (n : Source) : s.ChamberStands (s.postAll n) :=
  .of_eq (by simp) (by simp) (by simp) (by simp) (by simp) (by simp) (by simp)

/-! ## All of them -/

/-- Every command keeps the laws. -/
theorem exec_lawsKept (s : State) (c : Instr) : ∃ t, exec c s = .next t ∧ s.LawsKept t := by
  cases c with
  | resetRelease first => exact s.lawsKept_resetRelease first
  | transactionStart p =>
    show ∃ t, execTransactionStart p s = .next t ∧ s.LawsKept t
    unfold execTransactionStart
    split
    · exact ⟨_, rfl, (s.chamberStands_updPort _ _).lawsKept⟩
    · exact ⟨_, rfl, .refl s⟩
  | transactionTaken p x =>
    show ∃ t, execTransactionTaken p x s = .next t ∧ s.LawsKept t
    unfold execTransactionTaken
    split
    · exact ⟨_, rfl, (s.chamberStands_updPort _ _).lawsKept⟩
    · exact ⟨_, rfl, (s.chamberStands_updPort _ _).lawsKept⟩
  | busyTransaction x =>
    show ∃ t, execBusyTransaction x s = .next t ∧ s.LawsKept t
    unfold execBusyTransaction
    split
    · exact ⟨_, rfl, .refl s⟩
    · exact ⟨_, rfl, (s.chamberStands_updPort _ _).lawsKept⟩
  | shortTransaction x => exact ite_lawsKept fun _ => (s.chamberStands_updPort _ _).lawsKept
  | nop p => exact onRequest_stands fun _ => s.chamberStands_answer _ _ _
  | status p => exact onRequest_stands fun req => s.chamberStands_takeStatus p req
  | noticeRead p => exact onRequest_stands fun _ => s.chamberStands_answer _ _ _
  | noticeClear p => exact onRequest_stands fun _ => s.chamberStands_updPort _ _
  | noticeLevel p => exact onRequest_stands fun req => s.chamberStands_takeNoticeLevel p req
  | accessRead p => exact onRequest_stands fun req => s.chamberStands_takeAccessRead p req
  | accessWrite p => exact onRequest_stands fun req => s.chamberStands_takeAccessWrite p req
  | portReset p => exact onRequest_lawsKept fun _ => s.lawsKept_takePortReset p
  | rotorRead p => exact onRequest_stands fun req => s.chamberStands_takeRotorRead p req
  | draft p => exact onRequest_stands fun req => s.chamberStands_takeDraft p req
  | arm p => exact onRequest_lawsKept fun req => s.lawsKept_takeArm p req
  | disarm p => exact onRequest_lawsKept fun req => s.lawsKept_takeDisarm p req
  | alter p => exact onRequest_stands fun req => s.chamberStands_takeAlter p req
  | claimRead p => exact onRequest_stands fun req => s.chamberStands_takeClaimRead p req
  | batchRead p => exact onRequest_stands fun req => s.chamberStands_takeBatchRead p req
  | batchReserve p => exact onRequest_stands fun req => s.chamberStands_takeBatchReserve p req
  | batchCommit p => exact onRequest_stands fun req => s.chamberStands_takeBatchCommit p req
  | retiredPeek p => exact onRequest_stands fun req => s.chamberStands_takeRetiredPeek p req
  | retiredTake p => exact onRequest_stands fun req => s.chamberStands_takeRetiredTake p req
  | haltClear p => exact onRequest_lawsKept fun _ => s.lawsKept_takeHaltClear p
  | tuningRead p => exact onRequest_stands fun req => s.chamberStands_takeTuningRead p req
  | tuningWrite p => exact onRequest_stands fun req => s.chamberStands_takeTuningWrite p req
  | budgetWrite =>
    show ∃ t, execBudgetWrite s = .next t ∧ s.LawsKept t
    unfold execBudgetWrite
    split
    · exact ⟨_, rfl, .refl s⟩
    · exact ⟨_, rfl, s.chamberStands_takeBudgetWrite.lawsKept⟩
  | arbitrationPass together => exact s.lawsKept_arbitrationPass together
  | grant =>
    show ∃ t, execGrant s = .next t ∧ s.LawsKept t
    unfold execGrant
    split
    · exact ⟨_, rfl, s.lawsKept_takeGrant _ _⟩
    · exact ⟨_, rfl, .refl s⟩
    · exact ⟨_, rfl, .refl s⟩
  | yield =>
    show ∃ t, execYield s = .next t ∧ s.LawsKept t
    unfold execYield
    split
    · exact ⟨_, rfl, s.lawsKept_takeYield _ _⟩
    · exact ⟨_, rfl, .refl s⟩
    · exact ⟨_, rfl, .refl s⟩
  | chamberClockIncrement => exact ⟨_, rfl, s.chamberStands_second.lawsKept⟩
  | runTimeExpiry i => exact s.lawsKept_runTimeExpiry i
  | deadlineExpiry i => exact s.lawsKept_deadlineExpiry i
  | lidSwitchChange closed => exact s.lawsKept_lidSwitchChange closed
  | binSwitchChange closed => exact s.lawsKept_binSwitchChange closed
  | latchFeedbackChange engaged => exact s.lawsKept_latchFeedbackChange engaged
  | cutoutChange closed => exact s.lawsKept_cutoutChange closed
  | disagreementTimerExpiry => exact s.lawsKept_disagreementTimerExpiry
  | thermistorReport plate air => exact s.lawsKept_thermistorReport plate air
  | loadCellConversion reading => 
    exact ⟨_, rfl, (State.chamberStands_sensors (s.sensors.plateBelowOpen_storeLoad reading)).lawsKept⟩
  | doseSample humidity => exact s.lawsKept_doseSample humidity
  | grindCredit => exact s.lawsKept_grindCredit
  | rotorPulse => exact s.lawsKept_rotorPulse
  | rotorAtRest => exact s.lawsKept_rotorAtRest
  | startGraceRunsOut => exact ite_lawsKept fun h => State.lawsKept_stall ((Bool.and_eq_true _ _).mp h).1
  | stallDeadlinePassed => exact ite_lawsKept fun h => State.lawsKept_stall ((Bool.and_eq_true _ _).mp h).1
  | jogPhaseEnd => exact s.lawsKept_jogPhaseEnd
  | probeWindowEnd => exact s.lawsKept_probeWindowEnd
  | onTimeEnd => exact s.lawsKept_onTimeEnd
  | offTimeEnd => exact s.lawsKept_offTimeEnd
  | cleanRunTimerExpiry => exact s.lawsKept_cleanRun
  | massBeforeSample =>
    show ∃ t, execMassBeforeSample s = .next t ∧ s.LawsKept t
    unfold execMassBeforeSample
    split <;> exact ⟨_, rfl, (s.chamberStands_batch _).lawsKept⟩
  | massAfterSettleStart =>
    show ∃ t, execMassAfterSettleStart s = .next t ∧ s.LawsKept t
    unfold execMassAfterSettleStart
    split <;> exact ⟨_, rfl, (s.chamberStands_batch _).lawsKept⟩
  | massAfterSettleEnd => exact s.lawsKept_massAfterSettleEnd
  | binInsertion =>
    show ∃ t, execBinInsertion s = .next t ∧ s.LawsKept t
    unfold execBinInsertion
    split <;> exact ⟨_, rfl, (s.chamberStands_batch _).lawsKept⟩
  | tareSettleEnd => exact ite_lawsKept fun _ => (s.chamberStands_batch _).lawsKept
  | retirement => exact s.lawsKept_retirement
  | idleFrame bits => exact takeFrame_stands fun _ => s.chamberStands_reply _ _
  | unknownCommandFrame bits => exact takeFrame_stands fun _ => s.chamberStands_reply _ _
  | peek table entry w low => exact takeFrame_stands fun _ => s.chamberStands_takePeek _ _ _
  | poke table entry w low => exact takeFrame_stands fun _ => s.chamberStands_takePoke _ _ _
  | pokeDataFrame bits =>
    exact execPokeDataFrame_next (P := s.LawsKept) (fun _ _ h => h.stands (.of_eq rfl rfl rfl rfl rfl rfl rfl)) (.refl s)
      s.lawsKept_pokeWrite bits
  | verifyFrame bits => exact takeFrame_stands fun _ => s.chamberStands_takeVerify
  | watch bits => exact takeFrame_stands fun _ => s.chamberStands_reply _ _
  | touched bits => exact takeFrame_stands fun _ => s.chamberStands_reply _ _
  | call bits => exact takeFrame_stands fun _ => (s.chamberStands_postAll _).trans (State.chamberStands_reply _ _ _)
  | resync => exact ite_lawsKept fun _ => State.ChamberStands.lawsKept (.of_eq rfl rfl rfl rfl rfl rfl rfl)

/-! ## The step -/

theorem State.chamberStands_withPending (s : State) (rest : List Instr) : s.ChamberStands (s.withPending rest) :=
  .of_eq rfl rfl rfl rfl rfl rfl rfl

theorem step_lawsKept {s t : State} (h : step s = .next t) : s.LawsKept t := by
  cases hp : s.pending with
  | nil =>
    rw [step_nil s hp] at h
    cases h
    exact State.ChamberStands.lawsKept (.of_eq rfl rfl rfl rfl rfl rfl rfl)
  | cons c rest =>
    rw [step_cons s c rest hp] at h
    obtain ⟨u, hu, hkept⟩ := exec_lawsKept (s.withPending rest) c
    rw [hu] at h
    cases h
    exact (s.chamberStands_withPending rest).lawsKept.trans (State.claimsLawful_congr rfl) hkept

/-- Settles O8, by what each event does to the unit: a trip, a deactivation, a change of an input or of the command. -/
theorem stepKeepsTheHaltAndInputLaws : Obligations.StepKeepsTheHaltAndInputLaws := by
  intro s t h
  obtain ⟨hhalt, hinput⟩ := (step_lawsKept h).unit
  exact ⟨hhalt, hinput⟩

/-- Settles O9: an event leaves the claims ready for its end, and its end restores the law. -/
theorem stepKeepsTheChamberLaw : Obligations.StepKeepsTheChamberLaw :=
  fun _ _ hl hc hd h => (step_lawsKept h).chamber hl hc hd

end Sys2Proof.Machine
end

section
/-! The ports after reset release (R145, R146, R152, R157): each at its reset values, but for one TRIP if the first samples
trip. -/

namespace Sys2Proof.Machine

/-! ## A port at reset release -/

/-- A port of that class at its reset values, and with TRIP posted after them if the part has tripped. -/
def PortState.afterReset (cls : PortClass) (halted : Bool) : PortState :=
  if halted then ((PortState.reset cls).postNotice .trip).refresh else .reset cls

/-- A second TRIP changes nothing more. -/
theorem PortState.afterReset_trip (cls : PortClass) (halted : Bool) :
    ((PortState.afterReset cls halted).postNotice .trip).refresh = .afterReset cls true := by
  cases halted with
  | false => rfl
  | true => cases cls <;> rfl

theorem State.port_postAll (s : State) (n : Source) (p : Port) :
    (s.postAll n).port p = ((s.port p).postNotice n).refresh := by
  have hp : p = 0 ∨ p = 1 ∨ p = 2 := by revert p; decide
  unfold State.postAll State.post
  simp only [State.port_updPort]
  obtain rfl | rfl | rfl := hp <;> simp

/-! ## The first samples judged -/

/-- Every entry is FREE, and every port is as reset release leaves it, halted or not. -/
def State.PortsAfterReset (f : FirstSamples) (s : State) : Prop :=
  s.claims = Table.reset ∧ ∀ p, s.port p = .afterReset (portClass (f.straps.get p)) s.interlock.haltLatch

/-- No port and no halt latch moves. -/
theorem State.PortsAfterReset.of_eq {f : FirstSamples} {s t : State} (h : s.PortsAfterReset f)
    (hc : t.claims = s.claims) (hp : t.ports = s.ports) (hh : t.interlock.haltLatch = s.interlock.haltLatch) :
    t.PortsAfterReset f := by
  obtain ⟨hclaims, hports⟩ := h
  exact ⟨hc.trans hclaims, fun p => by rw [State.port_congr hp, hports, hh]⟩

theorem State.PortsAfterReset.raise {f : FirstSamples} {s : State} (h : s.PortsAfterReset f) {c : Cause}
    (hm : c.momentary = false) : (s.raise c).PortsAfterReset f := by
  have hjam : c ≠ .jam := fun he => by rw [he] at hm; cases hm
  obtain ⟨hclaims, hports⟩ := h
  unfold State.raise
  rw [hm, if_neg Bool.false_ne_true]
  split
  · exact ⟨hclaims, hports⟩
  · rw [State.tripEvent_eq, State.tripStarts_of_not_jam hjam, State.holdAll_of_reset (by exact hclaims)]
    refine ⟨hclaims, fun p => ?_⟩
    rw [State.port_postAll]
    exact (congrArg (fun q : PortState => (q.postNotice .trip).refresh) (hports p)).trans (PortState.afterReset_trip _ _)

theorem State.PortsAfterReset.deactivate {f : FirstSamples} {s : State} (h : s.PortsAfterReset f) (c : Cause) :
    (s.deactivate c).PortsAfterReset f := h.of_eq rfl rfl rfl

theorem State.PortsAfterReset.judgeReport {f : FirstSamples} {s : State} (h : s.PortsAfterReset f) :
    s.judgeReport.PortsAfterReset f := by
  have hsensor : s.judgeThermalSensor.PortsAfterReset f := by
    unfold State.judgeThermalSensor
    split
    · exact h.deactivate _
    · exact h.raise rfl
  unfold State.judgeReport State.judgeOverheat
  split
  · exact hsensor
  · split
    · exact hsensor.raise rfl
    · split
      · exact hsensor.deactivate _
      · exact hsensor

theorem State.portsAfterReset_first (f : FirstSamples) (pending : List Instr) :
    (State.first f pending).PortsAfterReset f :=
  ⟨rfl, fun p => Vector.getElem_map (fun x => PortState.reset (portClass x)) p.isLt⟩

theorem portsAfterReset_judgeFirst (f : FirstSamples) (pending : List Instr) :
    (State.first f pending).judgeFirst.PortsAfterReset f := by
  have hstart : (State.first f pending).judgeDisagreement.PortsAfterReset f :=
    (State.portsAfterReset_first f pending).of_eq rfl rfl rfl
  have hcut : (if f.cutoutClosed then (State.first f pending).judgeDisagreement
      else (State.first f pending).judgeDisagreement.raise .cutout).PortsAfterReset f := by
    split
    · exact hstart
    · exact hstart.raise rfl
  refine hcut.judgeReport.of_eq ?_ (ports_judgeFirst f pending) ?_
  · rw [judgeFirst_eq, unitMoves_first]
    rfl
  · rw [judgeFirst_eq, unitMoves_first]
    rfl

/-! ## The class of a port -/

/-- The class that the straps give is the one that the table of R146 names. -/
theorem portClass_eq {x : Straps} {cls : PortClass} (hcontrol : cls = .control ↔ x.cls1 = false ∧ x.cls0 = false)
    (hpanel : cls = .panel ↔ x.cls1 = false ∧ x.cls0 = true) (hlink : cls = .link ↔ x.cls1 = true ∧ x.cls0 = false)
    (hnone : cls = .none ↔ x.cls1 = true ∧ x.cls0 = true) : portClass x = cls := by
  unfold portClass
  split
  next h1 h0 => exact (hcontrol.2 ⟨h1, h0⟩).symm
  next h1 h0 => exact (hpanel.2 ⟨h1, h0⟩).symm
  next h1 h0 => exact (hlink.2 ⟨h1, h0⟩).symm
  next h1 h0 => exact (hnone.2 ⟨h1, h0⟩).symm

/-- The rights and the floor of each class (R152). -/
theorem Access.ofClass_eq (cls : PortClass) : Access.ofClass cls =
    { heater := decide (cls = .control), grinder := decide (cls = .control), fan := decide (cls ≠ .none)
      latch := decide (cls = .control ∨ cls = .panel), curb := decide (cls ≠ .none)
      annotate := decide (cls ≠ .none), tuning := decide (cls = .control)
      haltClear := decide (cls = .control ∨ cls = .panel), access := decide (cls = .control)
      floor := if cls = .control then 0 else if cls = .panel then 2 else if cls = .link then 6 else 14 } := by
  cases cls <;> rfl

/-- The notice levels at reset: 0 for TRIP, 15 for the others (R145). -/
theorem levels_reset (cls : PortClass) : (PortState.reset cls).levels.get 0 = 0 ∧
    ∀ n : Fin 16, n ≠ 0 → (PortState.reset cls).levels.get n = 15 := by
  refine ⟨rfl, ?_⟩
  show ∀ n : Fin 16, n ≠ 0 → (PortState.reset .none).levels.get n = 15
  decide

/-- Settles O5, by the first samples' judging: in an empty claim table a raised cause posts TRIP and nothing else. -/
theorem resetReleaseSetsThePorts : Obligations.ResetReleaseSetsThePorts := by
  intro f s
  refine ⟨_, rfl, fun p x hx cls hcontrol hpanel hlink hnone => ?_⟩
  obtain ⟨-, hports⟩ := portsAfterReset_judgeFirst f s.pending
  rw [hports p, ← hx, portClass_eq hcontrol hpanel hlink hnone]
  obtain ⟨htrip, hothers⟩ := levels_reset cls
  cases (State.first f s.pending).judgeFirst.interlock.haltLatch with
  | false => exact ⟨rfl, Access.ofClass_eq cls, rfl, rfl, rfl, rfl, htrip, hothers, fun _ => ⟨rfl, rfl⟩, nofun⟩
  | true =>
    refine ⟨rfl, Access.ofClass_eq cls, rfl, rfl, rfl, rfl, htrip, hothers, nofun, fun _ => ?_⟩
    cases cls <;> exact ⟨rfl, rfl⟩

end Sys2Proof.Machine
end

section
/-! A hold request, and what a trip adds to it, inside a larger event (R15, R50, R63): what has been taken before the end of
the event, and what the end makes of it in a chamber that is not fit. -/

namespace Sys2Proof.Machine

/-! ## The handover -/

/-- An end leaves a handover under way (R44, log 9). -/
theorem State.handover_endAndReport (s : State) (i : ClaimIdx) (why : ClaimOutcome) :
    (s.endAndReport i why).arbiter.handover = s.arbiter.handover := by
  unfold State.endAndReport
  simp

theorem State.handover_holdOne (s : State) (i : ClaimIdx) :
    (s.holdOne i).arbiter.handover = s.arbiter.handover := by
  unfold State.holdOne
  simp only
  split
  · split
    · exact State.handover_endAndReport _ _ _
    · split <;> simp
  · rfl

theorem State.handover_holdAll (s : State) : s.holdAll.arbiter.handover = s.arbiter.handover := by
  unfold State.holdAll
  exact foldl_invariant (fun u => u.arbiter.handover = s.arbiter.handover) State.holdOne
    (fun u i hu => (u.handover_holdOne i).trans hu) all16 s rfl

theorem State.requests_holdAll (s : State) : s.holdAll.arbiter.requests = s.arbiter.requests :=
  (s.calm_holdAll (arms := anyArming)).requests

/-! ## The latch beside a hold (R15, R53) -/

/-- A hold takes no claim of the latch. -/
theorem Claim.grantedOn_latch_afterHold (c : Claim) : c.afterHold.grantedOn .latch = c.grantedOn .latch := by
  cases hh : c.isHoldable with
  | false => rw [Claim.afterHold_of_not_holdable hh]
  | true =>
    obtain ⟨-, -, ht⟩ := (Claim.isHoldable_iff c).1 hh
    have hc : c.grantedOn .latch = false := by
      rw [← Bool.not_eq_true, Claim.grantedOn_iff]
      rintro ⟨-, -, hl⟩
      rw [hl] at ht
      rcases ht with ht | ht <;> cases ht
    have hd : c.afterHold.grantedOn .latch = false := by
      rw [← Bool.not_eq_true, Claim.grantedOn_iff]
      rintro ⟨hs, -⟩
      unfold Claim.afterHold at hs
      rw [if_pos hh] at hs
      split at hs
      · exact c.state_afterEnd_ne_granted _ hs
      · cases hs
    rw [hc, hd]

/-! ## The end of an event at the unit -/

/-- The latch command reaches no active flag but LATCH_FAULT (R53, R61). -/
theorem State.active_setLatchCommand_eq (s : State) (k : LatchCommand) {c : Cause} (hc : c ≠ .latchFault) :
    (s.setLatchCommand k).interlock.active.has c = s.interlock.active.has c := by
  unfold State.setLatchCommand
  split
  · rfl
  · rw [Interlock.judgeDisagreement_active]
    simp [hc]

/-- The end of an event leaves every active flag but LATCH_FAULT (R53, R61). -/
theorem State.active_conclude_eq (u old : State) {c : Cause} (hc : c ≠ .latchFault) :
    (u.conclude old).interlock.active.has c = u.interlock.active.has c := by
  rw [State.conclude_interlock, State.followLatch_interlock]
  exact u.active_setLatchCommand_eq _ hc

/-- An event of the unit that leaves the claim table and the latch command alone ends with the table, the ports and the
unit as it left them (R53). -/
theorem State.conclude_of_latchFollows {u : State} (h : u.LatchFollows) (old : State) :
    (u.conclude old).interlock = u.interlock ∧ (u.conclude old).claims = u.claims ∧
      (u.conclude old).ports = u.ports := by
  have hr := State.not_resumesHeld_of_latchFollows h
  refine ⟨State.conclude_interlock_stands h old, ?_, ?_⟩
  · rw [State.conclude_claims, State.claims_followLatch_of_not_resumes hr]
  · rw [State.conclude_ports, State.followLatch_of_not_resumes hr, State.setLatchCommand_ports]

/-- Where the latch command stands by the table, it does so by the same claims and the same command. -/
theorem State.LatchFollows.of_eq {s u : State} (h : s.LatchFollows) (hc : u.claims = s.claims)
    (ha : u.arbiter.handover = s.arbiter.handover) (hk : u.interlock.latchCommand = s.interlock.latchCommand) :
    u.LatchFollows := by
  unfold State.LatchFollows
  rw [hk, State.driven_congr hc ha]
  exact h

/-! ## What stands before a hold -/

/-- The claim table, the ports and the arbiter stand. -/
structure State.TableStands (s x : State) : Prop where
  claims : x.claims = s.claims
  ports : x.ports = s.ports
  arbiter : x.arbiter = s.arbiter

/-! ## A hold taken inside an event -/

/-- Since the state s a hold request has been taken, with its notices and those that the test names and its reports, in a
chamber that is not fit (R15). -/
structure State.HeldBy (s u : State) (named : Source → Port → Prop) : Prop where
  claim : ∀ j, u.claim j = (s.claim j).afterHold
  notifies : s.Notifies u fun n q => s.HoldNotice (fun _ => false) n q ∨ named n q
  reports : (∃ i, (s.claim i).holdReports) → u.passDue = true
  requests : u.arbiter.requests = s.arbiter.requests
  handover : u.arbiter.handover = s.arbiter.handover
  unfit : u.chamberOk = false

theorem State.heldBy_holdAll {s x : State} (h : s.TableStands x) (hok : x.chamberOk = false) :
    s.HeldBy x.holdAll fun _ _ => False := by
  obtain ⟨hclaims, hports, harbiter⟩ := h
  have hc : ∀ j, x.claim j = s.claim j := State.claim_congr hclaims
  refine ⟨fun j => by rw [State.claim_holdAll, hc], ?_, fun hr => State.passDue_holdAll (.inr (by simpa only [hc] using hr)),
    by rw [State.requests_holdAll, harbiter], by rw [State.handover_holdAll, harbiter],
    (State.chamberOk_congr x.holdAll_interlock).trans hok⟩
  refine (x.notifies_holdAll.congr hports.symm rfl).iff fun n q => ?_
  simp only [hc]
  rw [hold_notice_iff, or_false]

namespace State.HeldBy

variable {s u v : State} {named : Source → Port → Prop}

/-- What follows moves neither the table nor the ports, nor makes the chamber fit. -/
theorem of_eq (h : s.HeldBy u named) (hc : v.claims = u.claims) (hp : v.ports = u.ports)
    (hd : u.passDue = true → v.passDue = true) (hr : v.arbiter.requests = u.arbiter.requests)
    (hh : v.arbiter.handover = u.arbiter.handover) (hok : v.chamberOk = false) : s.HeldBy v named :=
  ⟨fun j => (State.claim_congr hc j).trans (h.claim j), h.notifies.congr rfl hp, hd ∘ h.reports, hr.trans h.requests,
    hh.trans h.handover, hok⟩

/-- A second hold finds nothing to hold (R15). -/
theorem holdAll (h : s.HeldBy u named) : s.HeldBy u.holdAll named := by
  have hquiet : ∀ j, (u.claim j).isHoldable = false := fun j => by rw [h.claim]; exact Claim.isHoldable_afterHold _
  refine ⟨fun j => by rw [State.claim_holdAll, h.claim, Claim.afterHold_afterHold], ?_,
    fun hr => State.passDue_holdAll (.inl (h.reports hr)), u.requests_holdAll.trans h.requests,
    u.handover_holdAll.trans h.handover, (State.chamberOk_congr u.holdAll_interlock).trans h.unfit⟩
  refine (h.notifies.trans u.notifies_holdAll).iff fun n q => or_iff_left ?_
  rintro ⟨j, hj, -⟩
  rw [hquiet j] at hj
  cases hj

theorem postAll (h : s.HeldBy u named) (n : Source) : s.HeldBy (u.postAll n) fun m q => named m q ∨ m = n :=
  ⟨h.claim, (h.notifies.trans (u.notifies_postAll n)).iff fun _ _ => or_assoc, h.reports, h.requests, h.handover,
    h.unfit⟩

end State.HeldBy

theorem State.chamberOk_tripped {x : State} {c : Cause} :
    State.chamberOk { x with interlock := x.interlock.tripped c } = false := by
  simp [State.chamberOk, Interlock.tripped]

/-- A trip event: a hold, and TRIP to every port (R63). -/
theorem State.heldBy_tripEvent {s x : State} (h : s.TableStands x) {c : Cause} (hc : c ≠ .jam) :
    s.HeldBy (x.tripEvent c) fun n _ => n = .trip := by
  have hstarts : s.TableStands { x with interlock := x.interlock.tripped c } := ⟨h.claims, h.ports, h.arbiter⟩
  have hheld := (State.heldBy_holdAll hstarts State.chamberOk_tripped).postAll .trip
  rw [State.tripEvent_eq, State.tripStarts_of_not_jam hc]
  simpa only [false_or] using hheld

/-- A trip event after a hold adds TRIP (R50, R60, R63). -/
theorem State.HeldBy.tripEvent {s u : State} {named : Source → Port → Prop} (h : s.HeldBy u named) {c : Cause}
    (hc : c ≠ .jam) : s.HeldBy (u.tripEvent c) fun n q => named n q ∨ n = .trip := by
  rw [State.tripEvent_eq, State.tripStarts_of_not_jam hc]
  have hstarts : s.HeldBy { u with interlock := u.interlock.tripped c } named :=
    h.of_eq rfl rfl id rfl rfl State.chamberOk_tripped
  exact hstarts.holdAll.postAll .trip

/-! ## A cause raised (R56) -/

theorem Cause.ne_jam_of_not_momentary {c : Cause} (h : c.momentary = false) : c ≠ .jam := fun he => by
  rw [he] at h
  cases h

theorem State.raise_of_active {x : State} {c : Cause} (hm : c.momentary = false)
    (ha : x.interlock.active.has c = true) : x.raise c = x := by
  unfold State.raise State.isActive
  rw [hm, if_neg Bool.false_ne_true, if_pos ha]

theorem State.raise_of_not_active {x : State} {c : Cause} (hm : c.momentary = false)
    (ha : x.interlock.active.has c = false) : x.raise c = (x.activate c).tripEvent c := by
  unfold State.raise State.isActive
  rw [hm, if_neg Bool.false_ne_true, if_neg (by simp [ha])]

theorem State.heldBy_raise {s x : State} (h : s.TableStands x) {c : Cause} (hm : c.momentary = false)
    (ha : x.interlock.active.has c = false) : s.HeldBy (x.raise c) fun n _ => n = .trip := by
  have hstarts : s.TableStands (x.activate c) := ⟨h.claims, h.ports, h.arbiter⟩
  rw [State.raise_of_not_active hm ha]
  exact State.heldBy_tripEvent hstarts (Cause.ne_jam_of_not_momentary hm)

theorem State.HeldBy.raise {s u : State} {named : Source → Port → Prop} (h : s.HeldBy u named) {c : Cause}
    (hm : c.momentary = false) (ha : u.interlock.active.has c = false) :
    s.HeldBy (u.raise c) fun n q => named n q ∨ n = .trip := by
  have hstarts : s.HeldBy (u.activate c) named := h.of_eq rfl rfl id rfl rfl h.unfit
  rw [State.raise_of_not_active hm ha]
  exact hstarts.tripEvent (Cause.ne_jam_of_not_momentary hm)

/-! ## The end of the event -/

namespace State.HeldBy

variable {s u : State} {named : Source → Port → Prop}

theorem notifies_conclude (h : s.HeldBy u named) (old : State) :
    s.Notifies (u.conclude old) fun n q => s.HoldNotice (fun _ => false) n q ∨ named n q :=
  h.notifies.congr rfl (State.conclude_ports_of_not_ok h.unfit old)

theorem holdTaken (h : s.HeldBy u named) (old : State) : s.HoldTaken (u.conclude old) (fun _ => false) := by
  intro i _
  have hclaim := (State.claim_conclude_of_not_ok h.unfit old i).trans (h.claim i)
  have hposted : ∀ n q, (s.claim i).HoldNotice n q → (u.conclude old).Posted n q := fun n q hn =>
    (h.notifies_conclude old).posted (.inl ((hold_notice_iff s n q).1 ⟨i, hn⟩))
  have hdue : (s.claim i).holdReports → (u.conclude old).passDue = true := fun hr =>
    State.passDue_conclude (h.reports ⟨i, hr⟩) old
  refine ⟨fun hh ht => ⟨?_, fun q hq => hposted _ q ⟨hh, hq, (if_neg (by simp [ht])).symm⟩, fun hg => hdue ⟨hh, .inr hg⟩⟩,
    fun hh ht => ⟨?_, fun q hq => hposted _ q ⟨hh, hq, (if_pos ht).symm⟩, hdue ⟨hh, .inl ht⟩⟩,
    fun hh => hclaim.trans (Claim.afterHold_of_not_holdable hh)⟩
  · rw [hclaim, Claim.afterHold, if_pos hh, if_neg (by simp [ht])]
  · rw [hclaim, Claim.afterHold, if_pos hh, if_pos ht]

theorem requests_conclude (h : s.HeldBy u named) (old : State) :
    (u.conclude old).arbiter.requests = s.arbiter.requests := by
  rw [State.conclude_arbiter, h.requests]

theorem heaterOn_conclude (h : s.HeldBy u named) (old : State) : (u.conclude old).drives.heaterOn = false :=
  State.conclude_heaterOn_of_not_ok h.unfit old

theorem mode_conclude (h : s.HeldBy u named) (old : State) : (u.conclude old).rotor.mode = .idle :=
  (congrArg Rotor.mode (State.conclude_rotor_of_not_ok h.unfit old)).trans (Rotor.mode_stop _ _)

/-- A hold leaves the latch command where the table has it (R53). -/
theorem latchFollows (h : s.HeldBy u named) (hk : u.interlock.latchCommand = s.interlock.latchCommand)
    (hs : s.LatchFollows) : u.LatchFollows := by
  have hgrants : ∀ j, (u.claim j).grantedOn .latch = (s.claim j).grantedOn .latch := fun j => by
    rw [h.claim, Claim.grantedOn_latch_afterHold]
  unfold State.LatchFollows at hs ⊢
  rw [hk, hs, State.driven_iff, State.driven_iff]
  simp only [hgrants]
  unfold State.handsOver
  rw [h.handover]

/-- The trip of a cause, whole, when the unit has taken it and TRIP is among the notices (R63, R64). -/
theorem tripped (h : s.HeldBy u named) {c : Cause} (hcauses : u.interlock.causes = s.interlock.causes.insert c)
    (hlatch : u.interlock.haltLatch = true)
    (hfirst : u.interlock.firstCause = if s.interlock.haltLatch then s.interlock.firstCause else some c)
    (hn : ∀ q, named .trip q) (old : State) : s.Tripped (u.conclude old) c := by
  obtain ⟨kcauses, kfirst, klatch⟩ := u.haltStands_conclude old
  exact ⟨kcauses.trans hcauses, klatch.trans hlatch, kfirst.trans hfirst, h.heaterOn_conclude old, h.mode_conclude old,
    fun q => (h.notifies_conclude old).posted (.inr (hn q))⟩

end State.HeldBy

/-- A cause raised afresh joins the set and halts (R56, R63, R64). -/
theorem Interlock.raised_halts {u : Interlock} {c : Cause} (ha : u.active.has c = false) :
    (u.raised c).causes = u.causes.insert c ∧ (u.raised c).haltLatch = true ∧
      (u.raised c).firstCause = if u.haltLatch then u.firstCause else some c := by
  unfold Interlock.raised
  rw [if_neg (by simp [ha])]
  exact ⟨rfl, rfl, rfl⟩

theorem State.beyondTheTable_raise (x : State) (c : Cause) : x.BeyondTheTable (x.raise c) :=
  .of_eq (by simp) (by simp) (by simp) (by simp) (by simp) (by simp)

/-- A cause raised afresh and the end of its event, in a state where the unit's inputs alone have moved (R56, R63). -/
theorem State.raised_conclude {s x : State} (hx : s.TableStands x) (hu : s.HaltStands x) (hb : s.BeyondTheTable x)
    {c : Cause} (hm : c.momentary = false) (ha : x.interlock.active.has c = false) (old : State) :
    s.Tripped ((x.raise c).conclude old) c ∧ s.HoldTaken ((x.raise c).conclude old) (fun _ => false) ∧
      (s.Notifies ((x.raise c).conclude old) fun n q => n = .trip ∨ s.HoldNotice (fun _ => false) n q) ∧
      s.BeyondTheTable ((x.raise c).conclude old) := by
  obtain ⟨hcauses, hfirst, hlatch⟩ := hu
  obtain ⟨kcauses, klatch, kfirst⟩ := Interlock.raised_halts ha
  have hheld := State.heldBy_raise hx hm ha
  rw [← State.raise_interlock hm] at kcauses klatch kfirst
  exact ⟨hheld.tripped (by rw [kcauses, hcauses]) klatch (by rw [kfirst, hfirst, hlatch]) (fun _ => rfl) old,
    hheld.holdTaken old, (hheld.notifies_conclude old).iff fun _ _ => or_comm,
    (hb.trans (x.beyondTheTable_raise c)).trans (State.beyondTheTable_conclude _ old)⟩

end Sys2Proof.Machine
end

section
/-! CUTOUT, LATCH_FAULT and the latch feedback (R58, R61): raised, no longer active, and the disagreement timer. -/

namespace Sys2Proof.Machine

/-- The state with the unit's inputs or timer moved, before the unit judges them. -/
def State.withUnit (s : State) (u : Interlock) : State := { s with interlock := u }

theorem State.tableStands_withUnit (s : State) (u : Interlock) : s.TableStands (s.withUnit u) := ⟨rfl, rfl, rfl⟩

theorem State.beyondTheTable_withUnit (s : State) (u : Interlock) : s.BeyondTheTable (s.withUnit u) :=
  .of_eq rfl rfl rfl rfl rfl rfl

/-- The end of an event that leaves the table, the ports and the rest of the part, with the latch command where the table
has it. -/
theorem State.TableStands.conclude {s u : State} (h : s.TableStands u)
    (hk : u.interlock.latchCommand = s.interlock.latchCommand) (hs : s.LatchFollows) (old : State) :
    (u.conclude old).interlock = u.interlock ∧ (u.conclude old).claims = s.claims ∧ (u.conclude old).ports = s.ports := by
  obtain ⟨hi, hc, hp⟩ :=
    State.conclude_of_latchFollows (hs.of_eq h.claims (congrArg Arbiter.handover h.arbiter) hk) old
  exact ⟨hi, hc.trans h.claims, hp.trans h.ports⟩

/-! ## The cutout line (R58) -/

theorem exec_cutout_opens {s : State} (h : s.interlock.cutoutClosed = true) : exec (.cutoutChange false) s =
    .next (((s.withUnit { s.interlock with cutoutClosed := false }).raise .cutout).conclude s) := by
  show execCutoutChange false s = _
  unfold execCutoutChange State.withUnit
  rw [if_neg (by simp [h])]
  simp only [Bool.false_eq_true, if_false]

theorem exec_cutout_closes {s : State} (h : s.interlock.cutoutClosed = false) : exec (.cutoutChange true) s =
    .next (((s.withUnit { s.interlock with cutoutClosed := true }).deactivate .cutout).conclude s) := by
  show execCutoutChange true s = _
  unfold execCutoutChange State.withUnit
  rw [if_neg (by simp [h])]
  simp only [if_true]

theorem State.cutoutClosed_raised (x : State) {c : Cause} (hm : c.momentary = false) (old : State) :
    ((x.raise c).conclude old).interlock.cutoutClosed = x.interlock.cutoutClosed := by
  rw [State.conclude_unit, State.raise_interlock hm, Interlock.raised_eq]

theorem State.active_raised (x : State) {c : Cause} (hm : c.momentary = false) (hc : c ≠ .latchFault) (old : State) :
    ((x.raise c).conclude old).interlock.active.has c = true := by
  rw [State.active_conclude_eq _ _ hc, State.raise_interlock hm, Interlock.raised_active]
  simp

theorem State.cutoutOpens {s : State} (h : s.interlock.cutoutClosed = true)
    (ha : s.interlock.active.has .cutout = false) :
    ∃ t, exec (.cutoutChange false) s = .next t ∧ s.Tripped t .cutout ∧ t.interlock.cutoutClosed = false ∧
      t.interlock.active.has .cutout = true ∧ s.HoldTaken t (fun _ => false) ∧ s.PortsButNotices t ∧
      s.PostsExactly t (fun n q => n = .trip ∨ s.HoldNotice (fun _ => false) n q) ∧ s.BeyondTheTable t := by
  obtain ⟨htripped, hheld, hnotes, hbeyond⟩ := State.raised_conclude (c := .cutout)
    (s.tableStands_withUnit { s.interlock with cutoutClosed := false }) ⟨rfl, rfl, rfl⟩
    (s.beyondTheTable_withUnit _) rfl ha s
  have hexec := exec_cutout_opens h
  have hclosed := State.cutoutClosed_raised (s.withUnit { s.interlock with cutoutClosed := false }) (c := .cutout) rfl s
  have hactive := State.active_raised (s.withUnit { s.interlock with cutoutClosed := false }) (c := .cutout) rfl
    (by decide) s
  generalize ((s.withUnit { s.interlock with cutoutClosed := false }).raise .cutout).conclude s = t at *
  exact ⟨t, hexec, htripped, hclosed, hactive, hheld, hnotes.ports, hnotes.posts, hbeyond⟩

theorem State.cutoutCloses {s : State} (h : s.interlock.cutoutClosed = false) :
    ∃ t, exec (.cutoutChange true) s = .next t ∧ s.HaltStands t ∧ t.interlock.cutoutClosed = true ∧
      t.interlock.active.has .cutout = false ∧ s.OthersStand t (fun _ => false) ∧ s.PortsButNotices t ∧
      s.PostsExactly t (s.ResumeNotice t) ∧ s.BeyondTheTable t := by
  have hexec := exec_cutout_closes h
  have hunit := State.conclude_unit ((s.withUnit { s.interlock with cutoutClosed := true }).deactivate .cutout) s
  have hhalt := State.haltStands_conclude ((s.withUnit { s.interlock with cutoutClosed := true }).deactivate .cutout) s
  have hgone : ((s.withUnit { s.interlock with cutoutClosed := true }).deactivate .cutout).interlock.active.has .cutout =
      false := (CauseSet.has_erase _ _ _).trans (by simp)
  have hnotes := State.notifies_conclude_resumes (s := s)
    (u := (s.withUnit { s.interlock with cutoutClosed := true }).deactivate .cutout) (fun _ => .inl rfl) s
  have hothers := State.othersStand_conclude (s := s) (named := fun _ => false)
    (u := (s.withUnit { s.interlock with cutoutClosed := true }).deactivate .cutout) rfl (fun _ _ => rfl) s
  have hbeyond := State.beyondTheTable_conclude
    ((s.withUnit { s.interlock with cutoutClosed := true }).deactivate .cutout) s
  have hactive := State.active_conclude hgone s
  generalize ((s.withUnit { s.interlock with cutoutClosed := true }).deactivate .cutout).conclude s = t at *
  exact ⟨t, hexec, hhalt, by rw [hunit]; rfl, hactive, hothers, hnotes.ports, hnotes.posts, hbeyond⟩

/-! ## The disagreement timer (R61) -/

theorem exec_disagreementOver {s : State} {since : Nat} (h : s.interlock.disagreement = some since)
    (hover : since + 1000000 ≤ s.time) : exec .disagreementTimerExpiry s =
      .next (((s.withUnit { s.interlock with disagreement := none }).raise .latchFault).conclude s) := by
  show execDisagreementTimerExpiry s = _
  unfold execDisagreementTimerExpiry State.withUnit
  rw [if_pos]
  simp [State.disagreementOver, h, State.hasRun, Config.disagreementLength, Config.second, hover]

theorem State.latchFaultRaised {s : State} {since : Nat} (h : s.interlock.disagreement = some since)
    (hover : since + 1000000 ≤ s.time) (hs : s.LatchFollows) (ha : s.interlock.active.has .latchFault = false) :
    ∃ t, exec .disagreementTimerExpiry s = .next t ∧ s.Tripped t .latchFault ∧ t.interlock.disagreement = none ∧
      t.interlock.active.has .latchFault = true ∧ s.HoldTaken t (fun _ => false) ∧ s.PortsButNotices t ∧
      s.PostsExactly t (fun n q => n = .trip ∨ s.HoldNotice (fun _ => false) n q) ∧ s.BeyondTheTable t := by
  have hx := s.tableStands_withUnit { s.interlock with disagreement := none }
  obtain ⟨htripped, hheld, hnotes, hbeyond⟩ := State.raised_conclude (c := .latchFault) hx ⟨rfl, rfl, rfl⟩
    (s.beyondTheTable_withUnit _) rfl ha s
  have hfollows := (State.heldBy_raise (c := .latchFault) hx rfl ha).latchFollows
    (by rw [State.raise_interlock rfl, Interlock.raised_eq]; rfl) hs
  have hunit := State.conclude_interlock_stands hfollows s
  rw [State.raise_interlock rfl] at hunit
  have hexec := exec_disagreementOver h hover
  generalize ((s.withUnit { s.interlock with disagreement := none }).raise .latchFault).conclude s = t at *
  refine ⟨t, hexec, htripped, ?_, ?_, hheld, hnotes.ports, hnotes.posts, hbeyond⟩
  · rw [hunit, Interlock.raised_eq]
    rfl
  · rw [hunit, Interlock.raised_active]
    simp

theorem State.latchFaultStands {s : State} {since : Nat} (h : s.interlock.disagreement = some since)
    (hover : since + 1000000 ≤ s.time) (hs : s.LatchFollows) (ha : s.interlock.active.has .latchFault = true) :
    ∃ t, exec .disagreementTimerExpiry s = .next t ∧ t.interlock = { s.interlock with disagreement := none } ∧
      t.claims = s.claims ∧ t.ports = s.ports ∧ s.BeyondTheTable t := by
  obtain ⟨hunit, hclaims, hports⟩ :=
    (s.tableStands_withUnit { s.interlock with disagreement := none }).conclude rfl hs s
  have hexec := exec_disagreementOver h hover
  have hbeyond := (s.withUnit { s.interlock with disagreement := none }).beyondTheTable_conclude s
  rw [State.raise_of_active (x := s.withUnit { s.interlock with disagreement := none }) rfl ha] at hexec
  generalize (s.withUnit { s.interlock with disagreement := none }).conclude s = t at *
  exact ⟨t, hexec, hunit, hclaims, hports, hbeyond⟩

/-! ## The latch feedback (R61) -/

/-- Without a change of the secured condition no more is derived (R49). -/
theorem State.deriveSecured_stands {x : State} (h : x.interlock.securedWanted = x.interlock.secured) :
    x.deriveSecured = x := if_pos h

theorem exec_feedback_unsecured {s : State} {engaged : Bool} (hsec : s.interlock.secured = false)
    (hne : s.interlock.feedbackEngaged ≠ engaged)
    (h : engaged = true → s.interlock.lidClosed = false ∨ s.interlock.binIn = false) :
    exec (.latchFeedbackChange engaged) s =
      .next ((s.withUnit { s.interlock with feedbackEngaged := engaged }).judgeDisagreement.conclude s) := by
  show execLatchFeedbackChange engaged s = _
  have hwanted : (s.withUnit { s.interlock with feedbackEngaged := engaged }).interlock.securedWanted = false := by
    show (s.interlock.lidClosed && engaged && s.interlock.binIn) = false
    cases engaged with
    | false => simp
    | true => rcases h rfl with h | h <;> simp [h]
  have hstands := State.deriveSecured_stands (hwanted.trans hsec.symm)
  unfold execLatchFeedbackChange
  rw [if_neg hne]
  unfold State.withUnit at hstands ⊢
  simp only
  rw [hstands]

/-- The unit after a change of the feedback (R61). -/
theorem Interlock.judgeDisagreement_feedback (u : Interlock) (engaged : Bool) (now : Nat) :
    ({ u with feedbackEngaged := engaged } : Interlock).judgeDisagreement now = { u with
      feedbackEngaged := engaged
      disagreement :=
        if u.lidClosed = true ∧ (engaged = false ↔ u.latchCommand = .engage) then some (u.disagreement.getD now)
        else none
      active :=
        if engaged = false ↔ u.latchCommand = .engage then u.active else u.active.erase .latchFault } := by
  unfold Interlock.judgeDisagreement Interlock.disagrees
  cases u.latchCommand <;> cases engaged <;> simp

/-- Settles O43: each raising is a trip with its hold, and the other changes end with the table as it was. -/
theorem cutoutAndLatchFaultTrip : Obligations.CutoutAndLatchFaultTrip := by
  refine ⟨fun s => ⟨State.cutoutOpens, State.cutoutCloses, fun since h hover hs =>
    ⟨State.latchFaultRaised h hover hs, State.latchFaultStands h hover hs⟩⟩, fun s engaged hsec hs hne h => ?_⟩
  have hx := s.tableStands_withUnit { s.interlock with feedbackEngaged := engaged }
  have hstands : s.TableStands (s.withUnit { s.interlock with feedbackEngaged := engaged }).judgeDisagreement :=
    ⟨hx.claims, hx.ports, hx.arbiter⟩
  obtain ⟨hunit, hclaims, hports⟩ := hstands.conclude rfl hs s
  have hexec := exec_feedback_unsecured hsec hne h
  have hbeyond :=
    (s.withUnit { s.interlock with feedbackEngaged := engaged }).judgeDisagreement.beyondTheTable_conclude s
  generalize (s.withUnit { s.interlock with feedbackEngaged := engaged }).judgeDisagreement.conclude s = t at *
  exact ⟨t, hexec, hunit.trans (s.interlock.judgeDisagreement_feedback engaged s.time), hclaims, hports, hbeyond⟩

end Sys2Proof.Machine
end

section
/-! The lid and bin switches of a chamber that is not secured (R48, R49, R60, R61). -/

namespace Sys2Proof.Machine

/-! ## LID_FORCED at a switch's change (R60) -/

theorem Interlock.forcedBy_eq (u : Interlock) (opened : Bool) : u.forcedBy opened =
    { u with
      active := (u.forcedBy opened).active, causes := (u.forcedBy opened).causes
      firstCause := (u.forcedBy opened).firstCause, haltLatch := (u.forcedBy opened).haltLatch } := by
  unfold Interlock.forcedBy
  split
  · exact u.raised_eq .lidForced
  · rfl

theorem Interlock.forcedBy_latchCommand (u : Interlock) (opened : Bool) :
    (u.forcedBy opened).latchCommand = u.latchCommand := by
  rw [Interlock.forcedBy_eq]

theorem Interlock.forcedBy_disagrees (u : Interlock) (opened : Bool) : (u.forcedBy opened).disagrees = u.disagrees := by
  rw [Interlock.forcedBy_eq]
  rfl

theorem Interlock.forcedBy_active (u : Interlock) (opened : Bool) (c : Cause) : (u.forcedBy opened).active.has c =
    (u.active.has c || (decide (.lidForced = c) && (opened && decide (u.latchCommand = .engage)))) := by
  unfold Interlock.forcedBy
  split
  next h => rw [Interlock.raised_active, h, Bool.and_true]
  next h => rw [Bool.not_eq_true] at h; rw [h, Bool.and_false, Bool.or_false]

/-- A switch that opens under the command ENGAGE raises LID_FORCED (R60). -/
theorem State.judgeForced_raises {x : State} (hk : x.interlock.latchCommand = .engage) :
    x.judgeForced true = x.raise .lidForced := by
  unfold State.judgeForced
  rw [hk]
  rfl

/-- A switch that closes, or that opens under the command RELEASE or with LID_FORCED active, raises nothing (R60). -/
theorem State.judgeForced_stands {x : State} {opened : Bool} (h : opened = false ∨
      x.interlock.latchCommand = .release ∨ x.interlock.active.has .lidForced = true) : x.judgeForced opened = x := by
  unfold State.judgeForced
  split
  next hf =>
    obtain ⟨ho, hk⟩ := (Bool.and_eq_true _ _).mp hf
    rw [decide_eq_true_eq] at hk
    rcases h with h | h | h
    · rw [h] at ho; cases ho
    · rw [h] at hk; cases hk
    · exact State.raise_of_active rfl h
  next => rfl

/-! ## A change of a switch, judged -/

/-- What a switch's change is, without a change of the secured condition: LID_FORCED judged on the new inputs, and after it
something that moves neither the table nor the ports (R49, R60). -/
structure State.SwitchJudged (s : State) (w : Interlock) (closed : Bool) (u : State) : Prop where
  claims : u.claims = ((s.withUnit w).judgeForced (!closed)).claims
  ports : u.ports = ((s.withUnit w).judgeForced (!closed)).ports
  arbiter : u.arbiter = ((s.withUnit w).judgeForced (!closed)).arbiter
  sensors : u.sensors = s.sensors
  tuning : u.tuning = s.tuning
  time : u.time = s.time
  link : u.link = s.link
  causes : u.interlock.causes = (w.forcedBy (!closed)).causes
  firstCause : u.interlock.firstCause = (w.forcedBy (!closed)).firstCause
  haltLatch : u.interlock.haltLatch = (w.forcedBy (!closed)).haltLatch
  latchCommand : u.interlock.latchCommand = w.latchCommand

/-- The inputs have moved, and the rest of the unit is that of the state before. -/
structure Interlock.InputsMoved (u w : Interlock) : Prop where
  latchCommand : w.latchCommand = u.latchCommand
  active : w.active = u.active
  causes : w.causes = u.causes
  firstCause : w.firstCause = u.firstCause
  haltLatch : w.haltLatch = u.haltLatch

/-- A switch that opens under the command ENGAGE raises LID_FORCED unless it is active (R60). -/
abbrev State.Forces (s : State) (closed : Bool) : Prop :=
  closed = false ∧ s.interlock.latchCommand = .engage ∧ s.interlock.active.has .lidForced = false

namespace State.SwitchJudged

variable {s u : State} {w : Interlock} {closed : Bool}

/-- The judged change that forces is a trip with its hold. -/
theorem forced (h : s.SwitchJudged w closed u) (hw : s.interlock.InputsMoved w) (hf : s.Forces closed) (old : State) :
    s.Tripped (u.conclude old) .lidForced ∧ s.HoldTaken (u.conclude old) (fun _ => false) ∧
      (s.Notifies (u.conclude old) fun n q => n = .trip ∨ s.HoldNotice (fun _ => false) n q) ∧
      (u.conclude old).arbiter.requests = s.arbiter.requests ∧ (s.LatchFollows → u.LatchFollows) := by
  obtain ⟨rfl, hk, ha⟩ := hf
  have hkw : w.latchCommand = .engage := hw.latchCommand.trans hk
  have haw : w.active.has .lidForced = false := by rw [hw.active]; exact ha
  obtain ⟨hcauses, hlatch, hfirst⟩ := Interlock.raised_halts haw
  have hforced : w.forcedBy (!false) = w.raised .lidForced := by
    unfold Interlock.forcedBy
    rw [hkw]
    rfl
  have hraised : (s.withUnit w).judgeForced (!false) = _ := State.judgeForced_raises hkw
  have hraise := State.heldBy_raise (s.tableStands_withUnit w) (c := .lidForced) rfl haw
  have klatch : u.interlock.haltLatch = true := by rw [h.haltLatch, hforced, hlatch]
  have hheld : s.HeldBy u fun n _ => n = .trip := hraise.of_eq (h.claims.trans (by rw [hraised]))
    (h.ports.trans (by rw [hraised])) (fun hd => by unfold State.passDue at hd ⊢; rwa [h.arbiter, hraised])
    (by rw [h.arbiter, hraised]) (by rw [h.arbiter, hraised]) (by simp [State.chamberOk, klatch])
  refine ⟨hheld.tripped ?_ klatch ?_ (fun _ => rfl) old, hheld.holdTaken old,
    (hheld.notifies_conclude old).iff fun _ _ => or_comm, hheld.requests_conclude old,
    hheld.latchFollows (h.latchCommand.trans hw.latchCommand)⟩
  · rw [h.causes, hforced, hcauses, hw.causes]
  · rw [h.firstCause, hforced, hfirst, hw.haltLatch, hw.firstCause]

/-- The judged change that forces nothing leaves the table and the halt. -/
theorem unforced (h : s.SwitchJudged w closed u) (hw : s.interlock.InputsMoved w) (hf : closed = true ∨
      s.interlock.latchCommand = .release ∨ s.interlock.active.has .lidForced = true) :
    s.TableStands u ∧ s.HaltStands u := by
  have hstands := State.judgeForced_stands (x := s.withUnit w) (opened := !closed) (by
    rw [Bool.not_eq_false']
    show _ ∨ w.latchCommand = _ ∨ _
    rw [hw.latchCommand, show (s.withUnit w).interlock.active = s.interlock.active from hw.active]
    exact hf)
  have hunit : w.forcedBy (!closed) = w :=
    (State.judgeForced_interlock (s.withUnit w) (!closed)).symm.trans (congrArg State.interlock hstands)
  exact ⟨⟨h.claims.trans (by rw [hstands]; rfl), h.ports.trans (by rw [hstands]; rfl),
    h.arbiter.trans (by rw [hstands]; rfl)⟩, h.causes.trans (by rw [hunit, hw.causes]),
    h.firstCause.trans (by rw [hunit, hw.firstCause]), h.haltLatch.trans (by rw [hunit, hw.haltLatch])⟩

theorem link_conclude (h : s.SwitchJudged w closed u) (old : State) :
    (u.conclude old).link = { s.link with touched := (u.conclude old).link.touched } := by
  obtain ⟨-, -, -, -, -, hlink⟩ := u.beyondTheTable_conclude old
  rwa [h.link] at hlink

end State.SwitchJudged

/-- A switch that opens under ENGAGE raises LID_FORCED, or nothing is raised. -/
theorem State.forces_or (s : State) (closed : Bool) : s.Forces closed ∨
    (closed = true ∨ s.interlock.latchCommand = .release ∨ s.interlock.active.has .lidForced = true) := by
  unfold State.Forces
  cases closed <;> cases s.interlock.latchCommand <;> cases s.interlock.active.has .lidForced <;> simp

/-- The end of a switch's change, with the secured condition and the latch command as they were. -/
structure State.SwitchEnds (s u : State) (closed : Bool) (t : State) : Prop where
  unit : t.interlock = u.interlock
  forced : s.Forces closed → s.Tripped t .lidForced ∧ s.HoldTaken t (fun _ => false)
  unforced : closed = true ∨ s.interlock.latchCommand = .release ∨ s.interlock.active.has .lidForced = true →
    s.HaltStands t ∧ t.claims = s.claims ∧ t.ports = s.ports ∧ t.arbiter = s.arbiter
  notifies : s.Notifies t fun n q => closed = false ∧ s.interlock.latchCommand = .engage ∧
    s.interlock.active.has .lidForced = false ∧ (n = .trip ∨ s.HoldNotice (fun _ => false) n q)
  requests : t.arbiter.requests = s.arbiter.requests

/-- A change that forces and one that does not exclude each other. -/
theorem State.not_forces {s : State} {closed : Bool} (h : closed = true ∨ s.interlock.latchCommand = .release ∨
    s.interlock.active.has .lidForced = true) : ¬s.Forces closed := by
  rintro ⟨hc, hk, ha⟩
  rcases h with h | h | h
  · rw [hc] at h; cases h
  · rw [hk] at h; cases h
  · rw [ha] at h; cases h

theorem State.SwitchJudged.ends {s u : State} {w : Interlock} {closed : Bool} (h : s.SwitchJudged w closed u)
    (hw : s.interlock.InputsMoved w) (hs : s.LatchFollows) (old : State) :
    s.SwitchEnds u closed (u.conclude old) := by
  rcases s.forces_or closed with hf | hf
  · obtain ⟨htripped, hheld, hnotes, hrequests, hfollows⟩ := h.forced hw hf old
    obtain ⟨hc, hk, ha⟩ := id hf
    exact ⟨State.conclude_interlock_stands (hfollows hs) old, fun _ => ⟨htripped, hheld⟩,
      fun hn => absurd hf (State.not_forces hn), hnotes.iff fun n q => by simp only [hc, hk, ha, true_and], hrequests⟩
  · obtain ⟨hstands, kcauses, kfirst, klatch⟩ := h.unforced hw hf
    obtain ⟨hunit, hclaims, hports⟩ := hstands.conclude (h.latchCommand.trans hw.latchCommand) hs old
    have harbiter : (u.conclude old).arbiter = s.arbiter := (State.conclude_arbiter u old).trans hstands.arbiter
    refine ⟨hunit, fun k => absurd k (State.not_forces hf), fun _ => ⟨⟨?_, ?_, ?_⟩, hclaims, hports, harbiter⟩,
      (State.Notifies.of_ports_eq hports).iff fun n q => iff_of_false id fun ⟨hc, hk, ha, _⟩ =>
        State.not_forces hf ⟨hc, hk, ha⟩, by rw [harbiter]⟩
    · rw [hunit, kcauses]
    · rw [hunit, kfirst]
    · rw [hunit, klatch]

/-! ## The two switches -/

/-- The state in which the change of the lid switch is judged, before its end. -/
def State.lidJudged (s : State) (closed : Bool) : State :=
  ((s.withUnit { s.interlock with lidClosed := closed }).judgeForced (!closed)).judgeDisagreement

/-- The state in which the change of the bin switch is judged and handed on, before its end. -/
def State.binJudged (s : State) (closed : Bool) : State :=
  ((s.withUnit { s.interlock with binIn := closed }).judgeForced (!closed)).handBin (binEvent closed)

theorem State.lidJudged_interlock (s : State) (closed : Bool) : (s.lidJudged closed).interlock =
    (({ s.interlock with lidClosed := closed } : Interlock).forcedBy (!closed)).judgeDisagreement s.time := by
  unfold State.lidJudged
  rw [State.judgeDisagreement_interlock, State.judgeForced_interlock, State.judgeForced_time]
  rfl

theorem State.binJudged_interlock (s : State) (closed : Bool) : (s.binJudged closed).interlock =
    ({ s.interlock with binIn := closed } : Interlock).forcedBy (!closed) := by
  unfold State.binJudged
  rw [State.handBin_interlock, State.judgeForced_interlock]
  rfl

theorem State.lidJudged_batch (s : State) (closed : Bool) : (s.lidJudged closed).batch = s.batch := by
  unfold State.lidJudged State.withUnit
  simp

theorem State.binJudged_batch (s : State) (closed : Bool) : (s.binJudged closed).batch =
    { s.batch with binEvents := s.batch.binEvents ++ [binEvent closed] } := by
  unfold State.binJudged State.handBin State.withUnit
  simp

theorem State.switchJudged_lid (s : State) (closed : Bool) :
    s.SwitchJudged { s.interlock with lidClosed := closed } closed (s.lidJudged closed) := by
  have hunit := s.lidJudged_interlock closed
  refine ⟨rfl, rfl, rfl, by simp [State.lidJudged, State.withUnit], by simp [State.lidJudged, State.withUnit],
    by simp [State.lidJudged, State.withUnit], by simp [State.lidJudged, State.withUnit],
    by rw [hunit]; rfl, by rw [hunit]; rfl, by rw [hunit]; rfl, ?_⟩
  rw [hunit]
  exact Interlock.forcedBy_latchCommand _ _

theorem State.switchJudged_bin (s : State) (closed : Bool) :
    s.SwitchJudged { s.interlock with binIn := closed } closed (s.binJudged closed) := by
  have hunit := s.binJudged_interlock closed
  refine ⟨rfl, rfl, rfl, by simp [State.binJudged, State.withUnit], by simp [State.binJudged, State.withUnit],
    by simp [State.binJudged, State.withUnit], by simp [State.binJudged, State.withUnit],
    by rw [hunit], by rw [hunit], by rw [hunit], ?_⟩
  rw [hunit]
  exact Interlock.forcedBy_latchCommand _ _

theorem exec_lid_unsecured {s : State} {closed : Bool} (hsec : s.interlock.secured = false)
    (hne : s.interlock.lidClosed ≠ closed)
    (h : closed = true → s.interlock.binIn = false ∨ s.interlock.feedbackEngaged = false) :
    exec (.lidSwitchChange closed) s = .next ((s.lidJudged closed).conclude s) := by
  show execLidSwitchChange closed s = _
  have hwanted : (s.withUnit { s.interlock with lidClosed := closed }).interlock.securedWanted = false := by
    show (closed && s.interlock.feedbackEngaged && s.interlock.binIn) = false
    cases closed with
    | false => simp
    | true => rcases h rfl with h | h <;> simp [h]
  have hstands := State.deriveSecured_stands (hwanted.trans hsec.symm)
  unfold execLidSwitchChange State.lidJudged
  rw [if_neg hne]
  unfold State.withUnit at hstands ⊢
  simp only
  rw [hstands]

theorem exec_bin_unsecured {s : State} {closed : Bool} (hsec : s.interlock.secured = false)
    (hne : s.interlock.binIn ≠ closed)
    (h : closed = true → s.interlock.lidClosed = false ∨ s.interlock.feedbackEngaged = false) :
    exec (.binSwitchChange closed) s = .next ((s.binJudged closed).conclude s) := by
  show execBinSwitchChange closed s = _
  have hwanted : (s.withUnit { s.interlock with binIn := closed }).interlock.securedWanted = false := by
    show (s.interlock.lidClosed && s.interlock.feedbackEngaged && closed) = false
    cases closed with
    | false => simp
    | true => rcases h rfl with h | h <;> simp [h]
  have hstands := State.deriveSecured_stands (hwanted.trans hsec.symm)
  unfold execBinSwitchChange State.binJudged
  rw [if_neg hne]
  unfold State.withUnit at hstands ⊢
  simp only
  rw [hstands]

/-! ## The unit after a switch's change -/

theorem Interlock.disagrees_iff (u : Interlock) : u.disagrees = true ↔ u.Disagreeing := by
  unfold Interlock.disagrees Interlock.Disagreeing
  cases u.latchCommand <;> cases u.feedbackEngaged <;> simp

/-- The unit after the lid switch's change (R60, R61). -/
theorem Interlock.lidJudged_eq (u : Interlock) (closed : Bool) (now : Nat) {v : Interlock}
    (hv : v = (({ u with lidClosed := closed } : Interlock).forcedBy (!closed)).judgeDisagreement now) :
    v = { u with
      lidClosed := closed
      disagreement := if closed = true ∧ u.Disagreeing then some (u.disagreement.getD now) else none
      active := v.active, causes := v.causes, firstCause := v.firstCause, haltLatch := v.haltLatch } := by
  have hforced := ({ u with lidClosed := closed } : Interlock).forcedBy_eq (!closed)
  have hdisagrees := (({ u with lidClosed := closed } : Interlock).forcedBy_disagrees (!closed)).trans
    (show _ = u.disagrees from rfl)
  generalize ({ u with lidClosed := closed } : Interlock).forcedBy (!closed) = x at *
  subst hv
  have htimer : (x.judgeDisagreement now).disagreement =
      if closed = true ∧ u.Disagreeing then some (u.disagreement.getD now) else none := by
    unfold Interlock.judgeDisagreement
    rw [hdisagrees, hforced]
    simp only [Bool.and_eq_true, Interlock.disagrees_iff]
  rw [← htimer]
  unfold Interlock.judgeDisagreement
  rw [hforced]

/-- The active flags after the lid switch's change (R60, R61). -/
theorem Interlock.lidJudged_active (u : Interlock) (closed : Bool) (now : Nat) (c : Cause) :
    ((({ u with lidClosed := closed } : Interlock).forcedBy (!closed)).judgeDisagreement now).active.has c =
      ((u.active.has c || (decide (.lidForced = c) && (!closed && decide (u.latchCommand = .engage)))) &&
        (u.disagrees || decide (c ≠ .latchFault))) := by
  rw [Interlock.judgeDisagreement_active, Interlock.forcedBy_active, Interlock.forcedBy_disagrees]
  rfl

theorem Interlock.inputsMoved_lid (u : Interlock) (closed : Bool) : u.InputsMoved { u with lidClosed := closed } :=
  ⟨rfl, rfl, rfl, rfl, rfl⟩

theorem Interlock.inputsMoved_bin (u : Interlock) (closed : Bool) : u.InputsMoved { u with binIn := closed } :=
  ⟨rfl, rfl, rfl, rfl, rfl⟩

/-- Settles O42: the change that forces is a trip with its hold, and every other one ends with the table as it was. -/
theorem switchesOfAnUnsecuredChamber : Obligations.SwitchesOfAnUnsecuredChamber := by
  intro s c closed hsec hs hc
  rcases hc with ⟨rfl, hne, h⟩ | ⟨rfl, hne, h⟩
  · have hjudged := s.switchJudged_lid closed
    have hexec := exec_lid_unsecured hsec hne h
    obtain ⟨hunit, hforced, hunforced, hnotes, hrequests⟩ := hjudged.ends (Interlock.inputsMoved_lid _ _) hs s
    obtain ⟨hsensors, hbatch, htuning, htime, -, -⟩ := (s.lidJudged closed).beyondTheTable_conclude s
    have hlink := hjudged.link_conclude s
    rw [State.lidJudged_interlock] at hunit
    rw [State.lidJudged_batch] at hbatch
    have hactive := s.interlock.lidJudged_active closed s.time
    rw [← hunit] at hactive
    generalize (s.lidJudged closed).conclude s = t at *
    refine ⟨t, hexec, ?_, ?_, ?_, fun x hx hy => ?_, fun hc hk ha => hforced ⟨hc, hk, ha⟩, hunforced, ?_, hnotes.ports,
      hnotes.posts, hsensors.trans hjudged.sensors, htuning.trans hjudged.tuning, htime.trans hjudged.time, hrequests,
      hlink⟩
    · simpa using s.interlock.lidJudged_eq closed s.time hunit
    · rw [hactive]
      simp
    · rw [hactive]
      simp [Interlock.disagrees_iff]
    · rw [hactive]
      simp [hx.symm, hy]
    · rw [hbatch]
      simp
  · have hjudged := s.switchJudged_bin closed
    have hexec := exec_bin_unsecured hsec hne h
    obtain ⟨hunit, hforced, hunforced, hnotes, hrequests⟩ := hjudged.ends (Interlock.inputsMoved_bin _ _) hs s
    obtain ⟨hsensors, hbatch, htuning, htime, -, -⟩ := (s.binJudged closed).beyondTheTable_conclude s
    have hlink := hjudged.link_conclude s
    rw [State.binJudged_interlock] at hunit
    rw [State.binJudged_batch] at hbatch
    have hactive := ({ s.interlock with binIn := closed } : Interlock).forcedBy_active (!closed)
    have heq := ({ s.interlock with binIn := closed } : Interlock).forcedBy_eq (!closed)
    rw [← hunit] at hactive heq
    generalize (s.binJudged closed).conclude s = t at *
    refine ⟨t, hexec, ?_, ?_, ?_, fun x hx hy => ?_, fun hc hk ha => hforced ⟨hc, hk, ha⟩, hunforced, ?_, hnotes.ports,
      hnotes.posts, hsensors.trans hjudged.sensors, htuning.trans hjudged.tuning, htime.trans hjudged.time, hrequests,
      hlink⟩
    · simpa using heq
    · rw [hactive]
      simp
    · rw [hactive]
      simp
    · rw [hactive]
      simp [hx.symm]
    · rw [hbatch]
      cases closed <;> rfl

end Sys2Proof.Machine
end

section
/-! Secured lost (R49, R50, R60, R61): the opening that ends the secured condition. -/

namespace Sys2Proof.Machine

/-! ## What follows a hold (R15) -/

/-- What follows a hold leaves the table, the ports and the arbiter. -/
theorem State.HeldBy.of_stands {s u v : State} {named : Source → Port → Prop} (h : s.HeldBy u named)
    (hv : u.TableStands v) (hok : v.chamberOk = u.chamberOk) : s.HeldBy v named := by
  obtain ⟨hc, hp, ha⟩ := hv
  exact h.of_eq hc hp (fun hd => by unfold State.passDue at hd ⊢; rwa [ha]) (by rw [ha]) (by rw [ha]) (hok.trans h.unfit)

theorem State.HeldBy.iff {s u : State} {a b : Source → Port → Prop} (h : s.HeldBy u a) (hab : ∀ n q, a n q ↔ b n q) :
    s.HeldBy u b :=
  ⟨h.claim, h.notifies.iff fun n q => or_congr_right (hab n q), h.reports, h.requests, h.handover, h.unfit⟩

theorem State.HeldBy.judgeDisagreement {s u : State} {named : Source → Port → Prop} (h : s.HeldBy u named) :
    s.HeldBy u.judgeDisagreement named := h.of_stands ⟨rfl, rfl, rfl⟩ rfl

theorem State.HeldBy.handBin {s u : State} {named : Source → Port → Prop} (h : s.HeldBy u named) (e : BinEvent) :
    s.HeldBy (u.handBin e) named := h.of_stands ⟨rfl, rfl, rfl⟩ rfl

theorem State.HeldBy.handSecured {s u : State} {named : Source → Port → Prop} (h : s.HeldBy u named)
    (e : SecuredEvent) : s.HeldBy (u.handSecured e) named := h.of_stands ⟨rfl, rfl, rfl⟩ rfl

/-! ## Secured lost at the unit and at the claim table (R50) -/

/-- The state in which secured is lost with the inputs of the unit w: the hold taken, and the loss handed on. -/
def State.lost (s : State) (w : Interlock) : State := (s.withUnit w).securedLost

theorem State.deriveSecured_lost {s : State} {w : Interlock} (hs : w.secured = true) (hw : w.securedWanted = false) :
    (s.withUnit w).deriveSecured = s.lost w := by
  unfold State.deriveSecured State.lost
  have hne : ¬(s.withUnit w).interlock.securedWanted = (s.withUnit w).interlock.secured := by
    show ¬w.securedWanted = w.secured
    simp [hs, hw]
  rw [if_neg hne, if_neg (by show ¬w.securedWanted = true; simp [hw])]

theorem State.lost_interlock (s : State) (w : Interlock) : (s.lost w).interlock = { w with secured := false } :=
  State.securedLost_interlock _

theorem State.lost_batch (s : State) (w : Interlock) :
    (s.lost w).batch = { s.batch with securedEvents := s.batch.securedEvents ++ [.lost] } := by
  unfold State.lost State.securedLost State.handSecured
  rw [State.holdAll_batch]
  rfl

theorem State.lost_frame (s : State) (w : Interlock) :
    (s.lost w).sensors = s.sensors ∧ (s.lost w).tuning = s.tuning ∧ (s.lost w).time = s.time := by
  unfold State.lost
  rw [State.securedLost_sensors, State.securedLost_tuning, State.securedLost_time]
  exact ⟨rfl, rfl, rfl⟩

theorem State.heldBy_lost (s : State) (w : Interlock) : s.HeldBy (s.lost w) fun _ _ => False := by
  have hstarts : s.TableStands (s.withUnit { w with secured := false }) := s.tableStands_withUnit _
  exact (State.heldBy_holdAll hstarts rfl).handSecured .lost

/-! ## LID_FORCED after it (R60) -/

/-- Secured is lost by a switch, with LID_FORCED judged. -/
def State.lostForced (s : State) (w : Interlock) : State := (s.lost w).judgeForced true

theorem State.lostForced_interlock (s : State) (w : Interlock) :
    (s.lostForced w).interlock = ({ w with secured := false } : Interlock).forcedBy true := by
  unfold State.lostForced
  rw [State.judgeForced_interlock, State.lost_interlock]

theorem State.lostForced_secured (s : State) (w : Interlock) : (s.lostForced w).interlock.secured = false := by
  rw [State.lostForced_interlock, Interlock.forcedBy_eq]

theorem State.lostForced_frame (s : State) (w : Interlock) : (s.lostForced w).sensors = s.sensors ∧
    (s.lostForced w).tuning = s.tuning ∧ (s.lostForced w).time = s.time := by
  obtain ⟨hm, hv, ht⟩ := s.lost_frame w
  unfold State.lostForced
  exact ⟨(State.judgeForced_sensors _ _).trans hm, (State.judgeForced_tuning _ _).trans hv,
    (State.judgeForced_time _ _).trans ht⟩

theorem State.lostForced_batch (s : State) (w : Interlock) :
    (s.lostForced w).batch = { s.batch with securedEvents := s.batch.securedEvents ++ [.lost] } :=
  (State.judgeForced_batch _ _).trans (s.lost_batch w)

/-- The hold of the loss, and TRIP if the switch has opened under the command ENGAGE with LID_FORCED not active. -/
theorem State.heldBy_lostForced {s : State} {w : Interlock} (hw : s.interlock.InputsMoved w) :
    s.HeldBy (s.lostForced w) fun n _ => n = .trip ∧ s.Forces false := by
  have hlost := s.heldBy_lost w
  have hcommand : (s.lost w).interlock.latchCommand = s.interlock.latchCommand := by
    rw [State.lost_interlock]; exact hw.latchCommand
  have hactive : (s.lost w).interlock.active = s.interlock.active := by rw [State.lost_interlock]; exact hw.active
  unfold State.lostForced
  rcases s.forces_or false with hf | hf
  · obtain ⟨-, hk, ha⟩ := id hf
    rw [State.judgeForced_raises (hcommand.trans hk)]
    have hraised := hlost.raise (c := .lidForced) rfl (by rw [hactive]; exact ha)
    exact hraised.iff fun n _ => ⟨fun h => ⟨h.resolve_left id, hf⟩, fun h => .inr h.1⟩
  · rw [State.judgeForced_stands (hf.imp (by simp) (by rw [hcommand, hactive]; exact id))]
    exact hlost.iff fun _ _ => ⟨False.elim, fun h => State.not_forces hf h.2⟩

/-- A switch that opens under the command RELEASE leaves the halt (R60). -/
theorem State.haltStands_lostForced {s : State} {w : Interlock} (hw : s.interlock.InputsMoved w)
    (hk : s.interlock.latchCommand = .release) : s.HaltStands (s.lostForced w) := by
  have hunit := s.lostForced_interlock w
  have hcommand : w.latchCommand = .release := hw.latchCommand.trans hk
  unfold Interlock.forcedBy at hunit
  rw [if_neg (by simp [hcommand])] at hunit
  rw [State.HaltStands, hunit]
  exact ⟨hw.causes, hw.firstCause, hw.haltLatch⟩

/-- A switch that opens under the command ENGAGE halts with LID_FORCED (R60, R63, R64). -/
theorem State.halts_lostForced {s : State} {w : Interlock} (hw : s.interlock.InputsMoved w) (hf : s.Forces false) :
    (s.lostForced w).interlock.causes = s.interlock.causes.insert .lidForced ∧
      (s.lostForced w).interlock.haltLatch = true ∧
      (s.lostForced w).interlock.firstCause =
        if s.interlock.haltLatch then s.interlock.firstCause else some .lidForced := by
  obtain ⟨-, hk, ha⟩ := hf
  have hraised := Interlock.raised_halts (u := { w with secured := false }) (c := .lidForced)
    (by show w.active.has _ = _; rw [hw.active]; exact ha)
  have hcommand : w.latchCommand = .engage := hw.latchCommand.trans hk
  have hunit := s.lostForced_interlock w
  unfold Interlock.forcedBy at hunit
  rw [if_pos (by simp [hcommand])] at hunit
  rw [hunit, ← hw.causes, ← hw.firstCause, ← hw.haltLatch]
  exact hraised

/-! ## The end of the event -/

/-- What every opening that ends the secured condition ends with (R50). -/
structure State.LossEnds (s : State) (forces : Prop) (t : State) : Prop where
  secured : t.interlock.secured = false
  held : s.HoldTaken t (fun _ => false)
  heater : t.drives.heaterOn = false
  grinder : t.rotor.mode = .idle
  ports : s.PortsButNotices t
  posts : s.PostsExactly t fun n q => s.HoldNotice (fun _ => false) n q ∨ (n = .trip ∧ forces)
  sensors : t.sensors = s.sensors
  tuning : t.tuning = s.tuning
  time : t.time = s.time
  requests : t.arbiter.requests = s.arbiter.requests

theorem State.HeldBy.lossEnds {s u : State} {forces : Prop} (h : s.HeldBy u fun n _ => n = .trip ∧ forces)
    (hs : u.interlock.secured = false) (hm : u.sensors = s.sensors) (hv : u.tuning = s.tuning) (ht : u.time = s.time)
    (old : State) : s.LossEnds forces (u.conclude old) := by
  have hnotes := h.notifies_conclude old
  exact ⟨by rw [State.conclude_unit, hs], h.holdTaken old, h.heaterOn_conclude old, h.mode_conclude old, hnotes.ports,
    hnotes.posts, (State.conclude_sensors u old).trans hm, (State.conclude_tuning u old).trans hv,
    (State.conclude_time u old).trans ht, h.requests_conclude old⟩

/-- What follows the loss by a switch moves neither the table, the ports nor the halt. -/
structure State.AfterLoss (s : State) (w : Interlock) (u : State) : Prop where
  held : s.HeldBy u fun n _ => n = .trip ∧ s.Forces false
  halt : (s.lostForced w).HaltStands u
  secured : u.interlock.secured = false
  lidForced : u.interlock.active.has .lidForced = (s.lostForced w).interlock.active.has .lidForced
  command : u.interlock.latchCommand = s.interlock.latchCommand
  sensors : u.sensors = s.sensors
  tuning : u.tuning = s.tuning
  time : u.time = s.time

theorem State.lostForced_command {s : State} {w : Interlock} (hw : s.interlock.InputsMoved w) :
    (s.lostForced w).interlock.latchCommand = s.interlock.latchCommand := by
  rw [State.lostForced_interlock, Interlock.forcedBy_latchCommand]
  exact hw.latchCommand

theorem Interlock.judgeDisagreement_secured (u : Interlock) (now : Nat) :
    (u.judgeDisagreement now).secured = u.secured := rfl

theorem Interlock.judgeDisagreement_command (u : Interlock) (now : Nat) :
    (u.judgeDisagreement now).latchCommand = u.latchCommand := rfl

theorem State.haltStands_judgeDisagreement (u : State) : u.HaltStands u.judgeDisagreement := ⟨rfl, rfl, rfl⟩

theorem State.afterLoss_judgeDisagreement {s : State} {w : Interlock} (hw : s.interlock.InputsMoved w) :
    s.AfterLoss w (s.lostForced w).judgeDisagreement := by
  obtain ⟨hm, hv, ht⟩ := s.lostForced_frame w
  have hheld := State.heldBy_lostForced hw
  have hunit := (s.lostForced w).judgeDisagreement_interlock
  refine ⟨hheld.judgeDisagreement, State.haltStands_judgeDisagreement _, by rw [hunit, Interlock.judgeDisagreement_secured, s.lostForced_secured], ?_,
    by rw [hunit, Interlock.judgeDisagreement_command, State.lostForced_command hw], (State.judgeDisagreement_sensors _).trans hm,
    (State.judgeDisagreement_tuning _).trans hv, (State.judgeDisagreement_time _).trans ht⟩
  rw [hunit, Interlock.judgeDisagreement_active]
  simp

theorem State.afterLoss_handBin {s : State} {w : Interlock} (hw : s.interlock.InputsMoved w) (e : BinEvent) :
    s.AfterLoss w ((s.lostForced w).handBin e) := by
  obtain ⟨hm, hv, ht⟩ := s.lostForced_frame w
  have hheld := State.heldBy_lostForced hw
  have hunit := (s.lostForced w).handBin_interlock e
  refine ⟨hheld.handBin e, ?_, by rw [hunit]; exact s.lostForced_secured w, by rw [hunit],
    by rw [hunit]; exact State.lostForced_command hw, (State.handBin_sensors _ e).trans hm,
    (State.handBin_tuning _ e).trans hv, (State.handBin_time _ e).trans ht⟩
  rw [State.HaltStands, hunit]
  exact ⟨rfl, rfl, rfl⟩

namespace State.AfterLoss

variable {s u : State} {w : Interlock} (h : s.AfterLoss w u)
include h

theorem ends (old : State) : s.LossEnds (s.Forces false) (u.conclude old) :=
  h.held.lossEnds h.secured h.sensors h.tuning h.time old

theorem trips (hw : s.interlock.InputsMoved w) (hf : s.Forces false) (old : State) :
    s.Tripped (u.conclude old) .lidForced ∧ (u.conclude old).interlock.active.has .lidForced = true := by
  obtain ⟨hcauses, hlatch, hfirst⟩ := State.halts_lostForced hw hf
  obtain ⟨kcauses, kfirst, klatch⟩ := h.halt
  obtain ⟨-, hk, -⟩ := id hf
  refine ⟨h.held.tripped (kcauses.trans hcauses) (klatch.trans hlatch) (kfirst.trans hfirst) (fun _ => ⟨rfl, hf⟩) old, ?_⟩
  have hcommand : w.latchCommand = .engage := hw.latchCommand.trans hk
  rw [State.active_conclude_eq u old (by decide), h.lidForced, State.lostForced_interlock, Interlock.forcedBy_active]
  simp [hcommand]

theorem haltStands (hw : s.interlock.InputsMoved w) (hk : s.interlock.latchCommand = .release) (old : State) :
    s.HaltStands (u.conclude old) := by
  obtain ⟨hcauses, hfirst, hlatch⟩ := State.haltStands_lostForced hw hk
  obtain ⟨kcauses, kfirst, klatch⟩ := h.halt
  obtain ⟨jcauses, jfirst, jlatch⟩ := u.haltStands_conclude old
  exact ⟨(jcauses.trans kcauses).trans hcauses, (jfirst.trans kfirst).trans hfirst, (jlatch.trans klatch).trans hlatch⟩

theorem unit_conclude (hs : s.LatchFollows) (old : State) : (u.conclude old).interlock = u.interlock :=
  State.conclude_interlock_stands (h.held.latchFollows h.command hs) old

end State.AfterLoss

/-! ## The three openings (R50) -/

theorem exec_lid_lost {s : State} (hsec : s.interlock.secured = true) (hlid : s.interlock.lidClosed = true) :
    exec (.lidSwitchChange false) s =
      .next ((s.lostForced { s.interlock with lidClosed := false }).judgeDisagreement.conclude s) := by
  have hlost := State.deriveSecured_lost (s := s) (w := { s.interlock with lidClosed := false }) hsec rfl
  show execLidSwitchChange false s = _
  unfold execLidSwitchChange State.lostForced
  rw [if_neg (by simp [hlid]), ← hlost]
  rfl

theorem exec_bin_lost {s : State} (hsec : s.interlock.secured = true) (hbin : s.interlock.binIn = true) :
    exec (.binSwitchChange false) s =
      .next (((s.lostForced { s.interlock with binIn := false }).handBin .removed).conclude s) := by
  have hlost := State.deriveSecured_lost (s := s) (w := { s.interlock with binIn := false }) hsec (Bool.and_false _)
  show execBinSwitchChange false s = _
  unfold execBinSwitchChange State.lostForced
  rw [if_neg (by simp [hbin]), ← hlost]
  rfl

theorem exec_feedback_lost {s : State} (hsec : s.interlock.secured = true) (hfb : s.interlock.feedbackEngaged = true) :
    exec (.latchFeedbackChange false) s =
      .next ((s.lost { s.interlock with feedbackEngaged := false }).judgeDisagreement.conclude s) := by
  have hlost := State.deriveSecured_lost (s := s) (w := { s.interlock with feedbackEngaged := false }) hsec
    (by simp [Interlock.securedWanted])
  show execLatchFeedbackChange false s = _
  unfold execLatchFeedbackChange
  rw [if_neg (by simp [hfb]), ← hlost]
  rfl

/-- Settles O40: the hold is the loss's, and the trip of LID_FORCED, if there is one, adds to it. -/
theorem securedLostHoldsTheHolders : Obligations.SecuredLostHoldsTheHolders := by
  intro s c hsec hc
  rcases hc with ⟨rfl, hlid⟩ | ⟨rfl, hbin⟩ | ⟨rfl, hfb⟩
  · have hexec := exec_lid_lost hsec hlid
    have hw := Interlock.inputsMoved_lid s.interlock false
    have hafter := State.afterLoss_judgeDisagreement hw
    have hends := hafter.ends s
    have htrips := hafter.trips hw (old := s)
    have hstands := hafter.haltStands hw (old := s)
    have hunit := hafter.unit_conclude (old := s)
    have hbatch : ((s.lostForced { s.interlock with lidClosed := false }).judgeDisagreement.conclude s).batch =
        { s.batch with securedEvents := s.batch.securedEvents ++ [.lost] } := by
      rw [State.conclude_batch, State.judgeDisagreement_batch, s.lostForced_batch]
    have htimer : (s.lostForced { s.interlock with lidClosed := false }).judgeDisagreement.interlock.disagreement =
        none := by
      rw [State.judgeDisagreement_interlock, State.lostForced_interlock, Interlock.forcedBy_eq]
      rfl
    generalize (s.lostForced { s.interlock with lidClosed := false }).judgeDisagreement.conclude s = t at *
    refine ⟨t, hexec, hends.secured, hends.held, hends.heater, hends.grinder, by simp [hbatch], hends.ports, ?_,
      hends.sensors, hends.tuning, hends.time, hends.requests, fun _ hk ha => htrips ⟨rfl, hk, ha⟩,
      fun h => hstands (h.resolve_left (by simp)), fun hs => ⟨fun _ => ?_, by simp, by simp⟩⟩
    · simpa [State.Forces] using hends.posts
    · rw [hunit hs, htimer]
  · have hexec := exec_bin_lost hsec hbin
    have hw := Interlock.inputsMoved_bin s.interlock false
    have hafter := State.afterLoss_handBin hw .removed
    have hends := hafter.ends s
    have htrips := hafter.trips hw (old := s)
    have hstands := hafter.haltStands hw (old := s)
    have hunit := hafter.unit_conclude (old := s)
    have hbatch : (((s.lostForced { s.interlock with binIn := false }).handBin .removed).conclude s).batch =
        { s.batch with
          securedEvents := s.batch.securedEvents ++ [.lost], binEvents := s.batch.binEvents ++ [.removed] } := by
      rw [State.conclude_batch]
      unfold State.handBin
      rw [s.lostForced_batch]
    have htimer : ((s.lostForced { s.interlock with binIn := false }).handBin .removed).interlock.disagreement =
        s.interlock.disagreement := by
      rw [State.handBin_interlock, State.lostForced_interlock, Interlock.forcedBy_eq]
    generalize ((s.lostForced { s.interlock with binIn := false }).handBin .removed).conclude s = t at *
    refine ⟨t, hexec, hends.secured, hends.held, hends.heater, hends.grinder, by simp [hbatch], hends.ports, ?_,
      hends.sensors, hends.tuning, hends.time, hends.requests, fun _ hk ha => htrips ⟨rfl, hk, ha⟩,
      fun h => hstands (h.resolve_left (by simp)), fun hs => ⟨by simp, fun _ => ?_, by simp⟩⟩
    · simpa [State.Forces] using hends.posts
    · rw [hunit hs, htimer]
  · have hexec := exec_feedback_lost hsec hfb
    have hlost := s.heldBy_lost { s.interlock with feedbackEngaged := false }
    have hunit := s.lost_interlock { s.interlock with feedbackEngaged := false }
    obtain ⟨hm, hv, ht⟩ := s.lost_frame { s.interlock with feedbackEngaged := false }
    have hjudged : (s.lost { s.interlock with feedbackEngaged := false }).judgeDisagreement.interlock =
        ({ s.interlock with feedbackEngaged := false, secured := false } : Interlock).judgeDisagreement s.time := by
      rw [State.judgeDisagreement_interlock, hunit, ht]
    have hheld : s.HeldBy (s.lost { s.interlock with feedbackEngaged := false }).judgeDisagreement
        fun n _ => n = .trip ∧ False := hlost.judgeDisagreement.iff fun _ _ => iff_of_false id fun h => h.2
    have hends := hheld.lossEnds (by rw [hjudged]; rfl) ((State.judgeDisagreement_sensors _).trans hm)
      ((State.judgeDisagreement_tuning _).trans hv) ((State.judgeDisagreement_time _).trans ht) s
    have hstands : s.HaltStands ((s.lost { s.interlock with feedbackEngaged := false }).judgeDisagreement.conclude s) := by
      obtain ⟨hcauses, hfirst, hlatch⟩ :=
        (s.lost { s.interlock with feedbackEngaged := false }).judgeDisagreement.haltStands_conclude s
      rw [hjudged] at hcauses hfirst hlatch
      exact ⟨hcauses, hfirst, hlatch⟩
    have htimer := fun hs =>
      State.conclude_interlock_stands (hheld.latchFollows (by rw [hjudged]; rfl) hs) s
    rw [hjudged] at htimer
    have hbatch : ((s.lost { s.interlock with feedbackEngaged := false }).judgeDisagreement.conclude s).batch =
        { s.batch with securedEvents := s.batch.securedEvents ++ [.lost] } := by
      rw [State.conclude_batch, State.judgeDisagreement_batch, s.lost_batch]
    generalize (s.lost { s.interlock with feedbackEngaged := false }).judgeDisagreement.conclude s = t at *
    refine ⟨t, hexec, hends.secured, hends.held, hends.heater, hends.grinder, by simp [hbatch], hends.ports, ?_,
      hends.sensors, hends.tuning, hends.time, hends.requests, by simp, fun _ => hstands,
      fun hs => ⟨by simp, by simp, fun _ => ?_⟩⟩
    · simpa using hends.posts
    · rw [htimer hs, Interlock.judgeDisagreement]
      cases hk : s.interlock.latchCommand <;> simp [Interlock.disagrees, hk]

end Sys2Proof.Machine
end

section
/-! The thermistor report (R57, R59, R70, R72, R78, R79): the one cause that it can raise, the open limit, and the heater on a
faulted plate. -/

namespace Sys2Proof.Machine

/-! ## What a report raises (R57, R59) -/

/-- The report raises this cause afresh: THERMAL_SENSOR on a fault, OVERHEAT above a limit (R57, R59). -/
def State.Raises (x : State) (c : Cause) : Prop :=
  ((c = .thermalSensor ∧ x.sensors.bothValid = false) ∨
    (c = .overheat ∧ x.sensors.bothValid = true ∧ x.tooHot = true)) ∧
  x.interlock.active.has c = false

theorem State.judgeReport_of_fault {x : State} (h : x.sensors.bothValid = false) :
    x.judgeReport = x.raise .thermalSensor := by
  unfold State.judgeReport State.judgeThermalSensor
  rw [if_neg (by simp [h])]
  unfold State.judgeOverheat
  rw [State.raise_sensors, h]
  rfl

theorem State.judgeReport_of_valid {x : State} (h : x.sensors.bothValid = true) : x.judgeReport =
    if x.tooHot = true then (x.deactivate .thermalSensor).raise .overheat
    else if x.cooled = true then (x.deactivate .thermalSensor).deactivate .overheat
    else x.deactivate .thermalSensor := by
  unfold State.judgeReport State.judgeThermalSensor
  rw [if_pos h]
  unfold State.judgeOverheat
  rw [State.deactivate_sensors, h]
  rfl

theorem State.overheat_deactivate (x : State) :
    (x.deactivate .thermalSensor).interlock.active.has .overheat = x.interlock.active.has .overheat :=
  (CauseSet.has_erase _ _ _).trans (by simp)

theorem State.deactivate_stands (x : State) (c : Cause) : x.TableStands (x.deactivate c) ∧ x.HaltStands (x.deactivate c) :=
  ⟨⟨rfl, rfl, rfl⟩, rfl, rfl, rfl⟩

theorem State.judgeReport_interlock (x : State) :
    x.judgeReport.interlock = x.interlock.reported x.sensors.bothValid x.tooHot x.cooled := by
  unfold Interlock.reported
  cases hv : x.sensors.bothValid with
  | false =>
    rw [State.judgeReport_of_fault hv, State.raise_interlock rfl]
    rfl
  | true =>
    rw [State.judgeReport_of_valid hv]
    cases hh : x.tooHot with
    | true =>
      rw [if_pos rfl, State.raise_interlock rfl]
      rfl
    | false =>
      cases x.cooled <;> rfl

theorem Interlock.deactivated_active (u : Interlock) (c d : Cause) :
    (u.deactivated c).active.has d = (u.active.has d && decide (c ≠ d)) := CauseSet.has_erase _ _ _

/-- The active flag of THERMAL_SENSOR is that of the fault (R59). -/
theorem Interlock.reported_thermalSensor (u : Interlock) (valid hot cooled : Bool) :
    (u.reported valid hot cooled).active.has .thermalSensor = !valid := by
  unfold Interlock.reported
  cases valid <;> cases hot <;> cases cooled <;> simp [Interlock.raised_active, Interlock.deactivated_active]

/-- The active flag of OVERHEAT: set above a limit, cleared below both bands, and otherwise as it was (R57). -/
theorem Interlock.reported_overheat (u : Interlock) (valid hot cooled : Bool) :
    (u.reported valid hot cooled).active.has .overheat =
      if !valid then u.active.has .overheat else if hot then true else if cooled then false
      else u.active.has .overheat := by
  unfold Interlock.reported
  cases valid <;> cases hot <;> cases cooled <;> simp [Interlock.raised_active, Interlock.deactivated_active]

/-- A raising report is one of the cause, from a state with the same table and the same halt. -/
theorem State.Raises.judgeReport {x : State} {c : Cause} (h : x.Raises c) :
    ∃ y, x.TableStands y ∧ x.HaltStands y ∧ y.interlock.active.has c = false ∧ x.judgeReport = y.raise c := by
  obtain ⟨⟨rfl, hv⟩ | ⟨rfl, hv, hh⟩, ha⟩ := h
  · exact ⟨x, ⟨rfl, rfl, rfl⟩, ⟨rfl, rfl, rfl⟩, ha, State.judgeReport_of_fault hv⟩
  · obtain ⟨hstands, hhalt⟩ := x.deactivate_stands .thermalSensor
    exact ⟨_, hstands, hhalt, x.overheat_deactivate.trans ha, (State.judgeReport_of_valid hv).trans (if_pos hh)⟩

theorem State.Raises.momentary {x : State} {c : Cause} (h : x.Raises c) : c.momentary = false := by
  obtain ⟨⟨rfl, -⟩ | ⟨rfl, -⟩, -⟩ := h <;> rfl

/-- A report that raises nothing leaves the table and the halt. -/
theorem State.judgeReport_stands {x : State} (h : ∀ c, ¬x.Raises c) :
    x.TableStands x.judgeReport ∧ x.HaltStands x.judgeReport := by
  cases hv : x.sensors.bothValid with
  | false =>
    have ha : x.interlock.active.has .thermalSensor = true := by
      by_contra hn
      exact h .thermalSensor ⟨.inl ⟨rfl, hv⟩, by simpa using hn⟩
    rw [State.judgeReport_of_fault hv, State.raise_of_active rfl ha]
    exact ⟨⟨rfl, rfl, rfl⟩, rfl, rfl, rfl⟩
  | true =>
    rw [State.judgeReport_of_valid hv]
    split
    next hh =>
      have ha : x.interlock.active.has .overheat = true := by
        by_contra hn
        exact h .overheat ⟨.inr ⟨rfl, hv, hh⟩, by simpa using hn⟩
      rw [State.raise_of_active rfl (x.overheat_deactivate.trans ha)]
      exact x.deactivate_stands _
    next =>
      split
      · exact ⟨⟨rfl, rfl, rfl⟩, rfl, rfl, rfl⟩
      · exact x.deactivate_stands _

/-! ## The open limit and the heater (R72, R78, R79) -/

/-- A report to the arbiter, or none, is what the open-limit judgement makes of it (R72). -/
theorem State.passDue_judgePlateBelow {x : State} (h : x.passDue = true) : x.judgePlateBelow.passDue = true := by
  unfold State.judgePlateBelow
  split
  · exact State.reportPass_passDue _
  · exact h

theorem State.requests_judgePlateBelow (x : State) : x.judgePlateBelow.arbiter.requests = x.arbiter.requests := by
  unfold State.judgePlateBelow
  split
  · exact State.reportPass_requests _
  · rfl

theorem State.handover_judgePlateBelow (x : State) : x.judgePlateBelow.arbiter.handover = x.arbiter.handover := by
  unfold State.judgePlateBelow
  split
  · exact State.reportPass_handover _
  · rfl

theorem State.sensors_judgePlateBelow (x : State) :
    x.judgePlateBelow.sensors = { x.sensors with plateBelowOpen := x.plateBelowWanted } := by
  unfold State.judgePlateBelow
  split
  · exact State.reportPass_sensors _
  · rfl

/-- A plate that comes to be below the open limit starts a pass (R72). -/
theorem State.passDue_of_below {x : State} (hw : x.plateBelowWanted = true) (h : x.sensors.plateBelowOpen = false) :
    x.judgePlateBelow.passDue = true := by
  unfold State.judgePlateBelow
  rw [if_pos (by simp [hw, h])]
  exact State.reportPass_passDue _

/-- On a faulted plate the heater is off (R79). -/
def State.FaultedOff (x : State) : Prop := x.sensors.plate.faulted = true ∧ x.drives.heaterOn = false

theorem State.heaterOn_judgeHeater {x : State} (h : x.sensors.plate.faulted = true) :
    x.judgeHeater.drives.heaterOn = false := by
  unfold State.judgeHeater regulate
  simp only [h, if_true, Bool.and_false]
  split <;> rfl

theorem State.FaultedOff.enterGranted {x : State} (h : x.FaultedOff) (i : ClaimIdx) : (x.enterGranted i).FaultedOff := by
  obtain ⟨hf, ho⟩ := h
  refine ⟨by rw [State.enterGranted_sensors, hf], ?_⟩
  by_cases hd : (x.claim i).DrivesOn .heater
  · rw [State.drives_enterGranted_heater hd]
    exact State.heaterOn_judgeHeater hf
  · rw [State.drives_enterGranted_other hd, ho]

theorem State.FaultedOff.resumeOne {x : State} (h : x.FaultedOff) (i : ClaimIdx) : (x.resumeOne i).FaultedOff := by
  unfold State.resumeOne
  split
  · exact h.enterGranted i
  · exact h

/-- No resumption turns the heater on on a faulted plate (R80). -/
theorem State.FaultedOff.resumeAll {x : State} (h : x.FaultedOff) : x.resumeAll.FaultedOff := by
  unfold State.resumeAll
  exact foldl_invariant State.FaultedOff State.resumeOne (fun u i hu => State.FaultedOff.resumeOne hu i) all16 x h

theorem State.FaultedOff.conclude {x : State} (h : x.FaultedOff) (old : State) :
    (x.conclude old).drives.heaterOn = false := by
  have hfollow : x.followLatch.drives.heaterOn = false := by
    by_cases hr : x.ResumesHeld
    · have hset : (x.setLatchCommand .engage).FaultedOff := by
        unfold State.FaultedOff
        rw [State.setLatchCommand_sensors, State.setLatchCommand_drives]
        exact h
      rw [State.followLatch_of_resumes hr]
      exact hset.resumeAll.2
    · rw [State.followLatch_of_not_resumes hr, State.setLatchCommand_drives]
      exact h.2
  rw [State.conclude_heaterOn, State.heaterOn_followHeater, State.followRotor_drives, hfollow, Bool.and_false]

/-! ## The report judged -/

/-- The state in which a report has been taken by all its recipients, before its end. -/
def State.reported (s : State) (plate air : Int) : State :=
  (s.storeReport plate air).judgeReport.judgePlateBelow.judgeHeater

theorem exec_thermistorReport (plate air : Int) (s : State) :
    exec (.thermistorReport plate air) s = .next ((s.reported plate air).conclude s) := rfl

/-- What the later recipients leave: the table, the ports, the unit, the requests and the handover. -/
theorem State.reported_frame (s : State) (plate air : Int) :
    (s.reported plate air).claims = (s.storeReport plate air).judgeReport.claims ∧
    (s.reported plate air).ports = (s.storeReport plate air).judgeReport.ports ∧
    (s.reported plate air).interlock = (s.storeReport plate air).judgeReport.interlock ∧
    (s.reported plate air).arbiter.requests = (s.storeReport plate air).judgeReport.arbiter.requests ∧
    (s.reported plate air).arbiter.handover = (s.storeReport plate air).judgeReport.arbiter.handover := by
  unfold State.reported
  refine ⟨by simp, by simp, by simp, ?_, ?_⟩
  · rw [State.judgeHeater_arbiter, State.requests_judgePlateBelow]
  · rw [State.judgeHeater_arbiter, State.handover_judgePlateBelow]

theorem State.reported_rest (s : State) (plate air : Int) : (s.reported plate air).batch = s.batch ∧
    (s.reported plate air).tuning = s.tuning ∧ (s.reported plate air).time = s.time := by
  unfold State.reported
  exact ⟨by simp, by simp, by simp⟩

theorem State.reported_passDue {s : State} {plate air : Int} (h : (s.storeReport plate air).judgeReport.passDue = true) :
    (s.reported plate air).passDue = true := State.passDue_judgePlateBelow h

theorem State.reported_sensors (s : State) (plate air : Int) : (s.reported plate air).sensors = { s.sensors with
    plate := thermistorConversion plate, air := thermistorConversion air
    plateBelowOpen := (s.storeReport plate air).judgeReport.plateBelowWanted } := by
  unfold State.reported
  rw [State.judgeHeater_sensors, State.sensors_judgePlateBelow, State.judgeReport_sensors]
  rfl

/-- Plate below open limit is that of the conversions stored. -/
theorem State.plateBelowWanted_judgeReport (x : State) : x.judgeReport.plateBelowWanted = x.plateBelowWanted := by
  unfold State.plateBelowWanted State.openLimit
  rw [State.judgeReport_sensors, State.judgeReport_tuning]

/-- A report that raises a cause is a trip with its hold. -/
theorem State.reported_raises {s : State} {plate air : Int} {c : Cause} (h : (s.storeReport plate air).Raises c) :
    s.Tripped ((s.reported plate air).conclude s) c ∧
      s.HoldTaken ((s.reported plate air).conclude s) (fun _ => false) ∧
      (s.Notifies ((s.reported plate air).conclude s) fun n q =>
        s.HoldNotice (fun _ => false) n q ∨ n = .trip) ∧
      ∀ n q, ¬s.ResumeNotice ((s.reported plate air).conclude s) n q := by
  obtain ⟨y, hstands, ⟨hcauses, hfirst, hlatch⟩, ha, hreport⟩ := h.judgeReport
  obtain ⟨hclaims, hports, hunit, hrequests, hhandover⟩ := s.reported_frame plate air
  have hy : s.TableStands y := ⟨hstands.claims, hstands.ports, hstands.arbiter⟩
  have hraise := State.heldBy_raise hy h.momentary ha
  rw [← hreport] at hraise
  have hheld := hraise.of_eq hclaims hports State.reported_passDue hrequests hhandover
    ((State.chamberOk_congr hunit).trans hraise.unfit)
  obtain ⟨kcauses, klatch, kfirst⟩ := Interlock.raised_halts ha
  rw [← State.raise_interlock h.momentary, ← hreport, ← hunit] at kcauses klatch kfirst
  refine ⟨hheld.tripped (by rw [kcauses, hcauses]; rfl) klatch (by rw [kfirst, hfirst, hlatch]; rfl) (fun _ => rfl) s,
    hheld.holdTaken s, hheld.notifies_conclude s, ?_⟩
  rintro n q ⟨-, j, hj, hg, -⟩
  obtain ⟨-, -, hother⟩ := hheld.holdTaken s j rfl
  rw [hother (Claim.isHoldable_of_state (by rw [hj]; simp)), hj] at hg
  cases hg

/-- A report that raises nothing ends with at most a resumption (R53). -/
theorem State.reported_stands {s : State} {plate air : Int} (h : ∀ c, ¬(s.storeReport plate air).Raises c) :
    s.HaltStands ((s.reported plate air).conclude s) ∧
      s.Notifies ((s.reported plate air).conclude s) (s.ResumeNotice ((s.reported plate air).conclude s)) := by
  obtain ⟨hstands, hcauses, hfirst, hlatch⟩ := State.judgeReport_stands h
  obtain ⟨hclaims, hports, hunit, -, -⟩ := s.reported_frame plate air
  obtain ⟨kcauses, kfirst, klatch⟩ := (s.reported plate air).haltStands_conclude s
  rw [hunit] at kcauses kfirst klatch
  refine ⟨⟨kcauses.trans hcauses, kfirst.trans hfirst, klatch.trans hlatch⟩, ?_⟩
  exact (State.notifies_conclude_resumes (fun j => .inl (State.claim_congr (hclaims.trans hstands.claims) j)) s).congr
    (hports.trans hstands.ports).symm rfl

theorem State.reported_requests (s : State) (plate air : Int) :
    ((s.reported plate air).conclude s).arbiter.requests = s.arbiter.requests := by
  obtain ⟨-, -, -, hrequests, -⟩ := s.reported_frame plate air
  rw [State.conclude_arbiter, hrequests]
  exact (State.calm_judgeReport (arms := anyArming) (s.storeReport plate air)).requests

/-- The active flags at the end of a report, but LATCH_FAULT's. -/
theorem State.reported_active (s : State) (plate air : Int) {c : Cause} (hc : c ≠ .latchFault) :
    ((s.reported plate air).conclude s).interlock.active.has c =
      (s.interlock.reported (s.storeReport plate air).sensors.bothValid (s.storeReport plate air).tooHot
        (s.storeReport plate air).cooled).active.has c := by
  obtain ⟨-, -, hunit, -, -⟩ := s.reported_frame plate air
  rw [State.active_conclude_eq _ _ hc, hunit, State.judgeReport_interlock]
  rfl

/-- The causes that become active in a report are those that it raises. -/
theorem State.reported_newly (s : State) (plate air : Int) {c : Cause} (hc : c ∈ [Cause.thermalSensor, .overheat]) :
    (((s.reported plate air).conclude s).interlock.active.has c = true ∧ s.interlock.active.has c = false) ↔
      (s.storeReport plate air).Raises c := by
  unfold State.Raises
  rw [State.storeReport_interlock]
  refine and_congr_left fun ha => ?_
  obtain rfl | rfl : c = .thermalSensor ∨ c = .overheat := by simpa using hc
  · rw [State.reported_active _ _ _ (by decide), Interlock.reported_thermalSensor]
    simp
  · rw [State.reported_active _ _ _ (by decide), Interlock.reported_overheat, ha]
    cases (s.storeReport plate air).sensors.bothValid <;> cases (s.storeReport plate air).tooHot <;> simp

/-- The notices of a report: the trip's with its hold's, or the resumptions' (R16, R56, R63). -/
theorem State.reported_notifies (s : State) (plate air : Int) :
    s.Notifies ((s.reported plate air).conclude s) fun n q =>
      s.ResumeNotice ((s.reported plate air).conclude s) n q ∨
        ((∃ c, c ∈ [Cause.thermalSensor, .overheat] ∧
            ((s.reported plate air).conclude s).interlock.active.has c = true ∧ s.interlock.active.has c = false) ∧
          (n = .trip ∨ s.HoldNotice (fun _ => false) n q)) := by
  by_cases h : ∃ c, (s.storeReport plate air).Raises c
  · obtain ⟨c, hc⟩ := h
    have hlisted : c ∈ [Cause.thermalSensor, .overheat] := by
      obtain ⟨⟨rfl, -⟩ | ⟨rfl, -⟩, -⟩ := hc <;> simp
    obtain ⟨-, -, hnotes, hresumes⟩ := State.reported_raises hc
    refine hnotes.iff fun n q => ?_
    rw [or_iff_right (hresumes n q), and_iff_right ⟨c, hlisted, (s.reported_newly plate air hlisted).2 hc⟩]
    exact or_comm
  · obtain ⟨-, hnotes⟩ := State.reported_stands fun c hc => h ⟨c, hc⟩
    refine hnotes.iff fun n q => (or_iff_left ?_).symm
    rintro ⟨⟨c, hlisted, hnew⟩, -⟩
    exact h ⟨c, (s.reported_newly plate air hlisted).1 hnew⟩

/-! ## The readings (R57, R59, R70) -/

theorem State.plate_storeReport (s : State) {plate : Int} (air : Int) (h : -40 ≤ plate ∧ plate ≤ 300) :
    (s.storeReport plate air).sensors.plate = ⟨plate, !decide (ReadingValid plate)⟩ :=
  thermistorConversion_of_span h.1 h.2

theorem State.air_storeReport (s : State) (plate : Int) {air : Int} (h : -40 ≤ air ∧ air ≤ 300) :
    (s.storeReport plate air).sensors.air = ⟨air, !decide (ReadingValid air)⟩ :=
  thermistorConversion_of_span h.1 h.2

theorem State.tooHot_storeReport (s : State) {plate air : Int} (hp : -40 ≤ plate ∧ plate ≤ 300)
    (ha : -40 ≤ air ∧ air ≤ 300) : (s.storeReport plate air).tooHot =
      decide ((s.tuning.get 8 : Int) < plate ∨ (s.tuning.get 9 : Int) < air) := by
  unfold State.tooHot
  rw [s.plate_storeReport air hp, s.air_storeReport plate ha]
  rfl

theorem State.cooled_storeReport (s : State) {plate air : Int} (hp : -40 ≤ plate ∧ plate ≤ 300)
    (ha : -40 ≤ air ∧ air ≤ 300) : (s.storeReport plate air).cooled =
      decide (plate ≤ (s.tuning.get 8 : Int) - 15 ∧ air ≤ (s.tuning.get 9 : Int) - 10) := by
  unfold State.cooled
  rw [s.plate_storeReport air hp, s.air_storeReport plate ha]
  rfl

theorem State.below_storeReport (s : State) {plate : Int} (air : Int) (hp : -40 ≤ plate ∧ plate ≤ 300) :
    (s.storeReport plate air).plateBelowWanted = decide (ReadingValid plate ∧ plate < (s.tuning.get 10 : Int)) := by
  unfold State.plateBelowWanted
  rw [s.plate_storeReport air hp, Bool.not_not]
  exact (Bool.decide_and (ReadingValid plate) _).symm

/-! ## The four outcomes of a report -/

section

variable {s : State} {plate air : Int}

/-- A fault: THERMAL_SENSOR is active, and OVERHEAT is not judged (R57, R59). -/
theorem State.reported_fault (hv : (s.storeReport plate air).sensors.bothValid = false) :
    ((s.reported plate air).conclude s).interlock.active.has .thermalSensor = true ∧
    ((s.reported plate air).conclude s).interlock.active.has .overheat = s.interlock.active.has .overheat ∧
    (s.interlock.active.has .thermalSensor = false → s.Tripped ((s.reported plate air).conclude s) .thermalSensor ∧
      s.HoldTaken ((s.reported plate air).conclude s) (fun _ => false)) ∧
    (s.interlock.active.has .thermalSensor = true → s.HaltStands ((s.reported plate air).conclude s)) := by
  refine ⟨?_, ?_, fun ha => ?_, fun ha => ?_⟩
  · rw [State.reported_active _ _ _ (by decide), Interlock.reported_thermalSensor, hv]
    rfl
  · rw [State.reported_active _ _ _ (by decide), Interlock.reported_overheat, hv]
    rfl
  · obtain ⟨htripped, hheld, -⟩ := State.reported_raises ⟨.inl ⟨rfl, hv⟩, ha⟩
    exact ⟨htripped, hheld⟩
  · refine (State.reported_stands ?_).1
    rintro c ⟨⟨rfl, -⟩ | ⟨-, hvalid, -⟩, hn⟩
    · exact absurd (ha.symm.trans hn) (by decide)
    · rw [hv] at hvalid
      cases hvalid

/-- Both conversions valid, and one above its limit (R57). -/
theorem State.reported_hot (hv : (s.storeReport plate air).sensors.bothValid = true)
    (hh : (s.storeReport plate air).tooHot = true) :
    ((s.reported plate air).conclude s).interlock.active.has .overheat = true ∧
    (s.interlock.active.has .overheat = false → s.Tripped ((s.reported plate air).conclude s) .overheat ∧
      s.HoldTaken ((s.reported plate air).conclude s) (fun _ => false)) ∧
    (s.interlock.active.has .overheat = true → s.HaltStands ((s.reported plate air).conclude s)) := by
  refine ⟨?_, fun ha => ?_, fun ha => ?_⟩
  · rw [State.reported_active _ _ _ (by decide), Interlock.reported_overheat, hv, hh]
    rfl
  · obtain ⟨htripped, hheld, -⟩ := State.reported_raises ⟨.inr ⟨rfl, hv, hh⟩, ha⟩
    exact ⟨htripped, hheld⟩
  · refine (State.reported_stands ?_).1
    rintro c ⟨⟨-, hfault⟩ | ⟨rfl, -, -⟩, hn⟩
    · rw [hv] at hfault
      cases hfault
    · exact absurd (ha.symm.trans hn) (by decide)

/-- Both conversions valid, and neither above its limit: OVERHEAT ceases below both bands (R57). -/
theorem State.reported_cool (hv : (s.storeReport plate air).sensors.bothValid = true)
    (hh : (s.storeReport plate air).tooHot = false) :
    s.HaltStands ((s.reported plate air).conclude s) ∧
    ((s.reported plate air).conclude s).interlock.active.has .overheat =
      if (s.storeReport plate air).cooled then false else s.interlock.active.has .overheat := by
  refine ⟨(State.reported_stands ?_).1, ?_⟩
  · rintro c ⟨⟨-, hfault⟩ | ⟨-, -, hhot⟩, -⟩
    · rw [hv] at hfault
      cases hfault
    · rw [hh] at hhot
      cases hhot
  · rw [State.reported_active _ _ _ (by decide), Interlock.reported_overheat, hv, hh]
    rfl

end

/-- Settles O45, by the one cause that a report can raise: none, or a trip with its hold, whatever the later recipients do. -/
theorem thermistorReportIsJudged : Obligations.ThermistorReportIsJudged := by
  intro plate air s hp ha
  have hexec := exec_thermistorReport plate air s
  have hsensors : ((s.reported plate air).conclude s).sensors = _ :=
    (State.conclude_sensors _ s).trans (s.reported_sensors plate air)
  rw [State.plateBelowWanted_judgeReport, s.below_storeReport air hp, thermistorConversion_of_span hp.1 hp.2,
    thermistorConversion_of_span ha.1 ha.2] at hsensors
  have hvalid : (s.storeReport plate air).sensors.bothValid = (decide (ReadingValid plate) && decide (ReadingValid air)) := by
    unfold Sensors.bothValid
    rw [s.plate_storeReport air hp, s.air_storeReport plate ha, Bool.not_not, Bool.not_not]
  have hdue : decide (ReadingValid plate ∧ plate < (s.tuning.get 10 : Int)) = true → s.sensors.plateBelowOpen = false →
      ((s.reported plate air).conclude s).passDue = true := fun hw hold => by
    refine State.passDue_conclude ?_ s
    refine State.passDue_of_below (x := (s.storeReport plate air).judgeReport) ?_ ?_
    · rw [State.plateBelowWanted_judgeReport, s.below_storeReport air hp, hw]
    · rw [State.judgeReport_sensors]
      exact hold
  have hheater : (!decide (ReadingValid plate)) = true → ((s.reported plate air).conclude s).drives.heaterOn = false :=
    fun hf => by
      have hfaulted : (s.storeReport plate air).judgeReport.judgePlateBelow.sensors.plate.faulted = true := by
        rw [State.sensors_judgePlateBelow, State.judgeReport_sensors]
        show (s.storeReport plate air).sensors.plate.faulted = true
        rw [s.plate_storeReport air hp, hf]
      exact State.FaultedOff.conclude (x := s.reported plate air) ⟨hfaulted, State.heaterOn_judgeHeater hfaulted⟩ s
  have hfault := State.reported_fault (s := s) (plate := plate) (air := air)
  have hsensor := s.reported_active plate air (c := .thermalSensor) (by decide)
  rw [Interlock.reported_thermalSensor] at hsensor
  have hhot := State.reported_hot (s := s) (plate := plate) (air := air)
  have hcool := State.reported_cool (s := s) (plate := plate) (air := air)
  rw [hvalid] at hfault hsensor hhot hcool
  rw [s.tooHot_storeReport hp ha] at hhot hcool
  rw [s.cooled_storeReport hp ha] at hcool
  have hnotes := s.reported_notifies plate air
  obtain ⟨hbatch, htuning, htime⟩ := s.reported_rest plate air
  have kbatch := (State.conclude_batch (s.reported plate air) s).trans hbatch
  have ktuning := (State.conclude_tuning (s.reported plate air) s).trans htuning
  have ktime := (State.conclude_time (s.reported plate air) s).trans htime
  have hrequests := s.reported_requests plate air
  generalize (s.reported plate air).conclude s = t at *
  have hplate : t.sensors.plate.faulted = !decide (ReadingValid plate) := by rw [hsensors]
  have hair : t.sensors.air.faulted = !decide (ReadingValid air) := by rw [hsensors]
  refine ⟨t, hexec, hsensors, fun hb => hdue (by rw [hsensors] at hb; exact hb), fun hf => hheater (hplate ▸ hf),
    fun hf => hfault ?_, fun hpv hav => ?_, hnotes.ports, hnotes.posts, kbatch, ktuning, ktime, hrequests⟩
  · rw [hplate, hair, Bool.not_eq_true', Bool.not_eq_true'] at hf
    exact (Bool.and_eq_false_iff).2 hf
  · rw [hplate, Bool.not_eq_false'] at hpv
    rw [hair, Bool.not_eq_false'] at hav
    have hboth : (decide (ReadingValid plate) && decide (ReadingValid air)) = true := by rw [hpv, hav]; rfl
    rw [hboth] at hsensor
    refine ⟨hsensor, fun hlimit => hhot hboth (decide_eq_true hlimit), fun hpl hal => ?_⟩
    obtain ⟨hhalt, hoverheat⟩ := hcool hboth (decide_eq_false (by omega))
    refine ⟨hhalt, fun hbelow => ?_, fun hnot => ?_⟩
    · rw [hoverheat, if_pos (decide_eq_true hbelow)]
    · rw [hoverheat, if_neg (by simpa using hnot)]

end Sys2Proof.Machine
end

section
/-! The dose sample and the grind credit (R73, R117 to R121): the records credited and judged, the dry run, the mix and the
finished flag. -/

namespace Sys2Proof.Machine

/-! ## Every record credited and judged (R118, R121, R123) -/

/-- An evaluation of the whole table (R123 to R125). -/
theorem State.judgedRecords_all (u : State) :
    u.judgedRecords (fun _ => true) = u.batch.records.map fun r => u.credited r r.dose r.grind :=
  List.ext_getElem? fun k => by rw [State.getElem?_judgedRecords, List.getElem?_map]; rfl

/-- Counts written before an evaluation are those that it judges, under the clock and the requirements that stand. -/
theorem State.judgedRecords_credit {s u : State} {f : BatchRecord → BatchRecord} {dose grind : BatchRecord → Nat}
    (hu : u.batch.records = s.batch.records.map f) (hf : ∀ r, f r = { r with dose := dose r, grind := grind r })
    (ht : u.tuning = s.tuning) (hclock : u.sensors.clock = s.sensors.clock) :
    u.judgedRecords (fun _ => true) = s.batch.records.map fun r => s.credited r (dose r) (grind r) := by
  rw [State.judgedRecords_all, hu, List.map_map]
  refine List.map_congr_left fun r _ => ?_
  simp only [Function.comp_apply, hf]
  unfold State.credited State.cureState
  rw [ht, hclock]

/-- A credit of counts changes no record's state. -/
theorem getElem?_state_map {f : BatchRecord → BatchRecord} (hf : ∀ r, (f r).state = r.state) (l : List BatchRecord) (k : Nat) :
    l[k]?.map BatchRecord.state = (l.map f)[k]?.map BatchRecord.state := by
  rw [List.getElem?_map, Option.map_map]
  exact congrArg (Option.map · _) (funext fun r => (hf r).symm)

/-! ## The dose sample (R73, R117 to R120) -/

/-- The state in which a dose sample reaches the batch unit: the humidity conversion stored (R73, R76). -/
def State.sampled (s : State) (h : HumidityReading) : State :=
  { s with sensors := { s.sensors.storeHumidity h with samplesDue := s.sensors.samplesDue - 1 } }

theorem exec_doseSample {s : State} (hdue : 0 < s.sensors.samplesDue) (h : HumidityReading) :
    exec (.doseSample h) s = .next ((s.sampled h).takeSample h) := by
  show execDoseSample h s = _
  unfold execDoseSample
  rw [if_pos hdue]
  cases h <;> rfl

theorem State.sampled_clock (s : State) (h : HumidityReading) : (s.sampled h).sensors.clock = s.sensors.clock := by
  cases h <;> rfl

theorem State.sampled_air (s : State) (h : HumidityReading) : (s.sampled h).sensors.air = s.sensors.air := by
  cases h <;> rfl

/-- The dry run count after a sample (R119). -/
def State.dryRunAfter (u : State) (h : HumidityReading) : Nat :=
  if u.sampleIsDry h then min (u.batch.dryRun + 1) Config.dryRunTop else 0

/-- The sample dries the mix (R120). -/
def State.Dries (u : State) (h : HumidityReading) : Prop := u.batch.mix = .wet ∧ u.drySettle ≤ u.dryRunAfter h

/-- The first three stages of a sample: dose, cure and the dry run (R117). -/
def State.dosed (u : State) (h : HumidityReading) : State := u.creditDose.evaluateAll.judgeDryRun h

theorem State.takeSample_eq (u : State) (h : HumidityReading) : u.takeSample h = (u.dosed h).judgeMix.judgeFinished := rfl

theorem State.dosed_batch (u : State) (h : HumidityReading) : (u.dosed h).batch = { u.batch with
    records := u.creditDose.judgedRecords (fun _ => true), dryRun := u.dryRunAfter h } := by
  have hdry : u.creditDose.evaluateAll.sampleIsDry h = u.sampleIsDry h := by
    unfold State.sampleIsDry State.dryTarget
    rw [State.evaluateAll_interlock, State.evaluateAll_tuning]
    rfl
  have hbatch : u.creditDose.evaluateAll.batch = _ := State.evaluate_batch _ _
  unfold State.dosed State.judgeDryRun
  simp only
  rw [hdry, hbatch]
  rfl

theorem State.dosed_tuning (u : State) (h : HumidityReading) : (u.dosed h).tuning = u.tuning := by simp [State.dosed]

/-- The mix judged after the dry run (R120). -/
theorem State.judgeMix_batch (x : State) : x.judgeMix.batch = { x.batch with
    mix := if x.batch.mix = .wet ∧ x.drySettle ≤ x.batch.dryRun then .dry else x.batch.mix } := by
  unfold State.judgeMix
  split <;> rfl

theorem State.batchEvent_judgeMix (x : State) : x.BatchEvent x.judgeMix := by
  unfold State.judgeMix
  split <;> rfl

theorem State.notifies_judgeMix (x : State) : x.Notifies x.judgeMix fun n _ =>
    n = .mixDry ∧ x.batch.mix = .wet ∧ x.drySettle ≤ x.batch.dryRun := by
  unfold State.judgeMix
  split
  next hd =>
    have hset : x.Notifies { x with batch := { x.batch with mix := .dry } } fun _ _ => False := .of_ports_eq rfl
    exact (hset.trans (State.notifies_postAll _ .mixDry)).iff fun n q => by rw [false_or, and_iff_left hd]
  next hd => exact State.Notifies.iff (.of_ports_eq rfl) fun n q => iff_of_false id fun h => hd h.2

/-- A sample at the batch unit (R117 to R120). -/
theorem State.takeSample_batch (u : State) (h : HumidityReading) : (u.takeSample h).batch = { u.batch with
    records := u.creditDose.judgedRecords (fun _ => true), dryRun := u.dryRunAfter h
    mix := if u.batch.mix = .wet ∧ u.drySettle ≤ u.dryRunAfter h then .dry else u.batch.mix
    finished := (u.takeSample h).batch.finished } := by
  have hsettle : (u.dosed h).drySettle = u.drySettle := congrArg (·.get 6) (u.dosed_tuning h)
  rw [State.takeSample_eq, State.judgeFinished_batch, State.judgeMix_batch, State.dosed_batch, hsettle]

theorem State.batchEvent_takeSample (u : State) (h : HumidityReading) : u.BatchEvent (u.takeSample h) := by
  have hdosed : u.BatchEvent (u.dosed h) :=
    (State.BatchEvent.trans (t := u.creditDose) rfl (State.batchEvent_evaluate _ _)).trans rfl
  exact (hdosed.trans (State.batchEvent_judgeMix _)).trans (State.batchEvent_judgeFinished _)

/-- The notices of a sample: those of cure and of the finished flag, and MIX_DRY (R120, R124, R128). -/
theorem State.notifies_takeSample (u : State) (h : HumidityReading) : u.Notifies (u.takeSample h) fun n _ =>
    u.CureNotice (u.takeSample h) n ∨ (n = .mixDry ∧ u.Dries h) := by
  have hcredit : u.Notifies u.creditDose fun _ _ => False := .of_ports_eq rfl
  have hdryRun : u.creditDose.evaluateAll.Notifies (u.dosed h) fun _ _ => False := .of_ports_eq rfl
  have hcured : EntersCured u.creditDose.batch.records (u.creditDose.judgedRecords fun _ => true) ↔
      EntersCured u.batch.records (u.creditDose.judgedRecords fun _ => true) :=
    entersCured_congr fun k => (getElem?_state_map (f := (·.addDose u.doseGain)) (fun _ => rfl) u.batch.records k).symm
  have hsettle : (u.dosed h).drySettle = u.drySettle := congrArg (·.get 6) (u.dosed_tuning h)
  have hdosed := (hcredit.trans (State.notifies_evaluate u.creditDose _)).trans hdryRun
  have hall := (hdosed.trans (State.notifies_judgeMix _)).trans (State.notifies_judgeFinished _)
  refine hall.iff fun n q => ?_
  rw [State.judgeMix_batch, hsettle, State.dosed_batch, hcured]
  have hrecords : (u.takeSample h).batch.records = u.creditDose.judgedRecords (fun _ => true) := by
    rw [State.takeSample_batch]
  unfold State.CureNotice State.Dries
  rw [hrecords]
  unfold EntersCured
  simp only [State.takeSample_eq, false_or, or_false]
  exact or_right_comm

/-- The gain is the air's excess over the dose floor in a secured chamber with the air valid, and else nothing (R118). -/
theorem State.doseGain_eq {s : State} {gain : Nat}
    (hgains : s.interlock.secured = true → s.sensors.air.faulted = false → (s.tuning.get 2 : Int) ≤ s.sensors.air.value →
      (gain : Int) = s.sensors.air.value - (s.tuning.get 2 : Int))
    (hnone : s.interlock.secured = false ∨ s.sensors.air.faulted = true ∨ s.sensors.air.value < (s.tuning.get 2 : Int) →
      gain = 0) (h : HumidityReading) : (s.sampled h).doseGain = gain := by
  unfold State.doseGain State.doseFloor
  rw [s.sampled_air h]
  show (if (s.interlock.secured && !s.sensors.air.faulted && decide ((s.tuning.get 2 : Int) ≤ s.sensors.air.value)) = true
    then (s.sensors.air.value - (s.tuning.get 2 : Int)).toNat else 0) = gain
  split
  next hg =>
    simp only [Bool.and_eq_true, Bool.not_eq_true', decide_eq_true_eq] at hg
    obtain ⟨⟨hsecured, hair⟩, hfloor⟩ := hg
    rw [← hgains hsecured hair hfloor, Int.toNat_natCast]
  next hg =>
    refine (hnone ?_).symm
    by_contra hn
    simp only [not_or, Bool.not_eq_false, Bool.not_eq_true, not_lt] at hn
    obtain ⟨hsecured, hair, hfloor⟩ := hn
    exact hg (by simp [hsecured, hair, hfloor])

/-- Every record gains the dose and is judged (R118, R123). -/
theorem State.records_takeSample (s : State) (h : HumidityReading) : ((s.sampled h).takeSample h).batch.records =
    s.batch.records.map fun r => s.credited r (min (r.dose + (s.sampled h).doseGain) 65535) r.grind := by
  rw [State.takeSample_batch]
  exact State.judgedRecords_credit (u := (s.sampled h).creditDose) rfl (fun _ => rfl) rfl (s.sampled_clock h)

/-- The run counts on a sample that is dry (R119). -/
theorem State.dryRunAfter_of_dry {s : State} {rh : Nat} (hs : s.interlock.secured = true) (hvalid : rh ≤ 100)
    (htarget : rh ≤ s.tuning.get 5) : s.dryRunAfter (.result rh) = min (s.batch.dryRun + 1) 600 :=
  if_pos (by simp [State.sampleIsDry, State.dryTarget, hs, hvalid, htarget])

/-- Any other sample returns the run to 0 (R119). -/
theorem State.dryRunAfter_of_not_dry {s : State} {h : HumidityReading}
    (hn : h = .failed ∨ s.interlock.secured = false ∨ ∃ rh, h = .result rh ∧ (100 < rh ∨ s.tuning.get 5 < rh)) :
    s.dryRunAfter h = 0 := by
  refine if_neg ?_
  obtain rfl | hs | ⟨rh, rfl, hrh⟩ := hn
  · simp [State.sampleIsDry]
  · cases h <;> simp [State.sampleIsDry, hs]
  · simp only [State.sampleIsDry, Bool.and_eq_true, decide_eq_true_eq]
    rintro ⟨⟨-, hvalid⟩, htarget⟩
    exact hrh.elim (Nat.not_lt.2 hvalid) (Nat.not_lt.2 htarget)

/-! ## GRIND_CREDIT (R121) -/

/-- A revolution at the batch unit is a credit of grind judged as a change of the requirements is (R121). -/
theorem State.takeRevolution_credits (s : State) : s.BatchEvent s.takeRevolution ∧
    s.takeRevolution.batch = { s.batch with
      records := s.batch.records.map fun r => s.credited r r.dose (min (r.grind + 1) 65535)
      finished := s.takeRevolution.batch.finished } ∧
    s.takeRevolution.batch.FinishedFits ∧ s.Notifies s.takeRevolution fun n _ => s.CureNotice s.takeRevolution n := by
  have hrecords := State.judgedRecords_credit (s := s) (u := s.setRecords (s.batch.records.map BatchRecord.addGrind)) rfl
    (fun _ => rfl) rfl rfl
  obtain ⟨hevent, hbatch, hfits, hnotes⟩ :=
    (s.setRecords (s.batch.records.map BatchRecord.addGrind)).requirementsChanged_cures
  rw [← State.judgedRecords_all, hrecords] at hbatch
  have knotes := hnotes.congr (s' := s) (t' := s.takeRevolution) rfl rfl
  refine ⟨.trans (t := s.setRecords (s.batch.records.map BatchRecord.addGrind)) rfl hevent, hbatch, hfits,
    knotes.iff fun n _ => ?_⟩
  exact (State.cureNotice_congr (s := s) (u := s.setRecords (s.batch.records.map BatchRecord.addGrind))
    (getElem?_state_map (f := BatchRecord.addGrind) (fun _ => rfl) s.batch.records) rfl n).symm

theorem exec_grindCredit {s : State} (h : 0 < s.rotor.handed) : exec .grindCredit s =
    .next (State.takeRevolution { s with rotor := { s.rotor with handed := s.rotor.handed - 1 } }) := by
  show execGrindCredit s = _
  unfold execGrindCredit
  rw [if_pos h]

/-- Settles O51, by the five stages of a sample, and by the credit of a revolution judged as a change of requirements. -/
theorem doseAndGrindReachEveryRecord : Obligations.DoseAndGrindReachEveryRecord := by
  refine ⟨fun h s hdue => ?_, fun s hhanded => ?_⟩
  · have hexec := exec_doseSample hdue h
    have hevent := State.batchEvent_takeSample (s.sampled h) h
    have hbatch := State.takeSample_batch (s.sampled h) h
    have hrecords := s.records_takeSample h
    have hfits : ((s.sampled h).takeSample h).batch.FinishedFits := State.finishedFits_judgeFinished _
    have hnotes := (State.notifies_takeSample (s.sampled h) h).congr (s' := s) rfl rfl
    generalize (s.sampled h).takeSample h = t at *
    have hsensors : t.sensors = (s.sampled h).sensors := by rw [hevent]
    have hdryRun : t.batch.dryRun = s.dryRunAfter h := by rw [hbatch]; rfl
    have hmix : t.batch.mix = if s.batch.mix = .wet ∧ s.tuning.get 6 ≤ t.batch.dryRun then .dry else s.batch.mix := by
      rw [hdryRun, hbatch]
      rfl
    have hdries : (s.sampled h).Dries h ↔ s.batch.mix = .wet ∧ s.tuning.get 6 ≤ t.batch.dryRun := by
      rw [hdryRun]
      rfl
    simp only [hdries] at hnotes
    refine ⟨t, hexec, by rw [hsensors]; exact hevent, ?_, ?_, by rw [hbatch]; rfl, fun gain hgains hnone => ?_, ?_,
      fun hn => hdryRun.trans (State.dryRunAfter_of_not_dry hn), fun hwet hsettle => ⟨?_, fun q => ?_⟩, fun hn => ?_, hfits,
      State.cureNotices_of_posted fun n q hn => hnotes.posted (.inl hn), hnotes.ports, hnotes.posts⟩
    · rintro rh rfl
      exact hsensors
    · rintro rfl
      exact hsensors
    · rw [hrecords, State.doseGain_eq hgains hnone]
    · rintro rh rfl hs hvalid htarget
      exact hdryRun.trans (State.dryRunAfter_of_dry hs hvalid htarget)
    · exact hmix.trans (if_pos ⟨hwet, hsettle⟩)
    · exact hnotes.posted (.inr ⟨rfl, hwet, hsettle⟩)
    · exact hmix.trans (if_neg fun ⟨hwet, hsettle⟩ => hn.elim (· hwet) (Nat.not_lt.2 hsettle))
  · obtain ⟨hevent, hbatch, hfits, hnotes⟩ :=
      State.takeRevolution_credits { s with rotor := { s.rotor with handed := s.rotor.handed - 1 } }
    have knotes := hnotes.congr (s' := s) rfl rfl
    refine ⟨_, exec_grindCredit hhanded, ?_, hfits, State.cureNotices_of_posted fun n q hn => knotes.posted hn,
      knotes.ports, knotes.posts⟩
    generalize State.takeRevolution { s with rotor := { s.rotor with handed := s.rotor.handed - 1 } } = t at *
    have hbatch' : t.batch = { s.batch with
        records := s.batch.records.map fun r => s.credited r r.dose (min (r.grind + 1) 65535)
        finished := t.batch.finished } := hbatch
    rw [← hbatch']
    exact hevent

end Sys2Proof.Machine
end

section
/-! The heater after a report that trips nothing, and the fan duty of R81 (R78, R79, R81). -/

namespace Sys2Proof.Machine

/-! ## The heater (R78, R79) -/

/-- A report of two valid readings at or below their limits raises nothing (R57, R59). -/
theorem State.not_raises_storeReport {s : State} {plate air : Int} (hp : ReadingValid plate) (ha : ReadingValid air)
    (hplate : plate ≤ (s.tuning.get 8 : Int)) (hair : air ≤ (s.tuning.get 9 : Int)) (c : Cause) :
    ¬(s.storeReport plate air).Raises c := by
  have hps : -40 ≤ plate ∧ plate ≤ 300 := by omega
  have has : -40 ≤ air ∧ air ≤ 300 := by omega
  rintro ⟨⟨-, hfault⟩ | ⟨-, -, hhot⟩, -⟩
  · rw [Sensors.bothValid, s.plate_storeReport air hps, s.air_storeReport plate has] at hfault
    simp [hp, ha] at hfault
  · rw [s.tooHot_storeReport hps has, decide_eq_true_eq] at hhot
    omega

/-- A report reaches neither the secured condition nor the latch command. -/
theorem Interlock.reported_stands (u : Interlock) (valid hot cooled : Bool) :
    (u.reported valid hot cooled).secured = u.secured ∧ (u.reported valid hot cooled).latchCommand = u.latchCommand := by
  have hraised : ∀ (v : Interlock) (c : Cause),
      (v.raised c).secured = v.secured ∧ (v.raised c).latchCommand = v.latchCommand := fun v c => by
    unfold Interlock.raised
    split <;> exact ⟨rfl, rfl⟩
  cases valid with
  | false => exact hraised u .thermalSensor
  | true =>
    cases hot with
    | true => exact hraised (u.deactivated .thermalSensor) .overheat
    | false => cases cooled <;> exact ⟨rfl, rfl⟩

/-- The heater judged for its one GRANTED claim in a chamber fit for it (R78, R79). -/
theorem State.heaterOn_judgeHeater_of_only {x : State} {i : ClaimIdx} (hi : (x.claim i).grantedOn .heater = true)
    (honly : ∀ j, (x.claim j).grantedOn .heater = true → j = i) (hok : x.chamberOk = true) :
    x.judgeHeater.drives.heaterOn =
      regulate x.drives.heaterOn ((x.claim i).active.settingA.toNat : Int) x.sensors.plate := by
  obtain ⟨hs, hh⟩ := (State.chamberOk_iff x).1 hok
  have hg : Table.granted x.claims .heater = some i :=
    Table.granted_of_only hi fun j hj => Bool.eq_false_iff.2 fun h => hj (honly j h)
  unfold State.judgeHeater
  simp [hg, hs, hh]

/-- The heater stands at the end of an event that leaves its claim GRANTED and the latch command at ENGAGE, in a chamber
fit for it (R78). -/
theorem State.heaterOn_conclude_of_engaged {u : State} {i : ClaimIdx} (hi : (u.claim i).grantedOn .heater = true)
    (hok : u.chamberOk = true) (he : u.interlock.latchCommand = .engage) (old : State) :
    (u.conclude old).drives.heaterOn = u.drives.heaterOn := by
  rw [State.conclude_heaterOn_of_driven old hok (State.driven_followLatch hi),
    State.followLatch_of_not_resumes (State.not_resumesHeld_of_engaged he), State.setLatchCommand_drives]

/-- A report that raises nothing has the heater judged on its plate conversion (R78, R79). -/
theorem State.heaterJudged_report {s : State} {plate air : Int} {i : ClaimIdx}
    (hquiet : ∀ c, ¬(s.storeReport plate air).Raises c) (hi : (s.claim i).grantedOn .heater = true)
    (honly : ∀ j, (s.claim j).grantedOn .heater = true → j = i) (hok : s.chamberOk = true)
    (he : s.interlock.latchCommand = .engage) :
    (s.storeReport plate air).HeaterJudged ((s.reported plate air).conclude s) i := by
  obtain ⟨hstands, -, -, hlatch⟩ := State.judgeReport_stands hquiet
  obtain ⟨hsecured, hcommand⟩ := Interlock.reported_stands (s.storeReport plate air).interlock
    (s.storeReport plate air).sensors.bothValid (s.storeReport plate air).tooHot (s.storeReport plate air).cooled
  rw [← State.judgeReport_interlock] at hsecured hcommand
  have hunit : (s.storeReport plate air).judgeReport.judgePlateBelow.interlock = _ := State.judgePlateBelow_interlock _
  have hclaim : ∀ j, (s.storeReport plate air).judgeReport.judgePlateBelow.claim j = s.claim j :=
    State.claim_congr ((State.judgePlateBelow_claims _).trans hstands.claims)
  have hfit : (s.storeReport plate air).judgeReport.judgePlateBelow.chamberOk = true := by
    rw [State.chamberOk_congr hunit]
    unfold State.chamberOk
    rw [hsecured, hlatch]
    exact hok
  have hheater := State.heaterOn_judgeHeater_of_only (x := (s.storeReport plate air).judgeReport.judgePlateBelow)
    (by rw [hclaim]; exact hi) (fun j hj => honly j (by rwa [hclaim] at hj)) hfit
  refine heaterJudged_of_regulate ?_
  rw [State.heaterOn_conclude_of_engaged (u := s.reported plate air)
    (i := i) ((congrArg (Claim.grantedOn · .heater) (hclaim i)).trans hi) hfit
    ((congrArg Interlock.latchCommand hunit).trans (hcommand.trans he)) s]
  refine hheater.trans ?_
  rw [hclaim, State.sensors_judgePlateBelow, State.judgePlateBelow_drives, State.judgeReport_sensors,
    State.judgeReport_drives]
  rfl

/-! ## The fan (R81) -/

/-- The duty of the FAN holder is that of each claim GRANTED on the fan, and 0 with none (R81). -/
theorem State.fanHolderDuty_eq {s : State} {duty : Nat} (hho : s.arbiter.handover = none)
    (hholder : ∀ i, (s.claim i).grantedOn .fan = true → duty = (s.claim i).active.settingA.toNat)
    (hnone : (∀ i, (s.claim i).grantedOn .fan = false) → duty = 0) : s.fanHolderDuty = duty := by
  unfold State.fanHolderDuty
  cases hg : Table.granted s.claims .fan with
  | none => simp only [hho]; exact (hnone (Table.granted_eq_none.1 hg)).symm
  | some i => exact (hholder i (Table.granted_eq_some.1 hg).1).symm

/-- Settles O46: a report that raises nothing reaches the heater as the rules of R79, and the chamber law gives the fan. -/
theorem heaterAndFanFollowTheirHolders : Obligations.HeaterAndFanFollowTheirHolders := by
  refine ⟨fun plate air s i hp ha hplate hair hi honly hs hh he => ⟨_, exec_thermistorReport plate air s, ?_⟩,
    fun s duty hlawful hho hholder hnone => ?_⟩
  · obtain ⟨-, hband⟩ := State.heaterJudged_report (State.not_raises_storeReport hp ha hplate hair) hi honly
      ((State.chamberOk_iff s).2 ⟨hs, hh⟩) he
    have hspan := s.plate_storeReport (plate := plate) air (by omega)
    rw [hspan] at hband
    exact hband (by simp [hp])
  · obtain ⟨-, -, -, -, -, hfan⟩ := hlawful
    have hduty := State.fanHolderDuty_eq hho hholder hnone
    unfold State.fanDutyWanted at hfan
    rw [hduty] at hfan
    refine ⟨fun hh hb => hfan.trans (if_pos (by simp [hh, hb])), fun hcool => ?_⟩
    have hnot : ¬(s.interlock.haltLatch && !s.sensors.plateBelowOpen) = true := by
      rcases hcool with h | h <;> simp [h]
    rw [if_neg hnot] at hfan
    exact ⟨fun hc => hfan.trans (if_pos hc), fun hc => hfan.trans (if_neg (by rw [hc]; exact nofun))⟩

end Sys2Proof.Machine
end

section
/-! The port law and the ranges of the tuning values, of the sensors and of the link (R70, R148, R149, R158, R160, R169),
operation by operation. -/

namespace Sys2Proof.Machine

/-! ## What an event keeps -/

/-- From the first state to the second the port law is kept, and so are the ranges of the tuning values, of the sensors and
of the link. -/
structure State.RangesKept (s t : State) : Prop where
  ports : s.PortsLawful → t.PortsLawful
  tuning : s.TuningLawful → t.TuningLawful
  sensors : s.sensors.Lawful → t.sensors.Lawful
  link : s.link.Lawful → t.link.Lawful

theorem State.RangesKept.refl (s : State) : s.RangesKept s := ⟨id, id, id, id⟩

theorem State.RangesKept.trans {s t u : State} (h : s.RangesKept t) (k : t.RangesKept u) : s.RangesKept u :=
  ⟨k.ports ∘ h.ports, k.tuning ∘ h.tuning, k.sensors ∘ h.sensors, k.link ∘ h.link⟩

theorem State.tuningLawful_congr {s t : State} (ht : t.tuning = s.tuning)
    (hw : t.arbiter.budgetWrites = s.arbiter.budgetWrites) (h : s.TuningLawful) : t.TuningLawful := by
  unfold State.TuningLawful
  rw [ht, hw]
  exact h

theorem Link.lawful_congr {l m : Link} (hr : m.onesRun = l.onesRun) (hb : m.sampled = l.sampled) (h : l.Lawful) :
    m.Lawful := by
  unfold Link.Lawful
  rw [hr, hb]
  exact h

/-- What the four laws look at stands. -/
theorem State.RangesKept.of_eq {s t : State} (hp : t.ports = s.ports) (ht : t.tuning = s.tuning)
    (hw : t.arbiter.budgetWrites = s.arbiter.budgetWrites) (hs : t.sensors = s.sensors)
    (hr : t.link.onesRun = s.link.onesRun) (hb : t.link.sampled = s.link.sampled) : s.RangesKept t :=
  ⟨State.portsLawful_congr hp, State.tuningLawful_congr ht hw, fun h => hs ▸ h, Link.lawful_congr hr hb⟩

theorem State.rangesKept_ite {c : Prop} [Decidable c] {s t u : State} (ht : s.RangesKept t) (hu : s.RangesKept u) :
    s.RangesKept (if c then t else u) := by
  split
  · exact ht
  · exact hu

theorem State.rangesKept_foldl {α : Type} {f : State → α → State} (h : ∀ (u : State) a, u.RangesKept (f u a))
    (l : List α) (s : State) : s.RangesKept (l.foldl f s) :=
  foldl_invariant s.RangesKept f (fun u a hu => hu.trans (h u a)) l s (.refl s)

/-! ## The ports (R145, R147 to R151, R158) -/

/-- The line follows a change of the port, so the law's other parts are what the change has to keep (R158). -/
theorem State.rangesKept_updPort {s : State} {p : Port} {f : PortState → PortState}
    (h : (s.port p).Lawful → (f (s.port p)).refresh.Lawful) : s.RangesKept (s.updPort p f) := by
  refine ⟨fun hs q => ?_, id, id, id⟩
  rw [State.port_updPort]
  split
  · exact h (hs p)
  · exact hs q

theorem PortState.lawful_postNotice {q : PortState} (h : q.Lawful) (n : Source) : (q.postNotice n).refresh.Lawful := by
  obtain ⟨-, hconsumed, hdata, hcode, hclass, hstarted⟩ := h
  exact ⟨rfl, hconsumed, hdata, hcode, hclass, hstarted⟩

/-- A port whose request is complete is lawful, whatever it was before (R149). -/
theorem PortState.lawful_answer (q : PortState) (st : Status) (data : List Byte) : (q.answer st data).refresh.Lawful :=
  ⟨rfl, rfl, by simp [PortState.refresh, PortState.answer, fourteen, zeroData],
    (by decide : (0 : Byte) ∈ requestCodes), fun _ => rfl, fun _ => rfl⟩

theorem PortState.lawful_portReset (q : PortState) : q.portReset.refresh.Lawful :=
  ⟨rfl, rfl, rfl, (by decide : (0 : Byte) ∈ requestCodes), fun _ => rfl, fun _ => rfl⟩

theorem PortState.lawful_startTransaction {q : PortState} (h : q.Lawful) : q.startTransaction.refresh.Lawful := by
  obtain ⟨-, hconsumed, hdata, hcode, hclass, -⟩ := h
  exact ⟨rfl, hconsumed, hdata, hcode, hclass, fun hs => Option.isNone_iff_eq_none.1 hs⟩

theorem PortState.startedIdle_endTransaction (clocks : Nat) (q : PortState) :
    (q.endTransaction clocks).startedIdle = false := by
  unfold PortState.endTransaction
  split
  · rfl
  next h => unfold PortState.startedIdle; rw [h]

theorem PortState.lawful_endTransaction {q : PortState} (h : q.Lawful) (clocks : Nat) :
    (q.endTransaction clocks).refresh.Lawful := by
  obtain ⟨-, hconsumed, hdata, hcode, hclass, hstarted⟩ := h
  unfold PortState.endTransaction
  split
  · exact ⟨rfl, hconsumed, hdata, hcode, hclass, nofun⟩
  · exact ⟨rfl, hconsumed, hdata, hcode, hclass, hstarted⟩

/-- A request in flight is judged at once: what stays in flight carries a code that the port may ask (R148). -/
theorem PortState.lawful_judgeRequest {q : PortState} (hconsumed : q.consumed = q.flight.isSome)
    (hdata : q.reply.data.length = 14) (hstarted : q.startedIdle = false) : q.judgeRequest.refresh.Lawful := by
  unfold PortState.judgeRequest
  split
  · exact q.lawful_answer _ _
  next hdisabled =>
    split
    · exact q.lawful_answer _ _
    next hcode =>
      refine ⟨rfl, hconsumed, hdata, not_not.1 hcode, fun hcls => ?_, fun hs => ?_⟩
      · by_contra hne
        exact hdisabled ⟨hcls, hne⟩
      · exact absurd (hstarted.symm.trans hs) Bool.false_ne_true

theorem PortState.lawful_takeTransaction {q : PortState} (h : q.Lawful) (x : ClockedBytes) :
    (q.takeTransaction x).refresh.Lawful := by
  obtain ⟨-, -, hdata, -, -, -⟩ := q.lawful_endTransaction h (clocksOf x)
  exact PortState.lawful_judgeRequest rfl hdata (q.startedIdle_endTransaction (clocksOf x))

theorem State.rangesKept_post (s : State) (n : Source) (p : Port) : s.RangesKept (s.post n p) :=
  State.rangesKept_updPort fun h => PortState.lawful_postNotice h n

theorem State.rangesKept_postAll (s : State) (n : Source) : s.RangesKept (s.postAll n) :=
  ((s.rangesKept_post n 0).trans (State.rangesKept_post _ n 1)).trans (State.rangesKept_post _ n 2)

theorem State.rangesKept_postOwner (s : State) (n : Source) (o : Option Port) : s.RangesKept (s.postOwner n o) := by
  cases o with
  | none => exact .refl s
  | some p => exact s.rangesKept_post n p

theorem State.rangesKept_answer (s : State) (p : Port) (st : Status) (data : List Byte) :
    s.RangesKept (s.answer p st data) := State.rangesKept_updPort fun _ => PortState.lawful_answer _ st data

/-! ## The claim table and the outputs -/

theorem State.rangesKept_reportPass (s : State) : s.RangesKept s.reportPass := by
  unfold State.reportPass
  split <;> exact .of_eq rfl rfl rfl rfl rfl rfl

theorem State.rangesKept_setClaim (s : State) (i : ClaimIdx) (c : Claim) : s.RangesKept (s.setClaim i c) :=
  .of_eq rfl rfl rfl rfl rfl rfl

theorem State.rangesKept_touchClaims (s : State) (old : Table) : s.RangesKept (s.touchClaims old) :=
  .of_eq rfl rfl rfl rfl rfl rfl

/-- The unit, the drives and the rotor monitor are not what the four laws look at. -/
theorem State.rangesKept_chamber (s : State) (u : Interlock) (d : Drives) (r : Rotor) :
    s.RangesKept { s with interlock := u, drives := d, rotor := r } := .of_eq rfl rfl rfl rfl rfl rfl

theorem State.rangesKept_enterGranted (s : State) (i : ClaimIdx) : s.RangesKept (s.enterGranted i) := by
  have hposted := (s.rangesKept_setClaim i
    { s.claim i with state := .granted, grantStamp := some s.sensors.clock, yielded := false }).trans
    (State.rangesKept_postOwner _ .granted (s.claim i).owner)
  unfold State.enterGranted
  simp only
  split
  · exact hposted.trans (State.rangesKept_chamber _ _ _ _)
  · exact hposted.trans (State.rangesKept_chamber _ _ _ _)
  all_goals exact hposted

theorem State.rangesKept_resumeAll (s : State) : s.RangesKept s.resumeAll :=
  State.rangesKept_foldl (fun u i => State.rangesKept_ite (u.rangesKept_enterGranted i) (.refl u)) all16 s

theorem State.rangesKept_setLatchCommand (s : State) (k : LatchCommand) : s.RangesKept (s.setLatchCommand k) :=
  State.rangesKept_ite (c := s.interlock.latchCommand = k) (.refl s) (s.rangesKept_chamber _ _ _)

theorem State.rangesKept_followLatch (s : State) : s.RangesKept s.followLatch := by
  by_cases h : s.ResumesHeld
  · rw [State.followLatch_of_resumes h]
    exact (s.rangesKept_setLatchCommand .engage).trans (State.rangesKept_resumeAll _)
  · rw [State.followLatch_of_not_resumes h]
    exact s.rangesKept_setLatchCommand _

theorem State.rangesKept_settleOutputs (s : State) : s.RangesKept s.settleOutputs := by
  have hrotor : ∀ u : State, u.RangesKept u.followRotor := fun u =>
    State.rangesKept_ite (.refl u) (u.rangesKept_chamber _ _ _)
  have hheater : ∀ u : State, u.RangesKept u.followHeater := fun u =>
    State.rangesKept_ite (.refl u) (u.rangesKept_chamber _ _ _)
  exact ((s.rangesKept_followLatch.trans (hrotor _)).trans (hheater _)).trans (State.rangesKept_chamber _ _ _ _)

/-- The end of an event. -/
theorem State.RangesKept.conclude {s u : State} (h : s.RangesKept u) (old : State) : s.RangesKept (u.conclude old) :=
  (h.trans u.rangesKept_settleOutputs).trans (State.rangesKept_touchClaims _ old.claims)

theorem State.rangesKept_chainStep (s : State) (o : Option Port) (fo : Option ClaimIdx) : s.RangesKept (s.chainStep o fo) := by
  unfold State.chainStep
  split
  · exact .refl s
  · exact State.rangesKept_ite (s.rangesKept_setClaim _ _) (s.rangesKept_postOwner _ _)

/-- The end procedure (R19). -/
theorem State.rangesKept_endClaim (s : State) (i : ClaimIdx) (why : ClaimOutcome) : s.RangesKept (s.endClaim i why) := by
  have hended := s.rangesKept_setClaim i { s.claim i with state := .ended, outcome := why }
  have hchained : s.RangesKept _ := State.rangesKept_ite (c := why = .done)
    (hended.trans (State.rangesKept_chainStep _ (s.claim i).owner (s.claim i).active.followOn)) hended
  have hfreed : s.RangesKept _ := State.rangesKept_ite (c := (s.claim i).active.oneShot = true)
    (hchained.trans (State.rangesKept_setClaim _ i (.free (s.claim i).arming))) hchained
  exact hfreed.trans (State.rangesKept_postOwner _ .ended (s.claim i).owner)

theorem State.rangesKept_endAndReport (s : State) (i : ClaimIdx) (why : ClaimOutcome) :
    s.RangesKept (s.endAndReport i why) := (s.rangesKept_endClaim i why).trans (State.rangesKept_reportPass _)

theorem State.rangesKept_holdOne (s : State) (i : ClaimIdx) : s.RangesKept (s.holdOne i) := by
  have hheld := (s.rangesKept_setClaim i { s.claim i with state := .held }).trans
    (State.rangesKept_postOwner _ .interrupted (s.claim i).owner)
  exact State.rangesKept_ite (State.rangesKept_ite (s.rangesKept_endAndReport i .interrupted)
    (State.rangesKept_ite (hheld.trans (State.rangesKept_reportPass _)) hheld)) (.refl s)

theorem State.rangesKept_holdAll (s : State) : s.RangesKept s.holdAll :=
  State.rangesKept_foldl State.rangesKept_holdOne all16 s

/-! ## Trips and the secured condition (R50, R51, R56, R63) -/

theorem State.rangesKept_jamEnd (s : State) : s.RangesKept s.jamEnd := by
  unfold State.jamEnd
  split
  · exact s.rangesKept_endAndReport _ _
  · exact .refl s

theorem State.rangesKept_tripEvent (s : State) (c : Cause) : s.RangesKept (s.tripEvent c) := by
  have hstarts : s.RangesKept (s.tripStarts c) := by
    unfold State.tripStarts
    exact State.rangesKept_ite ((s.rangesKept_chamber _ _ _).trans (State.rangesKept_jamEnd _))
      (s.rangesKept_chamber _ _ _)
  rw [State.tripEvent_eq]
  exact (hstarts.trans (State.rangesKept_holdAll _)).trans (State.rangesKept_postAll _ _)

theorem State.rangesKept_raise (s : State) (c : Cause) : s.RangesKept (s.raise c) :=
  State.rangesKept_ite (s.rangesKept_tripEvent c)
    (State.rangesKept_ite (.refl s) ((s.rangesKept_chamber _ _ _).trans (State.rangesKept_tripEvent (s.activate c) c)))

theorem State.rangesKept_deactivate (s : State) (c : Cause) : s.RangesKept (s.deactivate c) := s.rangesKept_chamber _ _ _

/-- What the batch unit is handed, or takes, is not what the four laws look at. -/
theorem State.rangesKept_batch (s : State) (b : BatchUnit) : s.RangesKept { s with batch := b } :=
  .of_eq rfl rfl rfl rfl rfl rfl

theorem State.rangesKept_resumeIfEngaged (s : State) : s.RangesKept s.resumeIfEngaged :=
  State.rangesKept_ite s.rangesKept_resumeAll (.refl s)

theorem State.rangesKept_deriveSecured (s : State) : s.RangesKept s.deriveSecured := by
  have hgained : s.RangesKept s.securedGained := by
    rw [show s.securedGained = s.gained s.interlock from s.securedGained_eq s.interlock]
    exact (((s.rangesKept_chamber _ _ _).trans (State.rangesKept_resumeIfEngaged _)).trans
      (State.rangesKept_reportPass _)).trans (State.rangesKept_batch _ _)
  have hlost : s.RangesKept s.securedLost :=
    ((s.rangesKept_chamber _ _ _).trans (State.rangesKept_holdAll _)).trans (State.rangesKept_batch _ _)
  exact State.rangesKept_ite (.refl s) (State.rangesKept_ite hgained hlost)

theorem State.rangesKept_judgeForced (s : State) (opened : Bool) : s.RangesKept (s.judgeForced opened) :=
  State.rangesKept_ite (s.rangesKept_raise _) (.refl s)

theorem State.rangesKept_clearHalt (s : State) : s.RangesKept s.clearHalt := by
  rw [State.clearHalt_eq]
  exact (((s.rangesKept_chamber _ _ _).trans (State.rangesKept_postAll _ .haltCleared)).trans
    (State.rangesKept_resumeIfEngaged _)).trans (State.rangesKept_reportPass _)

/-! ## The batch unit (R109 to R112, R123 to R140) -/

theorem State.rangesKept_touchBatch (s : State) (k : Nat) : s.RangesKept (s.touchBatch k) := by
  unfold State.touchBatch
  split
  · exact .of_eq rfl rfl rfl rfl rfl rfl
  · exact .refl s

theorem State.rangesKept_evaluate (s : State) (which : Nat → Bool) : s.RangesKept (s.evaluate which) := by
  have hjudged : s.RangesKept (s.setRecords (s.judgedRecords which)) := s.rangesKept_batch _
  unfold State.evaluate
  simp only
  cases lastChanged s.batch.records (s.judgedRecords which) with
  | none => exact State.rangesKept_ite (hjudged.trans (State.rangesKept_postAll _ _)) hjudged
  | some k =>
    have htouched := hjudged.trans (State.rangesKept_touchBatch _ k)
    exact State.rangesKept_ite (htouched.trans (State.rangesKept_postAll _ _)) htouched

theorem State.rangesKept_judgeFinished (s : State) : s.RangesKept s.judgeFinished :=
  State.rangesKept_ite ((s.rangesKept_batch _).trans (State.rangesKept_postAll _ _)) (s.rangesKept_batch _)

theorem State.rangesKept_requirementsChanged (s : State) : s.RangesKept s.requirementsChanged :=
  (s.rangesKept_evaluate _).trans (State.rangesKept_judgeFinished _)

theorem State.rangesKept_takeSample (s : State) (h : HumidityReading) : s.RangesKept (s.takeSample h) := by
  have hmix : ∀ u : State, u.RangesKept u.judgeMix := fun u =>
    State.rangesKept_ite ((u.rangesKept_batch _).trans (State.rangesKept_postAll _ _)) (.refl u)
  have hdosed : s.RangesKept (s.creditDose.evaluateAll.judgeDryRun h) :=
    ((s.rangesKept_batch _).trans (State.rangesKept_evaluate s.creditDose _)).trans (State.rangesKept_batch _ _)
  exact (hdosed.trans (hmix _)).trans (State.rangesKept_judgeFinished _)

theorem State.rangesKept_takeRevolution (s : State) : s.RangesKept s.takeRevolution :=
  (s.rangesKept_batch _).trans (State.rangesKept_requirementsChanged _)

theorem State.rangesKept_breakReservations (s : State) (hit : Port → Word → Bool) :
    s.RangesKept (s.breakReservations hit) := by
  refine State.rangesKept_foldl (fun u p => ?_) allPorts s
  unfold State.breakOne
  split
  · exact State.rangesKept_ite ((u.rangesKept_batch _).trans (State.rangesKept_post _ _ p)) (.refl u)
  all_goals exact .refl u

theorem State.rangesKept_rewet (s : State) (k : Nat) : s.RangesKept (s.rewet k) :=
  ((s.rangesKept_batch _).trans (State.rangesKept_evaluate _ _)).trans (State.rangesKept_judgeFinished _)

theorem State.rangesKept_openRecord (s : State) (mass : Option Nat) : s.RangesKept (s.openRecord mass) :=
  (((s.rangesKept_batch _).trans (State.rangesKept_touchBatch _ _)).trans (State.rangesKept_postAll _ _)).trans
    (State.rangesKept_rewet _ _)

theorem State.rangesKept_resetYoungest (s : State) (f : Option Nat → Option Nat) : s.RangesKept (s.resetYoungest f) := by
  unfold State.resetYoungest
  simp only
  split
  · exact .refl s
  next r _ =>
    have hset : s.RangesKept (s.setRecords (s.batch.records.set (s.batch.records.length - 1) (r.setBack (f r.mass)))) :=
      s.rangesKept_batch _
    have htouched : s.RangesKept _ := State.rangesKept_ite (c := r.state = .fresh) hset
      (hset.trans (State.rangesKept_touchBatch _ (s.batch.records.length - 1)))
    exact ((htouched.trans (State.rangesKept_breakReservations _ _)).trans (State.rangesKept_postAll _ _)).trans
      (State.rangesKept_rewet _ _)

/-- A closure judged (R108, R112). -/
theorem State.rangesKept_judgeClosure (s : State) (after : MassSample) : s.RangesKept (s.judgeClosure after) :=
  State.rangesKept_ite (State.rangesKept_ite (s.rangesKept_openRecord _) (s.rangesKept_resetYoungest _))
    (State.rangesKept_ite (.refl s) (State.rangesKept_ite (s.rangesKept_openRecord _) (s.rangesKept_resetYoungest _)))

theorem State.rangesKept_retire (s : State) : s.RangesKept s.retire :=
  State.rangesKept_ite (.refl s)
    (((s.rangesKept_batch _).trans (State.rangesKept_breakReservations s.retireRecords _)).trans
      (State.rangesKept_postAll _ _))

theorem State.rangesKept_annotate (s : State) (k : Nat) (w : AnnotationWrite) (hit : Port → Word → Bool) :
    s.RangesKept (s.annotate k w hit) :=
  ((((s.rangesKept_batch _).trans (State.rangesKept_touchBatch _ _)).trans (State.rangesKept_breakReservations _ _)).trans
    (State.rangesKept_evaluate _ _)).trans (State.rangesKept_judgeFinished _)

/-! ## The rotor monitor (R85, R88, R93 to R95) -/

theorem State.rangesKept_takeAccepted (s : State) : s.RangesKept s.takeAccepted :=
  State.rangesKept_ite ((s.rangesKept_chamber _ _ _).trans (State.rangesKept_postAll _ _)) (s.rangesKept_chamber _ _ _)

theorem State.rangesKept_takeEarly (s : State) : s.RangesKept s.takeEarly :=
  State.rangesKept_ite (((s.rangesKept_chamber _ _ _).trans (State.rangesKept_raise _ _)).conclude s)
    (s.rangesKept_chamber _ _ _)

theorem State.rangesKept_startJog (s : State) : s.RangesKept s.startJog :=
  (s.rangesKept_chamber _ _ _).trans (State.rangesKept_postOwner _ _ _)

theorem State.rangesKept_probeFails (s : State) : s.RangesKept s.probeFails :=
  State.rangesKept_ite ((s.rangesKept_chamber _ _ _).trans (State.rangesKept_startJog _))
    (((s.rangesKept_chamber _ _ _).trans (State.rangesKept_raise _ _)).conclude s)

theorem State.rangesKept_stall (s : State) : s.RangesKept s.stall :=
  State.rangesKept_ite s.rangesKept_startJog s.rangesKept_probeFails

end Sys2Proof.Machine
end

section
/-! Every command keeps the port law and the ranges of the tuning values, of the sensors and of the link (R70, R148, R149,
R158, R160, R169). -/

namespace Sys2Proof.Machine

/-! ## The tuning table and the budget writes (R169, R171, R172) -/

/-- A value in its range written into a lawful table leaves it lawful. -/
theorem State.tuningLawful_set {s t : State} {k : Fin 13} {v : Nat} (hv : tuningInRange k v = true)
    (ht : t.tuning = s.tuning.set k v) (hw : t.arbiter.budgetWrites = s.arbiter.budgetWrites) (h : s.TuningLawful) :
    t.TuningLawful := by
  obtain ⟨hvalues, hwrites⟩ := h
  refine ⟨fun j => ?_, hw ▸ hwrites⟩
  have hj : t.tuning.get j = if k = j then v else s.tuning.get j := by
    rw [ht]
    show (s.tuning.set (k : Nat) v k.isLt)[(j : Nat)] = if k = j then v else s.tuning[(j : Nat)]
    rw [Vector.getElem_set]
    simp only [Fin.ext_iff]
  rw [hj]
  split
  next hkj => exact hkj ▸ hv
  next => exact hvalues j

theorem State.rangesKept_setTuning (s : State) {k : Fin 13} {v : Nat} (hv : tuningInRange k v = true) :
    s.RangesKept (s.setTuning k v) := ⟨id, State.tuningLawful_set hv rfl rfl, id, id⟩

theorem State.rangesKept_writeTuning (s : State) {k : Fin 13} {v : Nat} (hv : tuningInRange k v = true) :
    s.RangesKept (s.writeTuning k v) := by
  have hset := s.rangesKept_setTuning hv
  exact State.rangesKept_ite (hset.trans (State.rangesKept_reportPass _))
    (State.rangesKept_ite (hset.trans (State.rangesKept_requirementsChanged _))
      (State.rangesKept_ite (hset.trans (State.rangesKept_chamber _ _ _ _)) hset))

/-- A budget applied in an event, in its range if the part was lawful before the event (R172). -/
theorem State.RangesKept.applyBudget {s u : State} (h : s.RangesKept u) {v : Nat}
    (hv : s.TuningLawful → tuningInRange 0 v = true) : s.RangesKept (u.applyBudget v) := by
  refine .trans (t := { u with tuning := u.tuning.set 0 v }) ?_ (State.rangesKept_reportPass _)
  exact ⟨h.ports, fun hs => State.tuningLawful_set (hv hs) rfl rfl (h.tuning hs), h.sensors, h.link⟩

theorem State.rangesKept_takeTuningWrite (s : State) (p : Port) (req : List Byte) :
    s.RangesKept (s.takeTuningWrite p req) := by
  have hrefused := fun st => s.rangesKept_answer p st []
  unfold State.takeTuningWrite
  refine State.rangesKept_ite (.refl s) (State.rangesKept_ite (hrefused _) ?_)
  split
  · exact hrefused _
  next k _ =>
    simp only
    split
    · exact hrefused _
    next hv =>
      have hrange : tuningInRange k (halfAt req 2).toNat = true := by simpa using hv
      split
      next hk =>
        refine ⟨id, fun ⟨hvalues, hwrites⟩ => ⟨hvalues, fun w hw => ?_⟩, id, id⟩
        rcases List.mem_append.1 hw with hold | hnew
        · exact hwrites w hold
        · rw [List.mem_singleton.1 hnew]
          exact hk ▸ hrange
      next => exact (s.rangesKept_writeTuning hrange).trans (State.rangesKept_answer _ _ _ _)

/-- The oldest budget write lies in its range, and no write joins those that wait (R171, R172). -/
theorem State.rangesKept_takeBudgetWrite (s : State) : s.RangesKept s.takeBudgetWrite := by
  unfold State.takeBudgetWrite
  split
  next p v rest hwrites =>
    have hdropped : s.RangesKept { s with arbiter := { s.arbiter with budgetWrites := rest } } :=
      ⟨id, fun ⟨hvalues, hin⟩ => ⟨hvalues, fun w hw => hin w (hwrites ▸ List.mem_cons_of_mem _ hw)⟩, id, id⟩
    have happlied := hdropped.applyBudget (v := v) fun ⟨_, hin⟩ => hin (p, v) (hwrites ▸ List.mem_cons_self)
    exact State.rangesKept_ite (happlied.trans (State.rangesKept_answer _ _ _ _))
      (hdropped.trans (State.rangesKept_answer _ _ _ _))
  next => exact .refl s

/-! ## The requests of a pass (R14, R17, R30) -/

/-- What a pass and its requests write of the arbiter leaves the budget writes that wait. -/
theorem State.rangesKept_arbiter {s : State} {a : Arbiter} (h : a.budgetWrites = s.arbiter.budgetWrites) :
    s.RangesKept { s with arbiter := a } := .of_eq rfl rfl h rfl rfl rfl

theorem State.rangesKept_takeGrant (s : State) (i : ClaimIdx) (n : Word) : s.RangesKept (s.takeGrant i n) := by
  have hdropped : s.RangesKept { s.dropRequest with arbiter := { s.dropRequest.arbiter with handover := none } } :=
    State.rangesKept_arbiter rfl
  exact (State.rangesKept_ite (hdropped.trans (State.rangesKept_enterGranted _ i)) hdropped).conclude s

theorem State.rangesKept_applyYield (s : State) (i : ClaimIdx) : s.RangesKept (s.applyYield i) :=
  State.rangesKept_ite (s.rangesKept_endClaim i .preempted)
    ((s.rangesKept_setClaim _ _).trans (State.rangesKept_postOwner _ .interrupted (s.claim i).owner))

theorem State.rangesKept_takeYield (s : State) (i : ClaimIdx) (d : Bool) : s.RangesKept (s.takeYield i d) := by
  have hdropped : s.RangesKept s.dropRequest := State.rangesKept_arbiter rfl
  have hbegun : s.RangesKept (s.dropRequest.beginHandover (s.dropRequest.claim i)) := .of_eq rfl rfl rfl rfl rfl rfl
  exact (State.rangesKept_ite ((State.rangesKept_ite hbegun hdropped).trans (State.rangesKept_applyYield _ i))
    hdropped).conclude s

theorem State.rangesKept_takeRequest (s : State) : s.RangesKept s.takeRequest := by
  unfold State.takeRequest
  split
  · exact s.rangesKept_takeGrant _ _
  · exact s.rangesKept_takeYield _ _
  · exact .refl s

theorem State.rangesKept_takeRequests (n : Nat) (s : State) : s.RangesKept (State.takeRequests n s) := by
  induction n generalizing s with
  | zero => exact .refl s
  | succ n ih => exact s.rangesKept_takeRequest.trans (ih s.takeRequest)

theorem State.rangesKept_takeBudgetWrites (n : Nat) (s : State) : s.RangesKept (State.takeBudgetWrites n s) := by
  induction n generalizing s with
  | zero => exact .refl s
  | succ n ih => exact s.rangesKept_takeBudgetWrite.trans (ih s.takeBudgetWrite)

theorem State.rangesKept_settleArbiter (s : State) : s.RangesKept s.settleArbiter :=
  (s.rangesKept_takeRequests _).trans (State.rangesKept_takeBudgetWrites _ _)

theorem Arbiter.budgetWrites_answered (a : Arbiter) (together : Bool) :
    (a.answered together).budgetWrites = a.budgetWrites := by
  unfold Arbiter.answered
  (repeat' split) <;> rfl

/-! ## The ports' requests -/

theorem State.rangesKept_takeStatus (s : State) (p : Port) (req : List Byte) : s.RangesKept (s.takeStatus p req) :=
  State.rangesKept_ite (s.rangesKept_answer _ _ _)
    (State.rangesKept_ite (s.rangesKept_answer _ _ _) (s.rangesKept_answer _ _ _))

theorem State.rangesKept_takeNoticeLevel (s : State) (p : Port) (req : List Byte) :
    s.RangesKept (s.takeNoticeLevel p req) := by
  unfold State.takeNoticeLevel
  split
  · exact State.rangesKept_updPort fun _ => PortState.lawful_answer _ _ _
  · exact s.rangesKept_answer _ _ _

theorem State.rangesKept_takeAccessRead (s : State) (p : Port) (req : List Byte) :
    s.RangesKept (s.takeAccessRead p req) := by
  unfold State.takeAccessRead
  split <;> exact s.rangesKept_answer _ _ _

/-- An access record is not what the port law looks at. -/
theorem State.rangesKept_writeAccess (s : State) (m : Port) (acc : Access) : s.RangesKept (s.writeAccess m acc) :=
  State.rangesKept_updPort fun ⟨_, hconsumed, hdata, hcode, hclass, hstarted⟩ =>
    ⟨rfl, hconsumed, hdata, hcode, hclass, hstarted⟩

theorem State.rangesKept_takeAccessWrite (s : State) (p : Port) (req : List Byte) :
    s.RangesKept (s.takeAccessWrite p req) := by
  unfold State.takeAccessWrite
  refine State.rangesKept_ite (s.rangesKept_answer _ _ _) ?_
  split
  · exact (s.rangesKept_writeAccess _ _).trans (State.rangesKept_answer _ _ _ _)
  · exact s.rangesKept_answer _ _ _

theorem State.rangesKept_takePortReset (s : State) (p : Port) : s.RangesKept (s.takePortReset p) := by
  have hentry : ∀ (u : State) (i : ClaimIdx), u.RangesKept (State.resetEntry p u i) := fun u i => by
    have hfreed := u.rangesKept_setClaim i (.free (u.claim i).arming)
    exact State.rangesKept_ite (State.rangesKept_ite (hfreed.trans (State.rangesKept_post _ .ended p)) hfreed) (.refl u)
  have hentries : s.RangesKept (s.resetEntries p) := State.rangesKept_foldl hentry all16 s
  have hport : s.RangesKept (((s.resetEntries p).setReservation p .none).updPort p PortState.portReset) :=
    (hentries.trans (State.rangesKept_batch _ _)).trans
      (State.rangesKept_updPort fun _ => PortState.lawful_portReset _)
  exact (hport.trans (State.rangesKept_reportPass _)).conclude s

theorem State.rangesKept_takeRotorRead (s : State) (p : Port) (req : List Byte) : s.RangesKept (s.takeRotorRead p req) :=
  State.rangesKept_ite (s.rangesKept_answer _ _ _) (s.rangesKept_answer _ _ _)

theorem State.rangesKept_takeTuningRead (s : State) (p : Port) (req : List Byte) :
    s.RangesKept (s.takeTuningRead p req) := by
  unfold State.takeTuningRead
  split <;> exact s.rangesKept_answer _ _ _

theorem State.rangesKept_takeHaltClear (s : State) (p : Port) : s.RangesKept (s.takeHaltClear p) :=
  State.rangesKept_ite (s.rangesKept_answer _ _ _) (State.rangesKept_ite (s.rangesKept_answer _ _ _)
    (State.rangesKept_ite (s.rangesKept_answer _ _ _)
      ((s.rangesKept_clearHalt.conclude s).trans (State.rangesKept_answer _ _ _ _))))

/-! ### The claim table's requests -/

theorem State.rangesKept_takeDraft (s : State) (p : Port) (req : List Byte) : s.RangesKept (s.takeDraft p req) := by
  unfold State.takeDraft
  split
  · exact s.rangesKept_answer _ _ _
  · split
    · exact s.rangesKept_answer _ _ _
    · exact ((s.rangesKept_setClaim _ _).trans (State.rangesKept_touchClaims _ _)).trans
        (State.rangesKept_answer _ _ _ _)

theorem State.rangesKept_takeArm (s : State) (p : Port) (req : List Byte) : s.RangesKept (s.takeArm p req) := by
  unfold State.takeArm
  split
  · exact s.rangesKept_answer _ _ _
  · split
    · exact s.rangesKept_answer _ _ _
    · exact (((s.rangesKept_setClaim _ _).trans (State.rangesKept_reportPass _)).conclude s).trans
        (State.rangesKept_answer _ _ _ _)

theorem State.rangesKept_takeDisarm (s : State) (p : Port) (req : List Byte) : s.RangesKept (s.takeDisarm p req) := by
  have hdisarm : ∀ i, s.RangesKept (s.disarm i) := fun i =>
    State.rangesKept_ite ((s.rangesKept_endAndReport i .withdrawn).conclude s)
      ((s.rangesKept_setClaim _ _).trans (State.rangesKept_touchClaims _ _))
  unfold State.takeDisarm
  split
  · exact s.rangesKept_answer _ _ _
  · exact (hdisarm _).trans (State.rangesKept_answer _ _ _ _)

theorem State.rangesKept_takeAlter (s : State) (p : Port) (req : List Byte) : s.RangesKept (s.takeAlter p req) := by
  have halter : ∀ i x, s.RangesKept (s.alterEntry i x) := fun i x => by
    have hset := s.rangesKept_setClaim i ((s.claim i).alter x)
    exact State.rangesKept_ite (hset.trans (State.rangesKept_reportPass _)) hset
  unfold State.takeAlter
  split
  · exact s.rangesKept_answer _ _ _
  · split
    · exact s.rangesKept_answer _ _ _
    · exact (halter _ _).trans (State.rangesKept_answer _ _ _ _)

theorem State.rangesKept_takeClaimRead (s : State) (p : Port) (req : List Byte) :
    s.RangesKept (s.takeClaimRead p req) := by
  unfold State.takeClaimRead
  split
  · exact s.rangesKept_answer _ _ _
  · split <;> exact s.rangesKept_answer _ _ _

/-! ### The batch unit's requests -/

theorem State.rangesKept_takeBatchRead (s : State) (p : Port) (req : List Byte) :
    s.RangesKept (s.takeBatchRead p req) := by
  unfold State.takeBatchRead
  split
  · exact s.rangesKept_answer _ _ _
  · refine State.rangesKept_ite (s.rangesKept_answer _ _ _) ?_
    split <;> exact s.rangesKept_answer _ _ _

theorem State.rangesKept_takeBatchReserve (s : State) (p : Port) (req : List Byte) :
    s.RangesKept (s.takeBatchReserve p req) := by
  unfold State.takeBatchReserve
  refine State.rangesKept_ite (s.rangesKept_answer _ _ _) (State.rangesKept_ite (s.rangesKept_answer _ _ _) ?_)
  split
  · exact s.rangesKept_answer _ _ _
  · exact (s.rangesKept_batch _).trans (State.rangesKept_answer _ _ _ _)

theorem State.rangesKept_takeBatchCommit (s : State) (p : Port) (req : List Byte) :
    s.RangesKept (s.takeBatchCommit p req) := by
  unfold State.takeBatchCommit
  refine State.rangesKept_ite (s.rangesKept_answer _ _ _) ?_
  split
  · exact s.rangesKept_answer _ _ _
  · split
    · exact s.rangesKept_answer _ _ _
    · split
      · exact s.rangesKept_answer _ _ _
      · exact ((s.rangesKept_batch _).trans (State.rangesKept_annotate (s.setReservation p .none) _ _ _)).trans
          (State.rangesKept_answer _ _ _ _)

theorem State.rangesKept_takeRetiredPeek (s : State) (p : Port) (req : List Byte) :
    s.RangesKept (s.takeRetiredPeek p req) := by
  unfold State.takeRetiredPeek
  refine State.rangesKept_ite (s.rangesKept_answer _ _ _) ?_
  split <;> exact s.rangesKept_answer _ _ _

theorem State.rangesKept_takeRetiredTake (s : State) (p : Port) (req : List Byte) :
    s.RangesKept (s.takeRetiredTake p req) := by
  unfold State.takeRetiredTake
  refine State.rangesKept_ite (s.rangesKept_answer _ _ _) ?_
  split
  · exact s.rangesKept_answer _ _ _
  · exact State.rangesKept_ite (s.rangesKept_answer _ _ _)
      ((s.rangesKept_batch _).trans (State.rangesKept_answer s.dropSummary _ _ _))

/-! ## The sensors (R70, R72 to R76) -/

theorem State.rangesKept_sensors {s : State} {m : Sensors} (h : s.sensors.Lawful → m.Lawful) :
    s.RangesKept { s with sensors := m } := ⟨id, id, h, id⟩

theorem Sensors.lawful_storeHumidity {m : Sensors} (h : m.Lawful) (x : HumidityReading) :
    (m.storeHumidity x).Lawful := by
  obtain ⟨hplate, hair, hhumidity, hmass, hdivider⟩ := h
  cases x with
  | failed => exact ⟨hplate, hair, hhumidity, hmass, hdivider⟩
  | result rh => exact ⟨hplate, hair, Nat.min_le_right _ _, hmass, hdivider⟩

theorem Sensors.lawful_storeLoad {m : Sensors} (h : m.Lawful) (x : LoadReading) : (m.storeLoad x).Lawful := by
  obtain ⟨hplate, hair, hhumidity, hmass, hdivider⟩ := h
  cases x with
  | failed => exact ⟨hplate, hair, hhumidity, hmass, hdivider⟩
  | grams g => exact ⟨hplate, hair, hhumidity, Nat.min_le_right _ _, hdivider⟩

theorem Sensors.lawful_second {m : Sensors} (h : m.Lawful) : m.second.Lawful := by
  obtain ⟨hplate, hair, hhumidity, hmass, hdivider⟩ := h
  unfold Sensors.second
  split
  · exact ⟨hplate, hair, hhumidity, hmass, (by decide : 0 < Config.sampleDivision)⟩
  next hlast => exact ⟨hplate, hair, hhumidity, hmass, lt_of_le_of_ne hdivider hlast⟩

theorem State.rangesKept_judgeReport (s : State) : s.RangesKept s.judgeReport := by
  have hsensor : ∀ u : State, u.RangesKept u.judgeThermalSensor := fun u =>
    State.rangesKept_ite (u.rangesKept_deactivate _) (u.rangesKept_raise _)
  have hoverheat : ∀ u : State, u.RangesKept u.judgeOverheat := fun u =>
    State.rangesKept_ite (.refl u) (State.rangesKept_ite (u.rangesKept_raise _)
      (State.rangesKept_ite (u.rangesKept_deactivate _) (.refl u)))
  exact (hsensor s).trans (hoverheat _)

theorem State.rangesKept_reported (s : State) (plate air : Int) : s.RangesKept (s.reported plate air) := by
  have hstored : s.RangesKept (s.storeReport plate air) := State.rangesKept_sensors
    fun ⟨_, _, hhumidity, hmass, hdivider⟩ =>
      ⟨thermistorConversion_lawful plate, thermistorConversion_lawful air, hhumidity, hmass, hdivider⟩
  have hbelow : ∀ u : State, u.RangesKept u.derivePlateBelow := fun u => State.rangesKept_sensors id
  have hjudged : ∀ u : State, u.RangesKept u.judgePlateBelow := fun u =>
    State.rangesKept_ite ((hbelow u).trans (State.rangesKept_reportPass _)) (hbelow u)
  exact ((hstored.trans (State.rangesKept_judgeReport _)).trans (hjudged _)).trans (State.rangesKept_chamber _ _ _ _)

/-! ## The service link (R160 to R167) -/

/-- A run of ones that the bits of a row do not complete stays below 64 (R167). -/
theorem onesAfter_lt {run last : Nat} {bits : List Bool} (h : run < 64) (hl : onesAfter run bits = some last) :
    last < 64 := by
  induction bits generalizing run with
  | nil => exact Option.some.inj hl ▸ h
  | cons b bits ih =>
    cases b with
    | false => exact ih (by decide) hl
    | true =>
      unfold onesAfter at hl
      split at hl
      · cases hl
      next hne => exact ih (by omega) hl

theorem State.rangesKept_reply (s : State) (answer : Word) (sack : Nat) : s.RangesKept (s.reply answer sack) :=
  .of_eq rfl rfl rfl rfl rfl rfl

theorem State.rangesKept_setPhase (s : State) (x : PokePhase) : s.RangesKept (s.setPhase x) :=
  .of_eq rfl rfl rfl rfl rfl rfl

theorem State.rangesKept_setSnapshot (s : State) (x : Option Snapshot) : s.RangesKept (s.setSnapshot x) :=
  .of_eq rfl rfl rfl rfl rfl rfl

/-- The bits of a row leave fewer than 32 of a frame and a run below 64 (R160, R167). -/
theorem takeFrame_rangesKept {s : State} {bits : List Bool} {kind : FrameKind} {f : Word → State}
    (hf : ∀ frame, s.RangesKept (f frame)) : ∃ t, takeFrame s bits kind f = .next t ∧ s.RangesKept t := by
  unfold takeFrame
  cases hr : onesAfter s.link.onesRun bits with
  | none => exact ⟨s, rfl, .refl s⟩
  | some run =>
    simp only
    split
    next hlen => exact ⟨_, rfl, id, id, id, fun ⟨hrun, _⟩ => ⟨onesAfter_lt hrun hr, hlen⟩⟩
    next =>
      split
      · have hframe := hf (wordOfBits (s.link.sampled ++ bits))
        exact ⟨_, rfl, hframe.ports, hframe.tuning, hframe.sensors,
          fun ⟨hrun, _⟩ => ⟨onesAfter_lt hrun hr, (by decide : 0 < 32)⟩⟩
      · exact ⟨s, rfl, .refl s⟩

theorem State.rangesKept_takePeek (s : State) (table entry w : Nat) : s.RangesKept (s.takePeek table entry w) :=
  State.rangesKept_ite ((s.rangesKept_setSnapshot _).trans (State.rangesKept_reply _ _ _))
    (State.rangesKept_ite (s.rangesKept_reply _ _) (s.rangesKept_reply _ _))

theorem State.rangesKept_takePoke (s : State) (table entry w : Nat) : s.RangesKept (s.takePoke table entry w) :=
  (s.rangesKept_setPhase _).trans (State.rangesKept_reply _ _ _)

theorem State.rangesKept_takeVerify (s : State) : s.RangesKept s.takeVerify := by
  unfold State.takeVerify
  split
  · exact (s.rangesKept_setPhase _).trans (State.rangesKept_reply _ _ _)
  all_goals exact .refl s

/-- A tuning word is written in its range alone (R165, R169). -/
theorem State.rangesKept_pokeTuning (s : State) (k : Fin 13) (value : Word) : s.RangesKept (s.pokeTuning k value).1 := by
  unfold State.pokeTuning
  split
  · exact .refl s
  next v _ =>
    split
    · exact .refl s
    next hv =>
      have hrange : tuningInRange k v.toNat = true := by simpa using hv
      split
      next hk =>
        have hsettled := s.rangesKept_settleArbiter
        unfold State.pokeBudget
        simp only
        split
        · exact hsettled.applyBudget fun _ => hk ▸ hrange
        · exact hsettled
      next => exact s.rangesKept_writeTuning hrange

theorem State.rangesKept_pokeBatch (s : State) (entry w : Nat) (seq : Option Word) (value : Word) :
    s.RangesKept (s.pokeBatch entry w seq value).1 := by
  unfold State.pokeBatch
  split
  · split
    · exact s.rangesKept_annotate _ _ _
    · exact .refl s
  · exact .refl s

theorem State.rangesKept_pokeWrite (s : State) (table entry w : Nat) (seq : Option Word) (value : Word) :
    s.RangesKept (s.pokeWrite table entry w seq value).1 := by
  unfold State.pokeWrite
  split
  · split
    · exact s.rangesKept_pokeTuning _ _
    · exact .refl s
  · split
    · exact s.rangesKept_pokeBatch _ _ _ _
    · exact .refl s

theorem State.rangesKept_takeData (s : State) (value : Word) : s.RangesKept (s.takeData value) := by
  unfold State.takeData
  split
  next table entry w seq _ =>
    have hwritten := s.rangesKept_pokeWrite table entry w seq value
    exact ((State.rangesKept_ite (hwritten.trans (State.rangesKept_setSnapshot _ none)) hwritten).trans
      (State.rangesKept_setPhase _ _)).trans (State.rangesKept_reply _ _ _)
  all_goals exact .refl s

/-! ## All of them -/

/-- A command that changes the state only where its condition holds. -/
theorem ite_rangesKept {c : Prop} [Decidable c] {s t : State} (h : s.RangesKept t) :
    ∃ u, (if c then Host.Outcome.next t else Host.Outcome.next s : Answer) = .next u ∧ s.RangesKept u := by
  split
  · exact ⟨t, rfl, h⟩
  · exact ⟨s, rfl, .refl s⟩

/-- A change of an input, of which only a real change is an event (R48). -/
theorem ite_rangesKept_change {c : Prop} [Decidable c] {s t : State} (h : s.RangesKept t) :
    ∃ u, (if c then Host.Outcome.next s else Host.Outcome.next t : Answer) = .next u ∧ s.RangesKept u := by
  split
  · exact ⟨s, rfl, .refl s⟩
  · exact ⟨t, rfl, h⟩

theorem onRequest_rangesKept {s : State} {p : Port} {code : Byte} {f : List Byte → State}
    (hf : ∀ req, s.RangesKept (f req)) : ∃ t, onRequest s p code f = .next t ∧ s.RangesKept t :=
  onRequest_next (.refl s) hf

theorem State.rangesKept_resetRelease (s : State) (first : FirstSamples) :
    ∃ t, exec (.resetRelease first) s = .next t ∧ s.RangesKept t := by
  obtain ⟨t, ht, ⟨-, -, -, -, -, -, -, hports, htuning, hsensors, hlink⟩, -⟩ := resetReleaseIsLawful first s
  exact ⟨t, ht, fun _ => hports, fun _ => htuning, fun _ => hsensors, fun _ => hlink⟩

/-- Every command keeps the port law and the ranges. -/
theorem exec_rangesKept (s : State) (c : Instr) : ∃ t, exec c s = .next t ∧ s.RangesKept t := by
  have hended : ∀ clocks p, s.RangesKept (s.updPort p (PortState.endTransaction clocks)) := fun clocks _ =>
    State.rangesKept_updPort fun h => PortState.lawful_endTransaction h clocks
  cases c with
  | resetRelease first => exact s.rangesKept_resetRelease first
  | transactionStart p =>
    show ∃ t, execTransactionStart p s = .next t ∧ s.RangesKept t
    unfold execTransactionStart
    split
    · exact ⟨_, rfl, State.rangesKept_updPort PortState.lawful_startTransaction⟩
    · exact ⟨_, rfl, .refl s⟩
  | transactionTaken p x =>
    show ∃ t, execTransactionTaken p x s = .next t ∧ s.RangesKept t
    unfold execTransactionTaken
    split
    · exact ⟨_, rfl, State.rangesKept_updPort fun h => PortState.lawful_takeTransaction h x⟩
    · exact ⟨_, rfl, hended _ p⟩
  | busyTransaction x => exact ite_rangesKept_change (hended _ _)
  | shortTransaction x => exact ite_rangesKept (hended _ _)
  | nop p => exact onRequest_rangesKept fun _ => s.rangesKept_answer _ _ _
  | status p => exact onRequest_rangesKept fun req => s.rangesKept_takeStatus p req
  | noticeRead p => exact onRequest_rangesKept fun _ => s.rangesKept_answer _ _ _
  | noticeClear p =>
    exact onRequest_rangesKept fun _ => State.rangesKept_updPort fun _ => PortState.lawful_answer _ _ _
  | noticeLevel p => exact onRequest_rangesKept fun req => s.rangesKept_takeNoticeLevel p req
  | accessRead p => exact onRequest_rangesKept fun req => s.rangesKept_takeAccessRead p req
  | accessWrite p => exact onRequest_rangesKept fun req => s.rangesKept_takeAccessWrite p req
  | portReset p => exact onRequest_rangesKept fun _ => s.rangesKept_takePortReset p
  | rotorRead p => exact onRequest_rangesKept fun req => s.rangesKept_takeRotorRead p req
  | draft p => exact onRequest_rangesKept fun req => s.rangesKept_takeDraft p req
  | arm p => exact onRequest_rangesKept fun req => s.rangesKept_takeArm p req
  | disarm p => exact onRequest_rangesKept fun req => s.rangesKept_takeDisarm p req
  | alter p => exact onRequest_rangesKept fun req => s.rangesKept_takeAlter p req
  | claimRead p => exact onRequest_rangesKept fun req => s.rangesKept_takeClaimRead p req
  | batchRead p => exact onRequest_rangesKept fun req => s.rangesKept_takeBatchRead p req
  | batchReserve p => exact onRequest_rangesKept fun req => s.rangesKept_takeBatchReserve p req
  | batchCommit p => exact onRequest_rangesKept fun req => s.rangesKept_takeBatchCommit p req
  | retiredPeek p => exact onRequest_rangesKept fun req => s.rangesKept_takeRetiredPeek p req
  | retiredTake p => exact onRequest_rangesKept fun req => s.rangesKept_takeRetiredTake p req
  | haltClear p => exact onRequest_rangesKept fun _ => s.rangesKept_takeHaltClear p
  | tuningRead p => exact onRequest_rangesKept fun req => s.rangesKept_takeTuningRead p req
  | tuningWrite p => exact onRequest_rangesKept fun req => s.rangesKept_takeTuningWrite p req
  | budgetWrite => exact ite_rangesKept_change s.rangesKept_takeBudgetWrite
  | arbitrationPass together =>
    exact ite_rangesKept (State.rangesKept_arbiter (Arbiter.budgetWrites_answered _ together))
  | grant =>
    show ∃ t, execGrant s = .next t ∧ s.RangesKept t
    unfold execGrant
    split
    · exact ⟨_, rfl, s.rangesKept_takeGrant _ _⟩
    all_goals exact ⟨_, rfl, .refl s⟩
  | yield =>
    show ∃ t, execYield s = .next t ∧ s.RangesKept t
    unfold execYield
    split
    · exact ⟨_, rfl, s.rangesKept_takeYield _ _⟩
    all_goals exact ⟨_, rfl, .refl s⟩
  | chamberClockIncrement => exact ⟨_, rfl, id, id, Sensors.lawful_second, id⟩
  | runTimeExpiry i => exact ite_rangesKept ((s.rangesKept_endAndReport i .done).conclude s)
  | deadlineExpiry i => exact ite_rangesKept ((s.rangesKept_endAndReport i .lapsed).conclude s)
  | lidSwitchChange closed =>
    exact ite_rangesKept_change (((((s.rangesKept_chamber _ _ _).trans (State.rangesKept_deriveSecured _)).trans
      (State.rangesKept_judgeForced _ _)).trans (State.rangesKept_chamber _ _ _ _)).conclude s)
  | binSwitchChange closed =>
    exact ite_rangesKept_change (((((s.rangesKept_chamber _ _ _).trans (State.rangesKept_deriveSecured _)).trans
      (State.rangesKept_judgeForced _ _)).trans (State.rangesKept_batch _ _)).conclude s)
  | latchFeedbackChange engaged =>
    exact ite_rangesKept_change ((((s.rangesKept_chamber _ _ _).trans (State.rangesKept_deriveSecured _)).trans
      (State.rangesKept_chamber _ _ _ _)).conclude s)
  | cutoutChange closed =>
    exact ite_rangesKept_change (((s.rangesKept_chamber _ _ _).trans
      (State.rangesKept_ite (State.rangesKept_deactivate _ _) (State.rangesKept_raise _ _))).conclude s)
  | disagreementTimerExpiry =>
    exact ite_rangesKept (((s.rangesKept_chamber _ _ _).trans (State.rangesKept_raise _ _)).conclude s)
  | thermistorReport plate air => exact ⟨_, rfl, (s.rangesKept_reported plate air).conclude s⟩
  | loadCellConversion reading =>
    exact ⟨_, rfl, State.rangesKept_sensors fun h => Sensors.lawful_storeLoad h reading⟩
  | doseSample humidity =>
    have hstored := State.rangesKept_sensors (s := s) (m := { s.sensors.storeHumidity humidity with
      samplesDue := (s.sensors.storeHumidity humidity).samplesDue - 1 }) fun h => Sensors.lawful_storeHumidity h humidity
    exact ite_rangesKept (hstored.trans (State.rangesKept_takeSample _ humidity))
  | grindCredit => exact ite_rangesKept ((s.rangesKept_chamber _ _ _).trans (State.rangesKept_takeRevolution _))
  | rotorPulse =>
    show ∃ t, execRotorPulse s = .next t ∧ s.RangesKept t
    unfold execRotorPulse
    split
    · exact ⟨_, rfl, s.rangesKept_takeEarly⟩
    · exact ⟨_, rfl, s.rangesKept_takeAccepted⟩
  | rotorAtRest => exact ite_rangesKept ((s.rangesKept_chamber _ _ _).trans (State.rangesKept_reportPass _))
  | startGraceRunsOut => exact ite_rangesKept s.rangesKept_stall
  | stallDeadlinePassed => exact ite_rangesKept s.rangesKept_stall
  | jogPhaseEnd => exact ite_rangesKept (s.rangesKept_chamber _ _ _)
  | probeWindowEnd => exact ite_rangesKept s.rangesKept_probeFails
  | onTimeEnd => exact ite_rangesKept (s.rangesKept_chamber _ _ _)
  | offTimeEnd => exact ite_rangesKept (s.rangesKept_chamber _ _ _)
  | cleanRunTimerExpiry => exact ite_rangesKept (s.rangesKept_chamber _ _ _)
  | massBeforeSample =>
    show ∃ t, execMassBeforeSample s = .next t ∧ s.RangesKept t
    unfold execMassBeforeSample
    split <;> exact ⟨_, rfl, s.rangesKept_batch _⟩
  | massAfterSettleStart =>
    show ∃ t, execMassAfterSettleStart s = .next t ∧ s.RangesKept t
    unfold execMassAfterSettleStart
    split <;> exact ⟨_, rfl, s.rangesKept_batch _⟩
  | massAfterSettleEnd =>
    show ∃ t, execMassAfterSettleEnd s = .next t ∧ s.RangesKept t
    unfold execMassAfterSettleEnd
    split
    · split
      · exact ⟨_, rfl, (s.rangesKept_batch _).trans (State.rangesKept_judgeClosure (s.setSettle .idle) _)⟩
      · exact ⟨_, rfl, s.rangesKept_batch _⟩
    · exact ⟨_, rfl, .refl s⟩
  | binInsertion =>
    show ∃ t, execBinInsertion s = .next t ∧ s.RangesKept t
    unfold execBinInsertion
    split <;> exact ⟨_, rfl, s.rangesKept_batch _⟩
  | tareSettleEnd => exact ite_rangesKept (s.rangesKept_batch _)
  | retirement =>
    show ∃ t, execRetirement s = .next t ∧ s.RangesKept t
    unfold execRetirement
    split
    · exact ⟨_, rfl, (s.rangesKept_batch _).trans (State.rangesKept_retire _)⟩
    all_goals exact ⟨_, rfl, .refl s⟩
  | idleFrame bits => exact takeFrame_rangesKept fun _ => s.rangesKept_reply _ _
  | unknownCommandFrame bits => exact takeFrame_rangesKept fun _ => s.rangesKept_reply _ _
  | peek table entry w low => exact takeFrame_rangesKept fun _ => s.rangesKept_takePeek _ _ _
  | poke table entry w low => exact takeFrame_rangesKept fun _ => s.rangesKept_takePoke _ _ _
  | pokeDataFrame bits => exact takeFrame_rangesKept s.rangesKept_takeData
  | verifyFrame bits => exact takeFrame_rangesKept fun _ => s.rangesKept_takeVerify
  | watch bits => exact takeFrame_rangesKept fun _ => s.rangesKept_reply _ _
  | touched bits => exact takeFrame_rangesKept fun _ => s.rangesKept_reply _ _
  | call bits =>
    exact takeFrame_rangesKept fun _ => (s.rangesKept_postAll .serviceCall).trans (State.rangesKept_reply _ _ _)
  | resync => exact ite_rangesKept ⟨id, id, id, fun _ => ⟨(by decide : 0 < 64), (by decide : 0 < 32)⟩⟩

/-! ## The step -/

theorem step_rangesKept {s t : State} (h : step s = .next t) : s.RangesKept t := by
  cases hp : s.pending with
  | nil =>
    rw [step_nil s hp] at h
    cases h
    exact .of_eq rfl rfl rfl rfl rfl rfl
  | cons c rest =>
    rw [step_cons s c rest hp] at h
    obtain ⟨u, hu, hkept⟩ := exec_rangesKept (s.withPending rest) c
    rw [hu] at h
    cases h
    exact .trans (t := s.withPending rest) (.of_eq rfl rfl rfl rfl rfl rfl) hkept

/-- Settles O12: every operation of an event keeps each of the four laws, by what it does to the ports, the tuning table,
the sensors and the frame under way. -/
theorem stepKeepsThePortLawAndTheRanges : Obligations.StepKeepsThePortLawAndTheRanges := by
  intro s t h
  obtain ⟨hports, htuning, hsensors, hlink⟩ := step_rangesKept h
  exact ⟨hports, htuning, hsensors, hlink⟩

end Sys2Proof.Machine
end

section
/-! The rotor monitor's timers (R87, R92, R93, R96): the rest timer, the phases of a jog, the on and the off time of a PULSED
claim, and the clean-run timer. -/

namespace Sys2Proof.Machine

/-! ## What a change of the output makes of the rotor monitor (R87) -/

theorem Rotor.setOutput_same {r : Rotor} {o : Direction} (h : r.output = o) (now : Nat) : r.setOutput now o = r :=
  if_pos h.symm

theorem Rotor.setOutput_to_off {r : Rotor} (h : r.output ≠ .off) (now : Nat) :
    r.setOutput now .off = { r with output := .off, restTimer := some now } := by
  unfold Rotor.setOutput
  rw [if_neg (Ne.symm h), if_pos rfl]

theorem Rotor.setOutput_from_off {r : Rotor} {o : Direction} (h : r.output = .off) (ho : o ≠ .off) (now : Nat) :
    r.setOutput now o = { r with output := o, restTimer := none, atRest := false } := by
  unfold Rotor.setOutput
  rw [if_neg (h ▸ ho), if_neg ho, if_pos h]

theorem Rotor.setOutput_off (r : Rotor) (now : Nat) : r.setOutput now .off =
    { r with output := .off, restTimer := if r.output = .off then r.restTimer else some now } := by
  by_cases ho : r.output = .off
  · rw [Rotor.setOutput_same ho, if_pos ho, ← ho]
  · rw [Rotor.setOutput_to_off ho, if_neg ho]

theorem Rotor.beginOffPhase_eq (r : Rotor) (now : Nat) : r.beginOffPhase now =
    { r with
      output := .off, restTimer := if r.output = .off then r.restTimer else some now, mode := .offPhase
      jogPhase := .none, grace := none, cleanRun := none, pattern := .off now, offPhaseDue := false } := by
  unfold Rotor.beginOffPhase
  rw [Rotor.setOutput_off]

theorem Rotor.beginOffPhase_of_on {r : Rotor} (h : r.output ≠ .off) (now : Nat) :
    r.beginOffPhase now = r.offPhaseBegun now := by
  rw [Rotor.beginOffPhase_eq, if_neg h]
  rfl

/-- The drive in the claim's direction from OFF, with its start grace (R87, R90). -/
theorem Rotor.startGrace_from_off {r : Rotor} (h : r.output = .off) (hd : r.setting.direction ≠ .off) (now : Nat) :
    (r.setOutput now r.setting.direction).startGrace now = r.applied now := by
  rw [Rotor.setOutput_from_off h hd]
  rfl

/-! ## A timer's row -/

theorem State.hasRun_of_le {s : State} {since length : Nat} (h : since + length ≤ s.time) : s.hasRun since length = true :=
  decide_eq_true h

/-- The rotor comes to rest, and the arbiter is told (R29, R87). -/
theorem exec_rotorAtRest {s : State} {since : Nat} (h : s.rotor.restTimer = some since) (ht : since + 1000000 ≤ s.time) :
    exec .rotorAtRest s = .next (State.reportPass
      { s with rotor := { s.rotor with atRest := true, restTimer := none, period := none, earlyCount := 0 } }) := by
  refine if_pos ?_
  unfold State.restOver
  rw [h]
  exact State.hasRun_of_le ht

/-- A phase that ends by its time alone moves the jog to the next (R93). -/
theorem exec_jogPhaseEnd {s : State} {n : Nat} (hm : s.rotor.mode = .jogging) (hn : s.rotor.jogPhase.length = some n)
    (ht : s.rotor.phaseStart + n ≤ s.time) :
    exec .jogPhaseEnd s = .next { s with rotor := s.rotor.nextPhase s.time } := by
  refine if_pos ?_
  unfold State.phaseOver
  rw [hn]
  exact (Bool.and_eq_true _ _).mpr ⟨decide_eq_true hm, State.hasRun_of_le ht⟩

theorem exec_onTimeEnd {s : State} {since : Nat} (h : s.rotor.pattern = .on since)
    (ht : since + s.rotor.setting.onTime * 1000000 ≤ s.time) :
    exec .onTimeEnd s = .next { s with rotor := s.rotor.endOnTime s.time } := by
  refine if_pos ?_
  unfold State.onTimeOver
  rw [h]
  exact State.hasRun_of_le ht

theorem exec_offTimeEnd {s : State} {since : Nat} (h : s.rotor.pattern = .off since) (hm : s.rotor.mode = .offPhase)
    (ht : since + s.rotor.setting.offTime * 1000000 ≤ s.time) :
    exec .offTimeEnd s = .next { s with rotor := s.rotor.drive s.time } := by
  refine if_pos ?_
  unfold State.offTimeOver
  rw [h]
  exact (Bool.and_eq_true _ _).mpr ⟨decide_eq_true hm, State.hasRun_of_le ht⟩

theorem exec_cleanRunTimerExpiry {s : State} {since : Nat} (h : s.rotor.cleanRun = some since)
    (ht : since + 30000000 ≤ s.time) :
    exec .cleanRunTimerExpiry s = .next { s with rotor := { s.rotor with attempts := 0, cleanRun := none } } := by
  refine if_pos ?_
  unfold State.cleanRunOver
  rw [h]
  exact State.hasRun_of_le ht

/-! ## The phases of a jog (R89, R93) -/

/-- REVERSE runs against the claim's direction (R89). -/
theorem Rotor.nextPhase_firstStop {r : Rotor} (hp : r.jogPhase = .firstStop) (ho : r.output = .off)
    (hd : r.setting.direction ≠ .off) (now : Nat) :
    r.nextPhase now = { r with
      output := if r.setting.direction = .forward then .reverse else .forward
      restTimer := none, atRest := false, jogPhase := .reverse, phaseStart := now } := by
  have hopposite : r.setting.direction.opposite = if r.setting.direction = .forward then .reverse else .forward := by
    cases h : r.setting.direction with
    | off => exact absurd h hd
    | forward => rfl
    | reverse => rfl
  have hon : r.setting.direction.opposite ≠ .off := by
    rw [hopposite]
    split <;> exact nofun
  unfold Rotor.nextPhase
  rw [hp]
  simp only
  rw [Rotor.setOutput_from_off ho hon, hopposite]

theorem Rotor.nextPhase_reverse {r : Rotor} (hp : r.jogPhase = .reverse) (ho : r.output ≠ .off) (now : Nat) :
    r.nextPhase now =
      { r with output := .off, restTimer := some now, jogPhase := .secondStop, phaseStart := now } := by
  unfold Rotor.nextPhase
  rw [hp]
  simp only
  rw [Rotor.setOutput_to_off ho]

theorem Rotor.nextPhase_secondStop {r : Rotor} (hp : r.jogPhase = .secondStop) (ho : r.output = .off)
    (hd : r.setting.direction ≠ .off) (now : Nat) :
    r.nextPhase now = { r.applied now with jogPhase := .probe, phaseStart := now } := by
  unfold Rotor.nextPhase
  rw [hp]
  simp only
  rw [Rotor.startGrace_from_off ho hd]

/-! ## The end of the on time and of the off time (R92) -/

theorem Rotor.endOnTime_driving {r : Rotor} (hm : r.mode = .driving) (ho : r.output ≠ .off) (now : Nat) :
    r.endOnTime now = r.offPhaseBegun now := by
  unfold Rotor.endOnTime
  rw [hm]
  exact Rotor.beginOffPhase_of_on ho now

theorem Rotor.endOnTime_jogging {r : Rotor} (hm : r.mode = .jogging) (now : Nat) :
    r.endOnTime now = { r with offPhaseDue := true, pattern := .idle } := by
  unfold Rotor.endOnTime
  rw [hm]

theorem Rotor.drive_from_off {r : Rotor} (h : r.output = .off) (hd : r.setting.direction ≠ .off) (now : Nat) :
    r.drive now = { r.applied now with
      mode := .driving, jogPhase := .none, cleanRun := some now
      pattern := if r.setting.pulsed then .on now else .idle } := by
  unfold Rotor.drive
  rw [Rotor.startGrace_from_off h hd]

/-- Settles O50: each row is taken at its timer's end, and what it does to the output is a change from OFF or to it. -/
theorem rotorTimersRunOut : Obligations.RotorTimersRunOut := by
  intro s
  refine ⟨fun since h ht => ?_, fun hm => ⟨?_, ?_, ?_⟩, fun since h ht => ⟨fun hm ho => ?_, fun hm => ?_⟩,
    fun since h ht hm ho hd => ?_, fun since h ht => exec_cleanRunTimerExpiry h ht⟩
  · refine ⟨_, exec_rotorAtRest h ht, State.reportPass_passDue _, ?_, ?_⟩
    · unfold State.reportPass
      split <;> rfl
    · unfold State.reportPass
      split <;> rfl
  · intro hp ht ho hd
    rw [exec_jogPhaseEnd (n := 500000) hm (by rw [hp]; rfl) ht, Rotor.nextPhase_firstStop hp ho hd]
  · intro hp ht ho
    rw [exec_jogPhaseEnd (n := 1000000) hm (by rw [hp]; rfl) ht, Rotor.nextPhase_reverse hp ho]
  · intro hp ht ho hd
    rw [exec_jogPhaseEnd (n := 500000) hm (by rw [hp]; rfl) ht, Rotor.nextPhase_secondStop hp ho hd]
  · rw [exec_onTimeEnd h ht, Rotor.endOnTime_driving hm ho]
  · rw [exec_onTimeEnd h ht, Rotor.endOnTime_jogging hm]
  · rw [exec_offTimeEnd h hm ht, Rotor.drive_from_off ho hd]

end Sys2Proof.Machine
end

section
/-! The start of a jog (R90, R91, R93, R94): a STALL in DRIVING and the first two failures of a probe. -/

namespace Sys2Proof.Machine

/-! ## The GRINDER holder (R26, log 21) -/

theorem State.holder_grinder_iff (s : State) (i : ClaimIdx) :
    Table.holder s.claims .grinder = some i ↔ s.HoldsTheGrinder i := by
  rw [Table.holder_eq_some]
  refine and_congr_right fun _ => forall_congr' fun j => ?_
  rw [← not_lt, ← Bool.not_eq_true]
  exact imp_not_comm

theorem State.grinderOwner_eq_some_iff (s : State) (q : Port) :
    s.grinderOwner = some q ↔ ∃ i, s.HoldsTheGrinder i ∧ (s.claim i).owner = some q := by
  simp only [← State.holder_grinder_iff]
  unfold State.grinderOwner
  cases Table.holder s.claims .grinder with
  | none => simp
  | some i => simp

/-! ## A jog starts (R93) -/

theorem Rotor.startJog_eq (r : Rotor) (now : Nat) : r.startJog now = r.jogBegun now r.attempts := by
  unfold Rotor.startJog
  rw [Rotor.setOutput_off]
  rfl

/-- The rotor monitor with that many attempts made. -/
def State.attempted (s : State) (attempts : Nat) : State := { s with rotor := { s.rotor with attempts := attempts } }

/-- A jog changes the rotor monitor and posts JOG (R93). -/
theorem State.startJog_attempted (s : State) (attempts : Nat) : (s.attempted attempts).startJog =
    ({ s with rotor := s.rotor.jogBegun s.time attempts } : State).postOwner .jog s.grinderOwner := by
  unfold State.startJog
  rw [Rotor.startJog_eq]
  rfl

/-- What the start of a jog leaves (R93). -/
theorem State.jogStarts (s : State) (attempts : Nat) :
    let t := (s.attempted attempts).startJog
    t = { s with rotor := s.rotor.jogBegun s.time attempts, ports := t.ports } ∧
      (∀ i, s.HoldsTheGrinder i → t.PostedToOwner .jog (s.claim i).owner) ∧ s.PortsButNotices t ∧
      s.PostsExactly t (fun n q => n = .jog ∧ ∃ i, s.HoldsTheGrinder i ∧ (s.claim i).owner = some q) := by
  have hnotes : s.Notifies (s.attempted attempts).startJog fun n q =>
      n = .jog ∧ ∃ i, s.HoldsTheGrinder i ∧ (s.claim i).owner = some q := by
    rw [State.startJog_attempted]
    have hposted := State.notifies_postOwner { s with rotor := s.rotor.jogBegun s.time attempts } .jog s.grinderOwner
    refine (hposted.congr (s' := s) rfl rfl).iff fun n q => ?_
    rw [State.grinderOwner_eq_some_iff]
  refine ⟨?_, fun i hi q hq => hnotes.posted ⟨rfl, i, hi, hq⟩, hnotes.ports, hnotes.posts⟩
  rw [State.startJog_attempted]
  cases s.grinderOwner <;> rfl

/-! ## What starts it (R91, R94) -/

/-- A STALL that is due is declared while the monitor watches for it (R90, R91). -/
theorem exec_stallIsDue {s : State} {c : Instr} (hw : s.watching = true) (h : s.StallIsDue c) :
    exec c s = .next s.stall := by
  obtain ⟨rfl, since, hg, ht⟩ | ⟨rfl, period, last, hp, hl, ht⟩ := h
  · refine if_pos ((Bool.and_eq_true _ _).mpr ⟨hw, ?_⟩)
    unfold State.graceOver
    rw [hg]
    exact State.hasRun_of_le ht
  · refine if_pos ((Bool.and_eq_true _ _).mpr ⟨hw, ?_⟩)
    unfold State.deadlinePassed
    rw [hp, hl]
    exact State.hasRun_of_le ht

theorem State.handsOver_grinder {s : State} (h : s.GrinderStays) : s.handsOver .grinder = false := by
  unfold State.handsOver
  cases hh : s.arbiter.handover with
  | none => rfl
  | some x => exact decide_eq_false (h x hh)

theorem exec_stallsTheDrive {s : State} {c : Instr} (h : s.StallsTheDrive c) : exec c s = .next s.startJog := by
  obtain ⟨hm, hstays, hdue⟩ := h
  have hw : s.watching = true := by simp [State.watching, hm, State.handsOver_grinder hstays]
  rw [exec_stallIsDue hw hdue]
  unfold State.stall
  rw [if_pos hm]

/-- A failure of the probe that is not the third starts the next jog, with one attempt more (R94). -/
theorem exec_failsTheProbe_again {s : State} {c : Instr} (h : s.FailsTheProbe c) (ha : s.rotor.attempts + 1 < 3) :
    exec c s = .next (s.attempted (s.rotor.attempts + 1)).startJog := by
  obtain ⟨hm, hp, hdue⟩ := h
  have hprobing : s.rotor.probing = true := decide_eq_true ⟨hm, hp⟩
  have hfails : s.probeFails = (s.attempted (s.rotor.attempts + 1)).startJog := if_pos ha
  obtain hdue | ⟨rfl, ht⟩ := hdue
  · have hw : s.watching = true := by simp [State.watching, hprobing]
    rw [exec_stallIsDue hw hdue, ← hfails]
    unfold State.stall
    rw [if_neg (by rw [hm]; decide)]
  · rw [← hfails]
    exact if_pos ((Bool.and_eq_true _ _).mpr ⟨hprobing, State.hasRun_of_le ht⟩)

/-- Settles O49: either event is the start of a jog, with the attempts as they stand or with one more. -/
theorem stallsStartJogs : Obligations.StallsStartJogs := by
  rintro s c attempts (⟨hstall, rfl⟩ | ⟨hfails, rfl, hlt⟩)
  · exact ⟨_, exec_stallsTheDrive hstall, s.jogStarts s.rotor.attempts⟩
  · exact ⟨_, exec_failsTheProbe_again hfails hlt, s.jogStarts (s.rotor.attempts + 1)⟩

end Sys2Proof.Machine
end
section
/-! The life of one pulse (R83 to R88, R94): an EARLY one that is not the fourth in a row, and an ACCEPTED one, with the
record, the period, the rest timer, the revolutions, the laboured judgement and the probe each in a lemma of its own. -/

namespace Sys2Proof.Machine

/-! ## The class of a pulse (R84) -/

theorem State.interval_pulseEdge {s : State} {last : Nat} (h : s.rotor.lastAccepted = some last) :
    s.rotor.interval s.pulseEdge = s.pulseInterval last := by
  unfold Rotor.interval
  rw [h]
  rfl

theorem State.not_isEarly_of_pulseIsAccepted {s : State} (h : s.PulseIsAccepted) :
    s.rotor.isEarly s.pulseEdge = false := by
  unfold Rotor.isEarly
  split
  next period hp =>
    obtain ⟨last, hl, hle⟩ := h period hp
    rw [State.interval_pulseEdge hl]
    exact decide_eq_false (not_lt.2 hle)
  next => rfl

/-- The record of a pulse, by its class (R83). -/
theorem State.ringAppend_pulse {s : State} (h : s.rotor.ring.length ≤ 8) {early : Bool}
    (he : s.rotor.isEarly s.pulseEdge = early) :
    ringAppend s.rotor.ring
      { stamp := stampOf s.pulseEdge, direction := s.rotor.output, early := s.rotor.isEarly s.pulseEdge } =
      s.ringWith early := by
  rw [ringAppend_eq h, he]
  rfl

/-! ## An EARLY pulse (R85) -/

/-- An EARLY pulse that is not the fourth in a row is recorded and counted (R83, R85, R87). -/
theorem exec_rotorPulse_early {s : State} (hlen : s.rotor.ring.length ≤ 8) (he : s.PulseIsEarly)
    (h3 : s.rotor.earlyCount < 3) :
    exec .rotorPulse s = .next { s with rotor := { s.rotor with
      ring := s.ringWith true, atRest := false, earlyCount := s.rotor.earlyCount + 1
      restTimer := if s.rotor.output = .off then some s.time else s.rotor.restTimer } } := by
  have hearly := State.isEarly_of_pulseIsEarly he
  have hfourth : s.rotor.earlyCount + 1 ≠ Config.earlyRun := by
    show s.rotor.earlyCount + 1 ≠ 4
    omega
  show execRotorPulse s = _
  unfold execRotorPulse State.takeEarly
  rw [if_pos hearly, if_neg hfourth]
  unfold Rotor.earlyPulse Rotor.record
  rw [State.ringAppend_pulse hlen hearly, if_neg hfourth]

/-! ## What an ACCEPTED pulse reaches (R83 to R86, R88) -/

/-- The record of a pulse does not depend on the laboured judgement, nor the judgement on it. -/
theorem Rotor.countLaboured_record (r : Rotor) (now limit edge : Nat) :
    (r.record now edge).countLaboured limit edge = (r.countLaboured limit edge).record now edge := by
  unfold Rotor.countLaboured Rotor.judgeLaboured Rotor.record Rotor.interval
  simp only
  (repeat' split) <;> rfl

theorem Rotor.countProbe_of_not_probing {r : Rotor} (h : r.probing = false) (now : Nat) : r.countProbe now = r := by
  unfold Rotor.countProbe
  rw [if_neg (by simp [h])]

theorem Rotor.countProbe_before_eighth {r : Rotor} (h : r.probing = true) (h7 : r.probeCount ≠ 7) (now : Nat) :
    r.countProbe now = { r with probeCount := r.probeCount + 1 } := by
  have heighth : r.probeCount + 1 ≠ Config.probePulses := fun heq => h7 (Nat.succ.inj heq)
  unfold Rotor.countProbe
  rw [if_pos h]
  exact if_neg heighth

theorem Rotor.countProbe_eighth {r : Rotor} (h : r.probing = true) (h7 : r.probeCount = 7) (now : Nat) :
    r.countProbe now = ({ r with probeCount := 8 } : Rotor).probeSucceeds now := by
  unfold Rotor.countProbe
  rw [if_pos h, h7]
  rfl

/-- The eighth pulse of a probe goes on driving (R94). -/
theorem Rotor.countProbe_succeeds {r : Rotor} (h : r.probing = true) (h7 : r.probeCount = 7)
    (hdue : r.offPhaseDue = false) (now : Nat) :
    r.countProbe now = { r with probeCount := 8, jogPhase := .none, mode := .driving, cleanRun := some now } := by
  rw [Rotor.countProbe_eighth h h7]
  exact if_neg (by simp [hdue])

/-- The eighth pulse of a probe begins the off phase that is due (R92, R94). -/
theorem Rotor.countProbe_turnsOff {r : Rotor} (h : r.probing = true) (h7 : r.probeCount = 7)
    (hdue : r.offPhaseDue = true) (now : Nat) :
    r.countProbe now = { r with
      probeCount := 8, output := .off, restTimer := if r.output = .off then r.restTimer else some now
      mode := .offPhase, jogPhase := .none, grace := none, cleanRun := none, pattern := .off now
      offPhaseDue := false } := by
  rw [Rotor.countProbe_eighth h h7]
  unfold Rotor.probeSucceeds
  rw [if_pos hdue, Rotor.beginOffPhase_eq]

/-- What the probe's count makes of an ACCEPTED pulse: nothing, one pulse more, or the probe's success (R92, R94). -/
theorem Rotor.countProbe_cases (r : Rotor) (now : Nat) :
    r.countProbe now = r ∨
    (r.probing = true ∧ r.probeCount ≠ 7 ∧ r.countProbe now = { r with probeCount := r.probeCount + 1 }) ∨
    r.countProbe now = { r with probeCount := 8, jogPhase := .none, mode := .driving, cleanRun := some now } ∨
    r.countProbe now = { r with
      probeCount := 8, output := .off, restTimer := if r.output = .off then r.restTimer else some now
      mode := .offPhase, jogPhase := .none, grace := none, cleanRun := none, pattern := .off now
      offPhaseDue := false } := by
  rcases Bool.eq_false_or_eq_true r.probing with hp | hp
  · by_cases h7 : r.probeCount = 7
    · rcases Bool.eq_false_or_eq_true r.offPhaseDue with hdue | hdue
      · exact .inr (.inr (.inr (Rotor.countProbe_turnsOff hp h7 hdue now)))
      · exact .inr (.inr (.inl (Rotor.countProbe_succeeds hp h7 hdue now)))
    · exact .inr (.inl ⟨hp, h7, Rotor.countProbe_before_eighth hp h7 now⟩)
  · exact .inl (Rotor.countProbe_of_not_probing hp now)

/-- The probe's count reaches the drive and its timers alone (R94). -/
theorem Rotor.countProbe_eq (r : Rotor) (now : Nat) : r.countProbe now =
    { r with
      restTimer := (r.countProbe now).restTimer, mode := (r.countProbe now).mode, output := (r.countProbe now).output
      grace := (r.countProbe now).grace, jogPhase := (r.countProbe now).jogPhase
      probeCount := (r.countProbe now).probeCount, cleanRun := (r.countProbe now).cleanRun
      pattern := (r.countProbe now).pattern, offPhaseDue := (r.countProbe now).offPhaseDue } := by
  obtain h | ⟨-, -, h⟩ | h | h := r.countProbe_cases now <;> rw [h]

theorem Rotor.countProbe_grace {r : Rotor} (h : r.grace = none) (now : Nat) : (r.countProbe now).grace = none := by
  obtain hc | ⟨-, -, hc⟩ | hc | hc := r.countProbe_cases now <;> rw [hc]
  all_goals exact h

/-- The rest timer stands unless the off phase turns the output OFF (R87, R92). -/
theorem Rotor.countProbe_restTimer {r : Rotor} {now : Nat} (h : r.output = .off ∨ (r.countProbe now).output ≠ .off) :
    (r.countProbe now).restTimer = r.restTimer := by
  obtain hc | ⟨-, -, hc⟩ | hc | hc := r.countProbe_cases now <;> rw [hc] at h ⊢
  exact if_pos (h.elim id fun hon => absurd rfl hon)

/-- The revolution count depends on the drive and on the counts it writes (R86). -/
theorem Rotor.countRevolution_congr {r x : Rotor} (hc : x.countsRevolution = r.countsRevolution)
    (hq : x.quarterCount = r.quarterCount) (hr : x.revolutions = r.revolutions) (hh : x.handed = r.handed) :
    x.countRevolution = { x with
      quarterCount := r.countRevolution.quarterCount, revolutions := r.countRevolution.revolutions
      handed := r.countRevolution.handed } := by
  unfold Rotor.countRevolution
  rw [hc, ← hq, ← hr, ← hh]
  split
  · split <;> rfl
  · rw [← hq, ← hr, ← hh]

/-- An ACCEPTED pulse before the probe counts it: recorded, judged, classified, and counted toward a revolution. -/
def Rotor.judgedPulse (r : Rotor) (now limit edge : Nat) : Rotor :=
  { r with
    ring := ringAppend r.ring { stamp := stampOf edge, direction := r.output, early := r.isEarly edge }
    atRest := false, restTimer := if r.output = .off then some now else r.restTimer
    period := r.acceptedPeriod edge, lastAccepted := some edge, earlyCount := 0, grace := none
    quarterCount := r.countRevolution.quarterCount, revolutions := r.countRevolution.revolutions
    handed := r.countRevolution.handed, laboured := (r.countLaboured limit edge).laboured
    aboveCount := (r.countLaboured limit edge).aboveCount, belowCount := (r.countLaboured limit edge).belowCount }

theorem Rotor.acceptedPulse_eq (r : Rotor) (now limit edge : Nat) :
    r.acceptedPulse now limit edge = (r.judgedPulse now limit edge).countProbe now := by
  have hrevolution : (((r.record now edge).countLaboured limit edge).accept edge).countRevolution =
      r.judgedPulse now limit edge := by
    rw [Rotor.countLaboured_record, Rotor.countLaboured_eq]
    exact Rotor.countRevolution_congr rfl rfl rfl rfl
  unfold Rotor.acceptedPulse
  rw [hrevolution]

/-! ## The period (R84) -/

theorem Rotor.acceptedPeriod_of_present {r : Rotor} (h : r.period ≠ none) (edge : Nat) :
    r.acceptedPeriod edge = some (r.interval edge) := by
  obtain ⟨period, hp⟩ := Option.ne_none_iff_exists'.1 h
  unfold Rotor.acceptedPeriod
  rw [hp]

theorem Rotor.acceptedPeriod_of_absent {r : Rotor} (h : r.period = none) (edge : Nat) :
    r.acceptedPeriod edge = if r.grace.isSome then some 250000 else none := by
  unfold Rotor.acceptedPeriod
  rw [h]
  rfl

/-! ## The revolutions (R86) -/

theorem Rotor.countsRevolution_iff (r : Rotor) : r.countsRevolution = true ↔ r.Counts := by
  simp [Rotor.countsRevolution, Rotor.probing]

theorem Rotor.countRevolution_fourth {r : Rotor} (h : r.Counts) (h3 : r.quarterCount = 3) :
    r.countRevolution = { r with quarterCount := 0, revolutions := r.revolutions + 1, handed := r.handed + 1 } := by
  unfold Rotor.countRevolution
  rw [if_pos (r.countsRevolution_iff.2 h), if_pos (by rw [h3])]

theorem Rotor.countRevolution_quarter {r : Rotor} (h : r.Counts) (h3 : r.quarterCount ≠ 3) :
    r.countRevolution = { r with quarterCount := r.quarterCount + 1 } := by
  unfold Rotor.countRevolution
  rw [if_pos (r.countsRevolution_iff.2 h), if_neg fun h4 => h3 (Nat.succ.inj h4)]

theorem Rotor.countRevolution_of_not_counts {r : Rotor} (h : ¬ r.Counts) : r.countRevolution = r := by
  unfold Rotor.countRevolution
  rw [if_neg fun hc => h (r.countsRevolution_iff.1 hc)]

/-! ## The laboured judgement (R88) -/

theorem Rotor.countLaboured_of_unmeasured {r : Rotor} (h : r.mode ≠ .driving ∨ r.period = none) (limit edge : Nat) :
    r.countLaboured limit edge = r := by
  refine if_neg fun ⟨hm, hp⟩ => ?_
  rcases h with hno | hno
  · exact hno hm
  · rw [hno] at hp
    cases hp

theorem Rotor.countLaboured_of_measured {r : Rotor} (hm : r.mode = .driving) (hp : r.period ≠ none) (limit edge : Nat) :
    r.countLaboured limit edge = r.judgeLaboured limit (r.interval edge) :=
  if_pos ⟨hm, Option.isSome_iff_ne_none.2 hp⟩

/-- The six cases of the judgement of a measured period, by the flag and by the period (R88). -/
theorem Rotor.judgeLaboured_cases (r : Rotor) (limit period : Nat) (above : Bool) (ha : above = true ↔ limit < period) :
    (r.laboured = false → above = false →
      r.judgeLaboured limit period = { r with aboveCount := 0 }) ∧
    (r.laboured = false → above = true → r.aboveCount ≠ 9 →
      r.judgeLaboured limit period = { r with aboveCount := r.aboveCount + 1 }) ∧
    (r.laboured = false → above = true → r.aboveCount = 9 →
      r.judgeLaboured limit period = { r with laboured := true, aboveCount := 0, belowCount := 0 }) ∧
    (r.laboured = true → above = true →
      r.judgeLaboured limit period = { r with belowCount := 0 }) ∧
    (r.laboured = true → above = false → r.belowCount ≠ 9 →
      r.judgeLaboured limit period = { r with belowCount := r.belowCount + 1 }) ∧
    (r.laboured = true → above = false → r.belowCount = 9 →
      r.judgeLaboured limit period = { r with laboured := false, aboveCount := 0, belowCount := 0 }) := by
  have hten : ∀ n : Nat, n + 1 = Config.labouredRun ↔ n = 9 := fun n => Nat.succ_inj
  have hle : above = false ↔ period ≤ limit := by rw [← Bool.not_eq_true, ha, not_lt]
  unfold Rotor.judgeLaboured
  simp only [hten]
  refine ⟨fun hl h => ?_, fun hl h h9 => ?_, fun hl h h9 => ?_, fun hl h => ?_, fun hl h h9 => ?_, fun hl h h9 => ?_⟩
  · rw [if_neg (by simp [hl]), if_pos (hle.1 h)]
  · rw [if_neg (by simp [hl]), if_neg (not_le.2 (ha.1 h)), if_neg h9]
  · rw [if_neg (by simp [hl]), if_neg (not_le.2 (ha.1 h)), if_pos h9]
  · rw [if_pos hl, if_pos (ha.1 h)]
  · rw [if_pos hl, if_neg (not_lt.2 (hle.1 h)), if_neg h9]
  · rw [if_pos hl, if_neg (not_lt.2 (hle.1 h)), if_pos h9]

/-! ## An ACCEPTED pulse -/

theorem State.rotor_takeAccepted (s : State) :
    s.takeAccepted.rotor = s.rotor.acceptedPulse s.time s.labouredLimit s.pulseEdge := by
  unfold State.takeAccepted
  simp only
  split <;> rfl

/-- LABOURED goes to every port at the pulse that sets the flag, and to none at another (R88). -/
theorem State.notifies_takeAccepted (s : State) : s.Notifies s.takeAccepted fun n _ =>
    n = .laboured ∧ s.rotor.laboured = false ∧ s.takeAccepted.rotor.laboured = true := by
  rw [State.rotor_takeAccepted]
  unfold State.takeAccepted
  simp only
  split
  next h =>
    obtain ⟨hset, hclear⟩ := (Bool.and_eq_true _ _).mp h
    have hposted := State.notifies_postAll
      { s with rotor := s.rotor.acceptedPulse s.time s.labouredLimit s.pulseEdge } .laboured
    exact (hposted.congr (s' := s) rfl rfl).iff fun n q =>
      (and_iff_left ⟨(Bool.not_eq_true' _).mp hclear, hset⟩).symm
  next h =>
    have hsilent : s.Notifies { s with rotor := s.rotor.acceptedPulse s.time s.labouredLimit s.pulseEdge }
        fun _ _ => False := .of_ports_eq rfl
    refine hsilent.iff fun n q => ⟨False.elim, ?_⟩
    rintro ⟨-, hclear, hset⟩
    exact h (by rw [hset, hclear]; rfl)

theorem State.takeAccepted_eq (s : State) :
    s.takeAccepted = { s with rotor := s.takeAccepted.rotor, ports := s.takeAccepted.ports } := by
  unfold State.takeAccepted
  simp only
  split <;> rfl

theorem State.rotor_judgedPulse (s : State) : s.takeAccepted.rotor =
    (s.rotor.judgedPulse s.time s.labouredLimit s.pulseEdge).countProbe s.time :=
  s.rotor_takeAccepted.trans (s.rotor.acceptedPulse_eq _ _ _)

theorem exec_rotorPulse_accepted {s : State} (h : s.PulseIsAccepted) : exec .rotorPulse s = .next s.takeAccepted :=
  if_neg (by simp [State.not_isEarly_of_pulseIsAccepted h])

/-- What an ACCEPTED pulse records and classifies, and what it leaves (R83, R84, R85, R90, R94). -/
theorem State.classified_takeAccepted (s : State) :
    s.takeAccepted.rotor.ring = ringAppend s.rotor.ring
      { stamp := stampOf s.pulseEdge, direction := s.rotor.output, early := s.rotor.isEarly s.pulseEdge } ∧
    s.takeAccepted.rotor.lastAccepted = some s.pulseEdge ∧
    s.takeAccepted.rotor.period = s.rotor.acceptedPeriod s.pulseEdge ∧
    s.takeAccepted.rotor.earlyCount = 0 ∧ s.takeAccepted.rotor.grace = none ∧ s.takeAccepted.rotor.atRest = false ∧
    s.takeAccepted.rotor.attempts = s.rotor.attempts ∧ s.takeAccepted.rotor.attemptClaim = s.rotor.attemptClaim ∧
    s.takeAccepted.rotor.setting = s.rotor.setting := by
  rw [State.rotor_judgedPulse]
  have hgrace := Rotor.countProbe_grace (r := s.rotor.judgedPulse s.time s.labouredLimit s.pulseEdge) rfl s.time
  rw [Rotor.countProbe_eq]
  exact ⟨rfl, rfl, rfl, rfl, hgrace, rfl, rfl, rfl, rfl⟩

/-- What an ACCEPTED pulse does to the counts of the revolutions and of the laboured judgement is what their operations do
(R86, R88). -/
theorem State.counts_takeAccepted (s : State) :
    s.takeAccepted.rotor.quarterCount = s.rotor.countRevolution.quarterCount ∧
    s.takeAccepted.rotor.revolutions = s.rotor.countRevolution.revolutions ∧
    s.takeAccepted.rotor.handed = s.rotor.countRevolution.handed ∧
    s.takeAccepted.rotor.laboured = (s.rotor.countLaboured s.labouredLimit s.pulseEdge).laboured ∧
    s.takeAccepted.rotor.aboveCount = (s.rotor.countLaboured s.labouredLimit s.pulseEdge).aboveCount ∧
    s.takeAccepted.rotor.belowCount = (s.rotor.countLaboured s.labouredLimit s.pulseEdge).belowCount := by
  rw [State.rotor_judgedPulse, Rotor.countProbe_eq]
  exact ⟨rfl, rfl, rfl, rfl, rfl, rfl⟩

/-- The rest timer restarts at a pulse taken with the output OFF, and else stands while the output stays on (R87). -/
theorem State.restTimer_takeAccepted {s : State} (h : s.rotor.output = .off ∨ s.takeAccepted.rotor.output ≠ .off) :
    s.takeAccepted.rotor.restTimer = if s.rotor.output = .off then some s.time else s.rotor.restTimer := by
  rw [State.rotor_judgedPulse] at h ⊢
  exact Rotor.countProbe_restTimer h

/-- Settles O47: an EARLY pulse is recorded and counted, and of an ACCEPTED one each field is what one operation made of
it, the probe's count after all the others. -/
theorem pulsesAreJudged : Obligations.PulsesAreJudged := by
  intro s hlen
  refine ⟨fun he h3 => exec_rotorPulse_early hlen he h3, fun hacc => ?_⟩
  have hnotes := s.notifies_takeAccepted
  have hrotor := s.rotor_judgedPulse
  have hstands := s.takeAccepted_eq
  have hrest := @State.restTimer_takeAccepted s
  obtain ⟨hring, hlast, hperiod, hearly, hgrace, hatRest, hattempts, hattemptClaim, hsetting⟩ :=
    s.classified_takeAccepted
  rw [State.ringAppend_pulse hlen (State.not_isEarly_of_pulseIsAccepted hacc)] at hring
  obtain ⟨hquarter, hrevolutions, hhanded, hlaboured, habove, hbelow⟩ := s.counts_takeAccepted
  rw [exec_rotorPulse_accepted hacc]
  generalize s.takeAccepted = t at *
  have hprobing : s.rotor.mode = .jogging → s.rotor.jogPhase = .probe →
      (s.rotor.judgedPulse s.time s.labouredLimit s.pulseEdge).probing = true := fun hm hp =>
    decide_eq_true ⟨hm, hp⟩
  refine ⟨t, rfl, hstands, hnotes.ports, hnotes.posts, hring, hlast, hearly, hgrace, hatRest, hattempts, hattemptClaim,
    hsetting, fun ho => (hrest (.inl ho)).trans (if_pos ho),
    fun hon hton => (hrest (.inr hton)).trans (if_neg hon), fun hp last hl => ?_, fun hp hg => ?_, fun hp hg => ?_,
    fun hc h3 => ?_, fun hc h3 => ?_, fun hc => ?_, fun hno => ?_, fun hm hp last hl above ha => ?_, fun hno => ?_,
    fun hm hp h7 => ?_, fun hm hp h7 hdue => ?_, fun hm hp h7 hdue => ?_⟩
  · rw [hperiod, Rotor.acceptedPeriod_of_present hp, State.interval_pulseEdge hl]
  · rw [hperiod, Rotor.acceptedPeriod_of_absent hp, if_pos (Option.isSome_iff_ne_none.2 hg)]
  · rw [hperiod, Rotor.acceptedPeriod_of_absent hp, hg]
    rfl
  · rw [hquarter, hrevolutions, hhanded, Rotor.countRevolution_fourth hc h3]
    exact ⟨rfl, rfl, rfl⟩
  · rw [hquarter, hrevolutions, hhanded, Rotor.countRevolution_quarter hc h3]
    exact ⟨rfl, rfl, rfl⟩
  · rw [hquarter, hrevolutions, hhanded, Rotor.countRevolution_of_not_counts hc]
    exact ⟨rfl, rfl, rfl⟩
  · rw [hlaboured, habove, hbelow, Rotor.countLaboured_of_unmeasured hno]
    exact ⟨rfl, rfl, rfl⟩
  · rw [Rotor.countLaboured_of_measured hm hp, State.interval_pulseEdge hl] at hlaboured habove hbelow
    obtain ⟨hfew, hmore, hset, hstays, hfewer, hclears⟩ :=
      s.rotor.judgeLaboured_cases s.labouredLimit (s.pulseInterval last) above ha
    rw [hlaboured, habove, hbelow]
    refine ⟨fun hf h => ?_, fun hf h h9 => ?_, fun hf h h9 => ?_, fun hf h => ?_, fun hf h h9 => ?_, fun hf h h9 => ?_⟩
    · rw [hfew hf h]
      exact ⟨hf, rfl⟩
    · rw [hmore hf h h9]
      exact ⟨hf, rfl⟩
    · rw [hset hf h h9] at hlaboured ⊢
      exact ⟨rfl, rfl, rfl, fun q => hnotes.posted ⟨rfl, hf, hlaboured⟩⟩
    · rw [hstays hf h]
      exact ⟨hf, rfl⟩
    · rw [hfewer hf h h9]
      exact ⟨hf, rfl⟩
    · rw [hclears hf h h9]
      exact ⟨rfl, rfl, rfl⟩
  · have hidle : (s.rotor.judgedPulse s.time s.labouredLimit s.pulseEdge).probing = false := decide_eq_false hno
    rw [hrotor, Rotor.countProbe_of_not_probing hidle]
    exact ⟨rfl, rfl, rfl, rfl, rfl, rfl⟩
  · rw [hrotor, Rotor.countProbe_before_eighth (hprobing hm hp) h7]
    exact ⟨hm, hp, rfl, rfl⟩
  · rw [hrotor, Rotor.countProbe_succeeds (hprobing hm hp) h7 hdue]
    exact ⟨rfl, rfl, rfl, rfl⟩
  · rw [hrotor, Rotor.countProbe_turnsOff (hprobing hm hp) h7 hdue]
    exact ⟨rfl, rfl, rfl, rfl, rfl, rfl⟩

end Sys2Proof.Machine
end
section
/-! The ranges of the rotor monitor's counts (R83 to R88, R94, R96), operation by operation of the monitor. -/

namespace Sys2Proof.Machine

/-! ## The drive (R89, R92, R93) -/

theorem Rotor.countsLawful_setOutput {r : Rotor} (h : r.CountsLawful) (now : Nat) (o : Direction) :
    (r.setOutput now o).CountsLawful := by
  unfold Rotor.setOutput
  (repeat' split) <;> exact h

theorem Rotor.countsLawful_stop {r : Rotor} (h : r.CountsLawful) (now : Nat) : (r.stop now).CountsLawful := by
  unfold Rotor.stop
  split
  · exact h
  · obtain ⟨hring, hearly, hquarter, hattempts, -, -, habove, hbelow⟩ := Rotor.countsLawful_setOutput h now .off
    exact ⟨hring, hearly, hquarter, hattempts, Nat.zero_le _, nofun, habove, hbelow⟩

theorem Rotor.countsLawful_drive {r : Rotor} (h : r.CountsLawful) (now : Nat) : (r.drive now).CountsLawful := by
  obtain ⟨hring, -, hquarter, hattempts, hprobe, -, habove, hbelow⟩ :=
    Rotor.countsLawful_setOutput h now r.setting.direction
  exact ⟨hring, (by decide : 0 < Config.earlyRun), hquarter, hattempts, hprobe, nofun, habove, hbelow⟩

theorem Rotor.countsLawful_beginOffPhase {r : Rotor} (h : r.CountsLawful) (now : Nat) :
    (r.beginOffPhase now).CountsLawful := by
  obtain ⟨hring, hearly, hquarter, hattempts, hprobe, -, habove, hbelow⟩ := h
  rw [Rotor.beginOffPhase_eq]
  exact ⟨hring, hearly, hquarter, hattempts, hprobe, nofun, habove, hbelow⟩

/-- A jog starts with as many attempts made as the count may show (R93, R96). -/
theorem Rotor.countsLawful_jogBegun {r : Rotor} (h : r.CountsLawful) (now : Nat) {attempts : Nat}
    (ha : attempts ≤ Config.maxAttempts) : (r.jogBegun now attempts).CountsLawful := by
  obtain ⟨hring, hearly, hquarter, -, -, -, habove, hbelow⟩ := h
  exact ⟨hring, hearly, hquarter, ha, Nat.zero_le _, fun _ => (by decide : 0 < Config.probePulses), habove, hbelow⟩

theorem Rotor.countsLawful_nextPhase {r : Rotor} (h : r.CountsLawful) (now : Nat) : (r.nextPhase now).CountsLawful := by
  have hkept := Rotor.countsLawful_setOutput h now
  unfold Rotor.nextPhase
  split
  · exact hkept _
  · exact hkept _
  · obtain ⟨hring, -, hquarter, hattempts, hprobe, hjogging, habove, hbelow⟩ := hkept r.setting.direction
    exact ⟨hring, (by decide : 0 < Config.earlyRun), hquarter, hattempts, hprobe, hjogging, habove, hbelow⟩
  · exact h
  · exact h

theorem Rotor.countsLawful_endOnTime {r : Rotor} (h : r.CountsLawful) (now : Nat) : (r.endOnTime now).CountsLawful := by
  unfold Rotor.endOnTime
  split
  · exact Rotor.countsLawful_beginOffPhase h now
  all_goals exact h

theorem Rotor.countsLawful_handOver {r : Rotor} (h : r.CountsLawful) (now : Nat) : (r.handOver now).CountsLawful := by
  unfold Rotor.handOver
  split
  · exact h
  · exact Rotor.countsLawful_stop h now

/-- A GRINDER claim enters GRANTED with the counts afresh, and with the attempts of its own arming (R88, R96). -/
theorem Rotor.countsLawful_grantedBy {r : Rotor} (h : r.CountsLawful) (now : Nat) (i : ClaimIdx) (c : Claim) :
    (r.grantedBy now i c).CountsLawful := by
  obtain ⟨hring, -, hquarter, hattempts, -⟩ := h
  refine ⟨hring, (by decide : 0 < Config.earlyRun), hquarter, ?_, Nat.zero_le _, nofun,
    (by decide : 0 < Config.labouredRun), (by decide : 0 < Config.labouredRun)⟩
  unfold Rotor.grantedBy
  simp only
  split
  · exact hattempts
  · exact Nat.zero_le _

/-! ## A pulse (R83 to R88, R94) -/

theorem length_ringAppend_le {ring : List PulseRecord} (h : ring.length ≤ Config.ringSize) (x : PulseRecord) :
    (ringAppend ring x).length ≤ Config.ringSize := by
  unfold ringAppend
  split
  next hlt => simpa using hlt
  next hfull =>
    have hlength : ring.length = Config.ringSize := le_antisymm h (not_lt.1 hfull)
    rw [List.length_append, List.length_drop, hlength]
    exact le_refl Config.ringSize

theorem Rotor.countsLawful_earlyPulse {r : Rotor} (h : r.CountsLawful) (now edge : Nat) :
    (r.earlyPulse now edge).CountsLawful := by
  obtain ⟨hring, hearly, hquarter, hattempts, hprobe, hjogging, habove, hbelow⟩ := h
  refine ⟨length_ringAppend_le hring _, ?_, hquarter, hattempts, hprobe, hjogging, habove, hbelow⟩
  unfold Rotor.earlyPulse
  simp only
  split
  · decide
  next hfourth => exact lt_of_le_of_ne hearly hfourth

theorem Rotor.quarterCount_countRevolution_lt {r : Rotor} (h : r.quarterCount < 4) :
    r.countRevolution.quarterCount < 4 := by
  by_cases hc : r.Counts
  · by_cases h3 : r.quarterCount = 3
    · rw [Rotor.countRevolution_fourth hc h3]
      exact (by decide : 0 < 4)
    · rw [Rotor.countRevolution_quarter hc h3]
      exact lt_of_le_of_ne h fun h4 => h3 (Nat.succ.inj h4)
  · rw [Rotor.countRevolution_of_not_counts hc]
    exact h

/-- The tenth measured period in a row moves the flag and returns both counts to 0 (R88). -/
theorem Rotor.judgeLaboured_lt {r : Rotor} (ha : r.aboveCount < Config.labouredRun)
    (hb : r.belowCount < Config.labouredRun) (limit period : Nat) :
    (r.judgeLaboured limit period).aboveCount < Config.labouredRun ∧
      (r.judgeLaboured limit period).belowCount < Config.labouredRun := by
  have hzero : 0 < Config.labouredRun := by decide
  unfold Rotor.judgeLaboured
  split
  · split
    · exact ⟨ha, hzero⟩
    · split
      · exact ⟨hzero, hzero⟩
      next htenth => exact ⟨ha, lt_of_le_of_ne hb htenth⟩
  · split
    · exact ⟨hzero, hb⟩
    · split
      · exact ⟨hzero, hzero⟩
      next htenth => exact ⟨lt_of_le_of_ne ha htenth, hb⟩

theorem Rotor.countLaboured_lt {r : Rotor} (ha : r.aboveCount < Config.labouredRun)
    (hb : r.belowCount < Config.labouredRun) (limit edge : Nat) :
    (r.countLaboured limit edge).aboveCount < Config.labouredRun ∧
      (r.countLaboured limit edge).belowCount < Config.labouredRun := by
  unfold Rotor.countLaboured
  split
  · exact Rotor.judgeLaboured_lt ha hb _ _
  · exact ⟨ha, hb⟩

theorem Rotor.countsLawful_judgedPulse {r : Rotor} (h : r.CountsLawful) (now limit edge : Nat) :
    (r.judgedPulse now limit edge).CountsLawful := by
  obtain ⟨hring, -, hquarter, hattempts, hprobe, hjogging, habove, hbelow⟩ := h
  obtain ⟨habove, hbelow⟩ := Rotor.countLaboured_lt habove hbelow limit edge
  exact ⟨length_ringAppend_le hring _, (by decide : 0 < Config.earlyRun), Rotor.quarterCount_countRevolution_lt hquarter,
    hattempts, hprobe, hjogging, habove, hbelow⟩

/-- The probe's count reaches 8 only where the probe ends (R94). -/
theorem Rotor.countsLawful_countProbe {r : Rotor} (h : r.CountsLawful) (now : Nat) :
    (r.countProbe now).CountsLawful := by
  obtain hc | ⟨hp, h7, hc⟩ | hc | hc := r.countProbe_cases now <;> rw [hc]
  · exact h
  all_goals obtain ⟨hring, hearly, hquarter, hattempts, -, hjogging, habove, hbelow⟩ := h
  · have hlt : r.probeCount + 1 < Config.probePulses :=
      lt_of_le_of_ne (hjogging (Rotor.mode_of_probing hp)) fun h8 => h7 (Nat.succ.inj h8)
    exact ⟨hring, hearly, hquarter, hattempts, hlt.le, fun _ => hlt, habove, hbelow⟩
  · exact ⟨hring, hearly, hquarter, hattempts, le_refl Config.probePulses, nofun, habove, hbelow⟩
  · exact ⟨hring, hearly, hquarter, hattempts, le_refl Config.probePulses, nofun, habove, hbelow⟩

theorem Rotor.countsLawful_acceptedPulse {r : Rotor} (h : r.CountsLawful) (now limit edge : Nat) :
    (r.acceptedPulse now limit edge).CountsLawful := by
  rw [Rotor.acceptedPulse_eq]
  exact Rotor.countsLawful_countProbe (Rotor.countsLawful_judgedPulse h now limit edge) now

end Sys2Proof.Machine
end

section
/-! Every command keeps the ranges of the rotor monitor's counts (R83 to R88, R94, R96): by far the most leave the rotor
monitor alone, and the rest move it by the operations above. -/

namespace Sys2Proof.Machine

/-! ## What an event keeps -/

/-- From the first state to the second the rotor monitor's counts stay in their ranges. -/
def State.CountsKept (s t : State) : Prop := s.rotor.CountsLawful → t.rotor.CountsLawful

theorem State.CountsKept.of_rotor {s t : State} (h : t.rotor = s.rotor) : s.CountsKept t := fun hs => h ▸ hs

theorem State.CountsKept.refl (s : State) : s.CountsKept s := .of_rotor rfl

theorem State.CountsKept.trans {s t u : State} (h : s.CountsKept t) (k : t.CountsKept u) : s.CountsKept u := k ∘ h

/-- What follows an event and leaves the rotor monitor alone. -/
theorem State.CountsKept.then_rotor {s t u : State} (h : s.CountsKept t) (k : u.rotor = t.rotor) : s.CountsKept u :=
  h.trans (.of_rotor k)

/-- The reply to a request follows what the request has done. -/
theorem State.CountsKept.answer {s t : State} (h : s.CountsKept t) (p : Port) (st : Status) (data : List Byte) :
    s.CountsKept (t.answer p st data) := h.then_rotor (t.answer_rotor p st data)

theorem State.countsKept_answer (s : State) (p : Port) (st : Status) (data : List Byte) :
    s.CountsKept (s.answer p st data) := (State.CountsKept.refl s).answer p st data

/-- The unit's copies of the inputs are not the rotor monitor's. -/
theorem State.countsKept_interlock (s : State) (u : Interlock) : s.CountsKept { s with interlock := u } := .of_rotor rfl

theorem State.countsKept_ite {c : Prop} [Decidable c] {s t u : State} (ht : s.CountsKept t) (hu : s.CountsKept u) :
    s.CountsKept (if c then t else u) := by
  split
  · exact ht
  · exact hu

/-! ## Resumptions and the end of an event (R16, R89) -/

theorem State.countsKept_enterGranted (s : State) (i : ClaimIdx) : s.CountsKept (s.enterGranted i) := by
  intro h
  rw [State.rotor_enterGranted]
  split
  · exact Rotor.countsLawful_grantedBy h _ _ _
  · exact h

theorem State.countsKept_resumeAll (s : State) : s.CountsKept s.resumeAll :=
  foldl_invariant s.CountsKept State.resumeOne
    (fun u i h => h.trans (State.countsKept_ite (u.countsKept_enterGranted i) (.refl u))) all16 s (.refl s)

theorem State.countsKept_followLatch (s : State) : s.CountsKept s.followLatch := by
  by_cases h : s.ResumesHeld
  · rw [State.followLatch_of_resumes h]
    exact .trans (.of_rotor (s.setLatchCommand_rotor _)) (State.countsKept_resumeAll _)
  · exact .of_rotor (State.rotor_followLatch_of_not_resumes h)

theorem State.countsKept_followRotor (s : State) : s.CountsKept s.followRotor :=
  State.countsKept_ite (.refl s) fun h => Rotor.countsLawful_stop h s.time

/-- The end of an event resumes HELD claims or stops the drive (R53, R89). -/
theorem State.CountsKept.conclude {s u : State} (h : s.CountsKept u) (old : State) : s.CountsKept (u.conclude old) :=
  ((h.trans u.countsKept_followLatch).trans (State.countsKept_followRotor _)).then_rotor (u.conclude_rotor old)

/-- An event that leaves the rotor monitor alone until its end. -/
theorem State.countsKept_conclude {s u : State} (h : u.rotor = s.rotor) (old : State) : s.CountsKept (u.conclude old) :=
  State.CountsKept.conclude (.of_rotor h) old

theorem State.countsKept_resumeIfEngaged (s : State) : s.CountsKept s.resumeIfEngaged :=
  State.countsKept_ite s.countsKept_resumeAll (.refl s)

theorem State.countsKept_deriveSecured (s : State) : s.CountsKept s.deriveSecured := by
  have hgained : s.CountsKept s.securedGained := by
    rw [show s.securedGained = s.gained s.interlock from s.securedGained_eq s.interlock]
    exact (State.countsKept_resumeIfEngaged (s.gainedBy s.interlock)).then_rotor (State.reportPass_rotor _)
  exact State.countsKept_ite (.refl s) (State.countsKept_ite hgained (.of_rotor s.securedLost_rotor))

theorem State.countsKept_clearHalt (s : State) : s.CountsKept s.clearHalt := by
  rw [State.clearHalt_eq]
  exact (State.countsKept_resumeIfEngaged s.haltCleared).then_rotor (State.reportPass_rotor _)

/-! ## The requests of a pass (R14, R17, R44) -/

theorem State.countsKept_takeGrant (s : State) (i : ClaimIdx) (n : Word) : s.CountsKept (s.takeGrant i n) := by
  have hdropped : s.CountsKept { s.dropRequest with arbiter := { s.dropRequest.arbiter with handover := none } } :=
    .of_rotor rfl
  exact (State.countsKept_ite (hdropped.trans (State.countsKept_enterGranted _ i)) hdropped).conclude s

theorem State.countsKept_beginHandover (s : State) (c : Claim) : s.CountsKept (s.beginHandover c) := by
  intro h
  rw [State.beginHandover_rotor]
  split
  · exact Rotor.countsLawful_handOver h _
  · exact h

theorem State.countsKept_takeYield (s : State) (i : ClaimIdx) (d : Bool) : s.CountsKept (s.takeYield i d) := by
  have hdropped : s.CountsKept s.dropRequest := .of_rotor rfl
  have hbegun := hdropped.trans (State.countsKept_beginHandover s.dropRequest (s.dropRequest.claim i))
  exact (State.countsKept_ite ((State.countsKept_ite hbegun hdropped).then_rotor (State.applyYield_rotor _ i))
    hdropped).conclude s

theorem State.countsKept_takeRequest (s : State) : s.CountsKept s.takeRequest := by
  unfold State.takeRequest
  split
  · exact s.countsKept_takeGrant _ _
  · exact s.countsKept_takeYield _ _
  · exact .refl s

theorem State.countsKept_takeRequests (n : Nat) (s : State) : s.CountsKept (State.takeRequests n s) := by
  induction n generalizing s with
  | zero => exact .refl s
  | succ n ih => exact s.countsKept_takeRequest.trans (ih s.takeRequest)

theorem State.takeBudgetWrites_rotor (n : Nat) (s : State) : (State.takeBudgetWrites n s).rotor = s.rotor := by
  induction n generalizing s with
  | zero => rfl
  | succ n ih => exact (ih s.takeBudgetWrite).trans s.takeBudgetWrite_rotor

theorem State.countsKept_settleArbiter (s : State) : s.CountsKept s.settleArbiter :=
  (s.countsKept_takeRequests _).then_rotor (State.takeBudgetWrites_rotor _ _)

theorem State.countsKept_pokeWrite (s : State) (table entry w : Nat) (seq : Option Word) (value : Word) :
    s.CountsKept (s.pokeWrite table entry w seq value).1 := by
  obtain h | ⟨k, x, hit, h⟩ | ⟨k, v, -, h⟩ | h | ⟨v, -, h⟩ := s.pokeWrite_cases table entry w seq value <;> rw [h]
  · exact .refl s
  · exact .of_rotor (s.annotate_rotor k x hit)
  · exact .of_rotor (s.writeTuning_rotor k v)
  · exact s.countsKept_settleArbiter
  · exact s.countsKept_settleArbiter.then_rotor (State.applyBudget_rotor _ v)

/-! ## The rotor monitor (R83 to R96) -/

theorem State.countsKept_takeAccepted (s : State) : s.CountsKept s.takeAccepted := by
  intro h
  rw [State.rotor_takeAccepted]
  exact Rotor.countsLawful_acceptedPulse h _ _ _

theorem State.countsKept_takeEarly (s : State) : s.CountsKept s.takeEarly := by
  have hpulse : s.CountsKept { s with rotor := s.rotor.earlyPulse s.time s.pulseEdge } := fun h =>
    Rotor.countsLawful_earlyPulse h _ _
  exact State.countsKept_ite ((hpulse.then_rotor (State.raise_rotor _ _)).conclude s) hpulse

theorem State.countsKept_startJog (s : State) : s.CountsKept s.startJog := by
  intro h
  have hattempts : s.rotor.attempts ≤ Config.maxAttempts := by
    obtain ⟨-, -, -, hattempts, -⟩ := h
    exact hattempts
  unfold State.startJog
  rw [State.postOwner_rotor, Rotor.startJog_eq]
  exact Rotor.countsLawful_jogBegun h _ hattempts

/-- A failure is one attempt more, and the third declares the jam (R94, R95). -/
theorem State.countsKept_probeFails (s : State) : s.CountsKept s.probeFails := by
  unfold State.probeFails
  split
  next hlt =>
    refine .trans (t := s.attempted (s.rotor.attempts + 1)) (fun h => ?_) (State.countsKept_startJog _)
    obtain ⟨hring, hearly, hquarter, -, hrest⟩ := h
    exact ⟨hring, hearly, hquarter, hlt.le, hrest⟩
  next =>
    intro h
    rw [State.rotor_declareJam]
    obtain ⟨hring, hearly, hquarter, -, hrest⟩ := Rotor.countsLawful_stop h s.time
    exact ⟨hring, hearly, hquarter, le_refl Config.maxAttempts, hrest⟩

theorem State.countsKept_stall (s : State) : s.CountsKept s.stall :=
  State.countsKept_ite s.countsKept_startJog s.countsKept_probeFails

theorem Rotor.countsLawful_atRest {r : Rotor} (h : r.CountsLawful) :
    ({ r with atRest := true, restTimer := none, period := none, earlyCount := 0 } : Rotor).CountsLawful := by
  obtain ⟨hring, -, hrest⟩ := h
  exact ⟨hring, (by decide : 0 < Config.earlyRun), hrest⟩

theorem Rotor.countsLawful_cleanRun {r : Rotor} (h : r.CountsLawful) :
    ({ r with attempts := 0, cleanRun := none } : Rotor).CountsLawful := by
  obtain ⟨hring, hearly, hquarter, -, hrest⟩ := h
  exact ⟨hring, hearly, hquarter, Nat.zero_le _, hrest⟩

/-! ## The requests that leave the rotor monitor alone -/

theorem State.takeStatus_rotor (s : State) (p : Port) (req : List Byte) : (s.takeStatus p req).rotor = s.rotor := by
  unfold State.takeStatus
  (repeat' split) <;> rfl

theorem State.takeNoticeLevel_rotor (s : State) (p : Port) (req : List Byte) :
    (s.takeNoticeLevel p req).rotor = s.rotor := by
  unfold State.takeNoticeLevel
  split <;> rfl

theorem State.takeAccessRead_rotor (s : State) (p : Port) (req : List Byte) :
    (s.takeAccessRead p req).rotor = s.rotor := by
  unfold State.takeAccessRead
  split <;> rfl

theorem State.takeAccessWrite_rotor (s : State) (p : Port) (req : List Byte) :
    (s.takeAccessWrite p req).rotor = s.rotor := by
  unfold State.takeAccessWrite
  (repeat' split) <;> rfl

theorem State.takeRotorRead_rotor (s : State) (p : Port) (req : List Byte) :
    (s.takeRotorRead p req).rotor = s.rotor := by
  unfold State.takeRotorRead
  split <;> rfl

theorem State.takeDraft_rotor (s : State) (p : Port) (req : List Byte) : (s.takeDraft p req).rotor = s.rotor := by
  unfold State.takeDraft
  (repeat' split) <;> rfl

theorem State.takeAlter_rotor (s : State) (p : Port) (req : List Byte) : (s.takeAlter p req).rotor = s.rotor := by
  unfold State.takeAlter
  (repeat' split) <;> simp

theorem State.takeClaimRead_rotor (s : State) (p : Port) (req : List Byte) :
    (s.takeClaimRead p req).rotor = s.rotor := by
  unfold State.takeClaimRead
  (repeat' split) <;> rfl

theorem State.takeBatchRead_rotor (s : State) (p : Port) (req : List Byte) :
    (s.takeBatchRead p req).rotor = s.rotor := by
  unfold State.takeBatchRead
  (repeat' split) <;> rfl

theorem State.takeBatchReserve_rotor (s : State) (p : Port) (req : List Byte) :
    (s.takeBatchReserve p req).rotor = s.rotor := by
  unfold State.takeBatchReserve
  (repeat' split) <;> rfl

theorem State.takeBatchCommit_rotor (s : State) (p : Port) (req : List Byte) :
    (s.takeBatchCommit p req).rotor = s.rotor := by
  unfold State.takeBatchCommit
  (repeat' split) <;> simp

theorem State.takeRetiredPeek_rotor (s : State) (p : Port) (req : List Byte) :
    (s.takeRetiredPeek p req).rotor = s.rotor := by
  unfold State.takeRetiredPeek
  (repeat' split) <;> rfl

theorem State.takeRetiredTake_rotor (s : State) (p : Port) (req : List Byte) :
    (s.takeRetiredTake p req).rotor = s.rotor := by
  unfold State.takeRetiredTake
  (repeat' split) <;> rfl

theorem State.takeTuningRead_rotor (s : State) (p : Port) (req : List Byte) :
    (s.takeTuningRead p req).rotor = s.rotor := by
  unfold State.takeTuningRead
  split <;> rfl

theorem State.takeTuningWrite_rotor (s : State) (p : Port) (req : List Byte) :
    (s.takeTuningWrite p req).rotor = s.rotor := by
  unfold State.takeTuningWrite
  simp only
  (repeat' split) <;> simp

/-! ## The requests that end with the outputs following (R9, R11, R25, R67) -/

theorem State.countsKept_takeArm (s : State) (p : Port) (req : List Byte) : s.CountsKept (s.takeArm p req) := by
  unfold State.takeArm
  split
  · exact s.countsKept_answer _ _ _
  · split
    · exact s.countsKept_answer _ _ _
    · refine State.CountsKept.answer (State.countsKept_conclude ?_ s) _ _ _
      rw [State.reportPass_rotor, State.setClaim_rotor]

theorem State.countsKept_takeDisarm (s : State) (p : Port) (req : List Byte) : s.CountsKept (s.takeDisarm p req) := by
  have hdisarm : ∀ i, s.CountsKept (s.disarm i) := fun i =>
    State.countsKept_ite (State.countsKept_conclude (s.endAndReport_rotor i .withdrawn) s) (.of_rotor rfl)
  unfold State.takeDisarm
  split
  · exact s.countsKept_answer _ _ _
  · exact (hdisarm _).answer _ _ _

theorem State.countsKept_takePortReset (s : State) (p : Port) : s.CountsKept (s.takePortReset p) :=
  State.countsKept_conclude (by simp) s

theorem State.countsKept_takeHaltClear (s : State) (p : Port) : s.CountsKept (s.takeHaltClear p) :=
  State.countsKept_ite (s.countsKept_answer _ _ _) (State.countsKept_ite (s.countsKept_answer _ _ _)
    (State.countsKept_ite (s.countsKept_answer _ _ _) ((s.countsKept_clearHalt.conclude s).answer _ _ _)))

/-! ## The service link (R160 to R167) -/

theorem State.takePeek_rotor (s : State) (table entry w : Nat) : (s.takePeek table entry w).rotor = s.rotor := by
  unfold State.takePeek
  (repeat' split) <;> rfl

theorem State.takePoke_rotor (s : State) (table entry w : Nat) : (s.takePoke table entry w).rotor = s.rotor := rfl

theorem State.takeVerify_rotor (s : State) : s.takeVerify.rotor = s.rotor := by
  unfold State.takeVerify
  split <;> rfl

/-- A frame of the link that leaves the rotor monitor alone. -/
theorem takeFrame_countsKept {s : State} {bits : List Bool} {kind : FrameKind} {f : Word → State}
    (hf : ∀ frame, (f frame).rotor = s.rotor) : ∃ t, takeFrame s bits kind f = .next t ∧ s.CountsKept t :=
  takeFrame_next (.refl s) (fun _ _ => .of_rotor rfl) fun frame _ => .of_rotor (hf frame)

/-! ## All of them -/

/-- A command that changes the state only where its condition holds. -/
theorem ite_countsKept {c : Prop} [Decidable c] {s t : State} (h : s.CountsKept t) :
    ∃ u, (if c then Host.Outcome.next t else Host.Outcome.next s : Answer) = .next u ∧ s.CountsKept u := by
  split
  · exact ⟨t, rfl, h⟩
  · exact ⟨s, rfl, .refl s⟩

/-- A change of an input, of which only a real change is an event (R48). -/
theorem ite_countsKept_change {c : Prop} [Decidable c] {s t : State} (h : s.CountsKept t) :
    ∃ u, (if c then Host.Outcome.next s else Host.Outcome.next t : Answer) = .next u ∧ s.CountsKept u := by
  split
  · exact ⟨s, rfl, .refl s⟩
  · exact ⟨t, rfl, h⟩

/-- A request that its block takes with the rotor monitor left alone. -/
theorem onRequest_rotor {s : State} {p : Port} {code : Byte} {f : List Byte → State}
    (hf : ∀ req, (f req).rotor = s.rotor) : ∃ t, onRequest s p code f = .next t ∧ s.CountsKept t :=
  onRequest_next (.refl s) fun req => .of_rotor (hf req)

/-- Every command keeps the counts in their ranges. -/
theorem exec_countsKept (s : State) (c : Instr) : ∃ t, exec c s = .next t ∧ s.CountsKept t := by
  cases c with
  | resetRelease first =>
    obtain ⟨t, ht, ⟨-, -, -, -, -, hcounts, -⟩, -⟩ := resetReleaseIsLawful first s
    exact ⟨t, ht, fun _ => hcounts⟩
  | transactionStart p =>
    show ∃ t, execTransactionStart p s = .next t ∧ s.CountsKept t
    unfold execTransactionStart
    split <;> exact ⟨_, rfl, .of_rotor rfl⟩
  | transactionTaken p x =>
    show ∃ t, execTransactionTaken p x s = .next t ∧ s.CountsKept t
    unfold execTransactionTaken
    split <;> exact ⟨_, rfl, .of_rotor rfl⟩
  | busyTransaction x => exact ite_countsKept_change (.of_rotor rfl)
  | shortTransaction x => exact ite_countsKept (.of_rotor rfl)
  | nop p => exact onRequest_rotor fun _ => rfl
  | status p => exact onRequest_rotor fun req => s.takeStatus_rotor p req
  | noticeRead p => exact onRequest_rotor fun _ => rfl
  | noticeClear p => exact onRequest_rotor fun _ => rfl
  | noticeLevel p => exact onRequest_rotor fun req => s.takeNoticeLevel_rotor p req
  | accessRead p => exact onRequest_rotor fun req => s.takeAccessRead_rotor p req
  | accessWrite p => exact onRequest_rotor fun req => s.takeAccessWrite_rotor p req
  | portReset p => exact onRequest_next (.refl s) fun _ => s.countsKept_takePortReset p
  | rotorRead p => exact onRequest_rotor fun req => s.takeRotorRead_rotor p req
  | draft p => exact onRequest_rotor fun req => s.takeDraft_rotor p req
  | arm p => exact onRequest_next (.refl s) fun req => s.countsKept_takeArm p req
  | disarm p => exact onRequest_next (.refl s) fun req => s.countsKept_takeDisarm p req
  | alter p => exact onRequest_rotor fun req => s.takeAlter_rotor p req
  | claimRead p => exact onRequest_rotor fun req => s.takeClaimRead_rotor p req
  | batchRead p => exact onRequest_rotor fun req => s.takeBatchRead_rotor p req
  | batchReserve p => exact onRequest_rotor fun req => s.takeBatchReserve_rotor p req
  | batchCommit p => exact onRequest_rotor fun req => s.takeBatchCommit_rotor p req
  | retiredPeek p => exact onRequest_rotor fun req => s.takeRetiredPeek_rotor p req
  | retiredTake p => exact onRequest_rotor fun req => s.takeRetiredTake_rotor p req
  | haltClear p => exact onRequest_next (.refl s) fun _ => s.countsKept_takeHaltClear p
  | tuningRead p => exact onRequest_rotor fun req => s.takeTuningRead_rotor p req
  | tuningWrite p => exact onRequest_rotor fun req => s.takeTuningWrite_rotor p req
  | budgetWrite => exact ite_countsKept_change (.of_rotor s.takeBudgetWrite_rotor)
  | arbitrationPass together => exact ite_countsKept (.of_rotor rfl)
  | grant =>
    show ∃ t, execGrant s = .next t ∧ s.CountsKept t
    unfold execGrant
    split
    · exact ⟨_, rfl, s.countsKept_takeGrant _ _⟩
    all_goals exact ⟨_, rfl, .refl s⟩
  | yield =>
    show ∃ t, execYield s = .next t ∧ s.CountsKept t
    unfold execYield
    split
    · exact ⟨_, rfl, s.countsKept_takeYield _ _⟩
    all_goals exact ⟨_, rfl, .refl s⟩
  | chamberClockIncrement => exact ⟨_, rfl, .of_rotor rfl⟩
  | runTimeExpiry i => exact ite_countsKept (State.countsKept_conclude (s.endAndReport_rotor i .done) s)
  | deadlineExpiry i => exact ite_countsKept (State.countsKept_conclude (s.endAndReport_rotor i .lapsed) s)
  | lidSwitchChange closed =>
    exact ite_countsKept_change (((((s.countsKept_interlock _).trans (State.countsKept_deriveSecured _)).then_rotor
      (State.judgeForced_rotor _ _)).then_rotor (State.judgeDisagreement_rotor _)).conclude s)
  | binSwitchChange closed =>
    exact ite_countsKept_change (((((s.countsKept_interlock _).trans (State.countsKept_deriveSecured _)).then_rotor
      (State.judgeForced_rotor _ _)).then_rotor (State.handBin_rotor _ _)).conclude s)
  | latchFeedbackChange engaged =>
    exact ite_countsKept_change ((((s.countsKept_interlock _).trans (State.countsKept_deriveSecured _)).then_rotor
      (State.judgeDisagreement_rotor _)).conclude s)
  | cutoutChange closed =>
    exact ite_countsKept_change (((s.countsKept_interlock _).trans (State.countsKept_ite
      (.of_rotor (State.deactivate_rotor _ _)) (.of_rotor (State.raise_rotor _ _)))).conclude s)
  | disagreementTimerExpiry => 
    exact ite_countsKept (((s.countsKept_interlock _).then_rotor (State.raise_rotor _ _)).conclude s)
  | thermistorReport plate air => exact ⟨_, rfl, State.countsKept_conclude (by simp) s⟩
  | loadCellConversion reading => exact ⟨_, rfl, .of_rotor rfl⟩
  | doseSample humidity => exact ite_countsKept (.of_rotor (State.takeSample_rotor _ _))
  | grindCredit => exact ite_countsKept (State.CountsKept.then_rotor
      (t := { s with rotor := { s.rotor with handed := s.rotor.handed - 1 } }) id (State.takeRevolution_rotor _))
  | rotorPulse =>
    show ∃ t, execRotorPulse s = .next t ∧ s.CountsKept t
    unfold execRotorPulse
    split
    · exact ⟨_, rfl, s.countsKept_takeEarly⟩
    · exact ⟨_, rfl, s.countsKept_takeAccepted⟩
  | rotorAtRest => exact ite_countsKept (State.CountsKept.then_rotor
      (t := { s with rotor := { s.rotor with atRest := true, restTimer := none, period := none, earlyCount := 0 } })
      Rotor.countsLawful_atRest (State.reportPass_rotor _))
  | startGraceRunsOut => exact ite_countsKept s.countsKept_stall
  | stallDeadlinePassed => exact ite_countsKept s.countsKept_stall
  | jogPhaseEnd => exact ite_countsKept fun h => Rotor.countsLawful_nextPhase h _
  | probeWindowEnd => exact ite_countsKept s.countsKept_probeFails
  | onTimeEnd => exact ite_countsKept fun h => Rotor.countsLawful_endOnTime h _
  | offTimeEnd => exact ite_countsKept fun h => Rotor.countsLawful_drive h _
  | cleanRunTimerExpiry => exact ite_countsKept Rotor.countsLawful_cleanRun
  | massBeforeSample =>
    show ∃ t, execMassBeforeSample s = .next t ∧ s.CountsKept t
    unfold execMassBeforeSample
    split <;> exact ⟨_, rfl, .of_rotor rfl⟩
  | massAfterSettleStart =>
    show ∃ t, execMassAfterSettleStart s = .next t ∧ s.CountsKept t
    unfold execMassAfterSettleStart
    split <;> exact ⟨_, rfl, .of_rotor rfl⟩
  | massAfterSettleEnd =>
    show ∃ t, execMassAfterSettleEnd s = .next t ∧ s.CountsKept t
    unfold execMassAfterSettleEnd
    split
    · split
      · exact ⟨_, rfl, .of_rotor (State.judgeClosure_rotor _ _)⟩
      · exact ⟨_, rfl, .of_rotor rfl⟩
    · exact ⟨_, rfl, .refl s⟩
  | binInsertion =>
    show ∃ t, execBinInsertion s = .next t ∧ s.CountsKept t
    unfold execBinInsertion
    split <;> exact ⟨_, rfl, .of_rotor rfl⟩
  | tareSettleEnd => exact ite_countsKept (.of_rotor rfl)
  | retirement =>
    show ∃ t, execRetirement s = .next t ∧ s.CountsKept t
    unfold execRetirement
    split
    · exact ⟨_, rfl, .of_rotor (State.retire_rotor _)⟩
    all_goals exact ⟨_, rfl, .refl s⟩
  | idleFrame bits => exact takeFrame_countsKept fun _ => s.reply_rotor _ _
  | unknownCommandFrame bits => exact takeFrame_countsKept fun _ => s.reply_rotor _ _
  | peek table entry w low => exact takeFrame_countsKept fun _ => s.takePeek_rotor _ _ _
  | poke table entry w low => exact takeFrame_countsKept fun _ => s.takePoke_rotor _ _ _
  | pokeDataFrame bits =>
    exact execPokeDataFrame_next (P := s.CountsKept) (fun _ _ h => h) (.refl s) s.countsKept_pokeWrite bits
  | verifyFrame bits => exact takeFrame_countsKept fun _ => s.takeVerify_rotor
  | watch bits => exact takeFrame_countsKept fun _ => s.reply_rotor _ _
  | touched bits => exact takeFrame_countsKept fun _ => s.reply_rotor _ _
  | call bits => exact takeFrame_countsKept fun _ => (State.reply_rotor _ _ _).trans (s.postAll_rotor _)
  | resync => exact ite_countsKept (.of_rotor rfl)

/-! ## The step -/

theorem step_countsKept {s t : State} (h : step s = .next t) : s.CountsKept t := by
  cases hp : s.pending with
  | nil =>
    rw [step_nil s hp] at h
    cases h
    exact .of_rotor rfl
  | cons c rest =>
    rw [step_cons s c rest hp] at h
    obtain ⟨u, hu, hkept⟩ := exec_countsKept (s.withPending rest) c
    rw [hu] at h
    cases h
    exact hkept

/-- Settles O10: every operation of an event keeps the counts, by what it does to the rotor monitor. -/
theorem stepKeepsTheRotorCounts : Obligations.StepKeepsTheRotorCounts :=
  fun _ _ _ hcounts h => step_countsKept h hcounts

end Sys2Proof.Machine
end

section
/-! What a closure makes of the batch unit (R109 to R112): the youngest record evaluated alone, the re-wetting, an
opening, and the youngest set back. -/

namespace Sys2Proof.Machine

theorem State.batchEvent_postAll (s : State) (n : Source) : s.BatchEvent (s.postAll n) := rfl

/-! ## The youngest record evaluated alone (R123, R124, R166) -/

theorem getElem?_append_singleton_cases (older : List BatchRecord) (y y' : BatchRecord) (k : Nat) :
    (k ≠ older.length ∧ (older ++ [y])[k]? = (older ++ [y'])[k]?) ∨
      (k = older.length ∧ (older ++ [y])[k]? = some y ∧ (older ++ [y'])[k]? = some y') := by
  obtain hlt | rfl | hgt := lt_trichotomy k older.length
  · exact .inl ⟨hlt.ne, by rw [List.getElem?_append_left hlt, List.getElem?_append_left hlt]⟩
  · exact .inr ⟨rfl, List.getElem?_concat_length, List.getElem?_concat_length⟩
  · exact .inl ⟨hgt.ne', by rw [List.getElem?_eq_none (by simpa using hgt), List.getElem?_eq_none (by simpa using hgt)]⟩

theorem State.judgedRecords_youngest {u : State} {older : List BatchRecord} {y : BatchRecord}
    (h : u.batch.records = older ++ [y]) :
    u.judgedRecords (fun j => j == older.length) = older ++ [u.credited y y.dose y.grind] := by
  refine List.ext_getElem? fun k => ?_
  rw [State.getElem?_judgedRecords, h]
  obtain ⟨hk, heq⟩ | ⟨rfl, hy, hy'⟩ := getElem?_append_singleton_cases older y (u.credited y y.dose y.grind) k
  · rw [← heq]
    simp [hk]
  · rw [hy, hy']
    simp

theorem entersCured_youngest (older : List BatchRecord) (y y' : BatchRecord) :
    EntersCured (older ++ [y]) (older ++ [y']) ↔ y.state ≠ .cured ∧ y'.state = .cured := by
  constructor
  · rintro ⟨k, r, r', hr, hr', hne, hcured⟩
    obtain ⟨-, heq⟩ | ⟨-, hy, hy'⟩ := getElem?_append_singleton_cases older y y' k
    · rw [← heq, hr] at hr'
      cases hr'
      exact absurd hcured hne
    · rw [hy] at hr
      rw [hy'] at hr'
      cases hr
      cases hr'
      exact ⟨hne, hcured⟩
  · rintro ⟨hne, hcured⟩
    exact ⟨older.length, y, y', List.getElem?_concat_length, List.getElem?_concat_length, hne, hcured⟩

theorem stateDiffers_youngest (older : List BatchRecord) (y y' : BatchRecord) (k : Nat) :
    stateDiffers (older ++ [y]) (older ++ [y']) k = decide (k = older.length ∧ y.state ≠ y'.state) := by
  unfold stateDiffers
  obtain ⟨hk, heq⟩ | ⟨rfl, hy, hy'⟩ := getElem?_append_singleton_cases older y y' k
  · rw [← heq]
    cases (older ++ [y])[k]? <;> simp [hk]
  · simp

theorem lastChanged_youngest (older : List BatchRecord) (y y' : BatchRecord) :
    lastChanged (older ++ [y]) (older ++ [y']) = if y.state = y'.state then none else some older.length := by
  unfold lastChanged
  split
  next h => simp [stateDiffers_youngest, h]
  next h => simp [stateDiffers_youngest, h, List.range_succ]

/-- The evaluation of the youngest record moves the last-touched latch to it if its state changes (R166). -/
theorem State.evaluateAt_youngest_link {u : State} {older : List BatchRecord} {y : BatchRecord}
    (h : u.batch.records = older ++ [y]) : (u.evaluateAt older.length).link = { u.link with
      touched := if y.state = u.cureState y y.dose y.grind then u.link.touched
        else some (.batch older.length y.seq) } := by
  have hlast : lastChanged u.batch.records (u.judgedRecords fun j => j == older.length) =
      if y.state = u.cureState y y.dose y.grind then none else some older.length := by
    rw [State.judgedRecords_youngest h, h]
    exact lastChanged_youngest _ _ _
  unfold State.evaluateAt State.evaluate
  simp only
  rw [hlast, State.judgedRecords_youngest h]
  by_cases hstate : y.state = u.cureState y y.dose y.grind
  · simp only [if_pos hstate]
    split <;> rfl
  · simp only [if_neg hstate]
    split <;> simp [State.touchBatch, State.setRecords] <;> rfl

/-! ## The re-wetting (R109) -/

/-- The mix re-wetted, with the record that has been written still to be judged (R109). -/
def State.wetted (s : State) : State :=
  { s with batch := { s.batch with mix := .wet, dryRun := 0, finished := false } }

theorem State.rewet_eq (s : State) (k : Nat) : s.rewet k = (s.wetted.evaluateAt k).judgeFinished := rfl

/-- A wet mix is not finished (R128). -/
theorem BatchUnit.finishedWanted_of_not_dry {u : BatchUnit} (h : u.mix ≠ .dry) : u.finishedWanted = false := by
  simp [BatchUnit.finishedWanted, h]

theorem State.rewet_batch (s : State) (k : Nat) : (s.rewet k).batch = { s.batch with
    records := s.wetted.judgedRecords (fun j => j == k), mix := .wet, dryRun := 0, finished := false } := by
  rw [State.rewet_eq, State.judgeFinished_batch, State.evaluateAt, State.evaluate_batch,
    BatchUnit.finishedWanted_of_not_dry (by exact (by decide : Mix.wet ≠ .dry))]
  rfl

theorem State.batchEvent_rewet (s : State) (k : Nat) : s.BatchEvent (s.rewet k) :=
  (State.BatchEvent.trans (t := s.wetted) rfl (State.batchEvent_evaluate _ _)).trans (State.batchEvent_judgeFinished _)

theorem State.rewet_link {s : State} {older : List BatchRecord} {y : BatchRecord} (h : s.batch.records = older ++ [y]) :
    (s.rewet older.length).link = { s.link with
      touched := if y.state = s.cureState y y.dose y.grind then s.link.touched
        else some (.batch older.length y.seq) } := by
  rw [State.rewet_eq, State.judgeFinished_link]
  exact State.evaluateAt_youngest_link (u := s.wetted) h

/-- A re-wetting posts BATCH_CURED alone, and that if the youngest record is cured at once (R109, R124). -/
theorem State.notifies_rewet {s : State} {older : List BatchRecord} {y : BatchRecord}
    (h : s.batch.records = older ++ [y]) : s.Notifies (s.rewet older.length) fun n _ =>
      n = .batchCured ∧ y.state ≠ .cured ∧ s.cureState y y.dose y.grind = .cured := by
  have hwetted : s.Notifies s.wetted fun _ _ => False := .of_ports_eq rfl
  have hnotes := hwetted.trans (s.wetted.notifies_cure fun j => j == older.length)
  have hrecords : (s.rewet older.length).batch.records = older ++ [s.credited y y.dose y.grind] := by
    rw [State.rewet_batch]
    exact State.judgedRecords_youngest (u := s.wetted) h
  have hfinished : (s.rewet older.length).batch.finished = false := by rw [State.rewet_batch]
  refine hnotes.iff fun n q => ?_
  rw [false_or]
  show ((n = .batchCured ∧ EntersCured s.batch.records (s.rewet older.length).batch.records) ∨
    (n = .finished ∧ (s.rewet older.length).batch.finished = true ∧ false = false)) ↔ _
  rw [hrecords, hfinished, h, entersCured_youngest]
  simp [State.credited]

/-! ## An opening (R104, R110) -/

/-- The record appended and its notice posted, with the mix still to be re-wetted (R110). -/
def State.opening (s : State) (mass : Option Nat) : State :=
  (({ s with batch := { s.batch with
      records := s.batch.records ++ [s.opened mass], nextSeq := (s.opened mass).seq + 1 } } : State).touchBatch
    s.batch.records.length).postAll .batchOpened

theorem State.openRecord_eq (s : State) (mass : Option Nat) :
    s.openRecord mass = (s.opening mass).rewet s.batch.records.length := rfl

theorem State.opening_batch (s : State) (mass : Option Nat) : (s.opening mass).batch = { s.batch with
    records := s.batch.records ++ [s.opened mass], nextSeq := (s.opened mass).seq + 1 } := by
  unfold State.opening
  rw [State.postAll_batch, State.touchBatch_batch]

theorem State.opening_link (s : State) (mass : Option Nat) : (s.opening mass).link = { s.link with
    touched := some (.batch s.batch.records.length (s.opened mass).seq) } := by
  unfold State.opening State.touchBatch
  simp only [List.getElem?_concat_length]
  rfl

theorem State.batchEvent_opening (s : State) (mass : Option Nat) : s.BatchEvent (s.opening mass) :=
  .trans (State.BatchEvent.trans (t := { s with batch := { s.batch with
    records := s.batch.records ++ [s.opened mass], nextSeq := (s.opened mass).seq + 1 } }) rfl
    (State.batchEvent_touchBatch _ _)) (State.batchEvent_postAll _ _)

theorem State.notifies_opening (s : State) (mass : Option Nat) :
    s.Notifies (s.opening mass) fun n _ => n = .batchOpened := by
  have htouched : s.Notifies (({ s with batch := { s.batch with
      records := s.batch.records ++ [s.opened mass], nextSeq := (s.opened mass).seq + 1 } } : State).touchBatch
      s.batch.records.length) fun _ _ => False := .of_ports_eq (State.touchBatch_ports _ _)
  exact (htouched.trans (State.notifies_postAll _ .batchOpened)).iff fun n q => by rw [false_or]

/-- An opening whole: the record judged at once, the latch at it, and its notices (R109, R110, R124, R166). -/
theorem State.openRecord_opens (s : State) (mass : Option Nat) :
    s.BatchEvent (s.openRecord mass) ∧
    (s.openRecord mass).batch = { s.batch with
      records := s.batch.records ++ [s.credited (s.opened mass) 0 0], nextSeq := (s.opened mass).seq + 1
      mix := .wet, dryRun := 0, finished := false } ∧
    (s.openRecord mass).link.touched = some (.batch s.batch.records.length (s.opened mass).seq) ∧
    s.Notifies (s.openRecord mass) fun n _ =>
      n = .batchOpened ∨ (n = .batchCured ∧ (s.credited (s.opened mass) 0 0).state = .cured) := by
  have hbatch := s.opening_batch mass
  have hlink := s.opening_link mass
  have hevent := s.batchEvent_opening mass
  have hnotes := s.notifies_opening mass
  rw [State.openRecord_eq]
  generalize s.opening mass = u at hbatch hlink hevent hnotes
  have hrecords : u.batch.records = s.batch.records ++ [s.opened mass] := by rw [hbatch]
  have hcredited : ∀ x dose grind, u.credited x dose grind = s.credited x dose grind :=
    State.credited_congr (by rw [hevent]) (by rw [hevent])
  have hstate : u.cureState (s.opened mass) 0 0 = (s.credited (s.opened mass) 0 0).state :=
    congrArg BatchRecord.state (hcredited (s.opened mass) 0 0)
  refine ⟨hevent.trans (u.batchEvent_rewet _), ?_, ?_, (hnotes.trans (State.notifies_rewet hrecords)).iff fun n q => ?_⟩
  · rw [State.rewet_batch, State.judgedRecords_youngest (u := u.wetted) hrecords, hbatch]
    show _ = { s.batch with
      records := s.batch.records ++ [s.credited (s.opened mass) 0 0], nextSeq := (s.opened mass).seq + 1
      mix := .wet, dryRun := 0, finished := false }
    rw [← hcredited]
    rfl
  · rw [State.rewet_link hrecords, hlink]
    exact ite_self _
  · refine or_congr_right (and_congr_right fun _ => ?_)
    rw [← hstate]
    exact and_iff_right (by decide : BatchState.fresh ≠ .cured)

/-! ## The youngest set back (R111, R112) -/

/-- The youngest record set back, and the last-touched latch at it if its state has changed (R111, R112, R166). -/
def State.setBackYoungest (s : State) (older : List BatchRecord) (y : BatchRecord) (mass : Option Nat) : State :=
  if y.state = .fresh then s.setRecords (older ++ [y.setBack mass])
  else (s.setRecords (older ++ [y.setBack mass])).touchBatch older.length

/-- The youngest record set back and its reservations broken, with the mix still to be re-wetted (R111, R112). -/
def State.settingBack (s : State) (older : List BatchRecord) (y : BatchRecord) (mass : Option Nat) : State :=
  ((s.setBackYoungest older y mass).breakReservations fun _ n => n == y.seq).postAll .batchMerged

theorem State.resetYoungest_eq {s : State} {older : List BatchRecord} {y : BatchRecord}
    (h : s.batch.records = older ++ [y]) (f : Option Nat → Option Nat) :
    s.resetYoungest f = (s.settingBack older y (f y.mass)).rewet older.length := by
  have hyoungest : s.batch.records.length - 1 = older.length := by simp [h]
  have hset : (older ++ [y]).set older.length (y.setBack (f y.mass)) = older ++ [y.setBack (f y.mass)] := by
    rw [List.set_append_right _ _ (le_refl _), Nat.sub_self, List.set_cons_zero]
  unfold State.resetYoungest State.settingBack State.setBackYoungest
  simp only
  rw [hyoungest, h, List.getElem?_concat_length]
  simp only [hset]

theorem State.batchEvent_setBackYoungest (s : State) (older : List BatchRecord) (y : BatchRecord) (mass : Option Nat) :
    s.BatchEvent (s.setBackYoungest older y mass) := by
  have hset : s.BatchEvent (s.setRecords (older ++ [y.setBack mass])) := rfl
  unfold State.setBackYoungest
  split
  · exact hset
  · exact hset.trans (State.batchEvent_touchBatch _ _)

theorem State.setBackYoungest_batch (s : State) (older : List BatchRecord) (y : BatchRecord) (mass : Option Nat) :
    (s.setBackYoungest older y mass).batch = { s.batch with records := older ++ [y.setBack mass] } := by
  unfold State.setBackYoungest
  split
  · rfl
  · exact State.touchBatch_batch _ _

theorem State.setBackYoungest_ports (s : State) (older : List BatchRecord) (y : BatchRecord) (mass : Option Nat) :
    (s.setBackYoungest older y mass).ports = s.ports := by
  unfold State.setBackYoungest
  split
  · rfl
  · exact State.touchBatch_ports _ _

theorem State.setBackYoungest_touched (s : State) (older : List BatchRecord) (y : BatchRecord) (mass : Option Nat) :
    (s.setBackYoungest older y mass).link.touched =
      if y.state = .fresh then s.link.touched else some (.batch older.length y.seq) := by
  unfold State.setBackYoungest State.touchBatch State.setRecords
  split
  · rfl
  · simp only [List.getElem?_concat_length]
    rfl

theorem State.batchEvent_settingBack (s : State) (older : List BatchRecord) (y : BatchRecord) (mass : Option Nat) :
    s.BatchEvent (s.settingBack older y mass) :=
  ((s.batchEvent_setBackYoungest older y mass).trans (State.batchEvent_breakReservations _ _)).trans
    (State.batchEvent_postAll _ _)

theorem State.settingBack_touched (s : State) (older : List BatchRecord) (y : BatchRecord) (mass : Option Nat) :
    (s.settingBack older y mass).link.touched =
      if y.state = .fresh then s.link.touched else some (.batch older.length y.seq) := by
  unfold State.settingBack
  rw [State.postAll_link, State.breakReservations_link, State.setBackYoungest_touched]

/-- The record set back and the reservations on it broken, with the notices of both (R111, R112, R136). -/
theorem State.settingBack_sets (s : State) (older : List BatchRecord) (y : BatchRecord) (mass : Option Nat) :
    (s.settingBack older y mass).batch = { s.batch with
      records := older ++ [y.setBack mass], reservations := (s.settingBack older y mass).batch.reservations } ∧
    (∀ q, (s.settingBack older y mass).batch.reservations.get q =
      (s.batch.reservations.get q).brokenBy fun n => n == y.seq) ∧
    s.Notifies (s.settingBack older y mass) fun n q =>
      n = .batchMerged ∨ (n = .reservationLost ∧ s.LosesReservation (fun _ n => n == y.seq) q) := by
  obtain ⟨hres, hkept, hnotes⟩ := (s.setBackYoungest older y mass).breakReservations_breaks fun _ n => n == y.seq
  have hlost := hnotes.congr (s' := s) (s.setBackYoungest_ports older y mass).symm rfl
  unfold State.LosesReservation at hlost
  rw [State.setBackYoungest_batch] at hres hkept hlost
  unfold State.settingBack
  rw [State.postAll_batch]
  exact ⟨hkept, hres, (hlost.trans (State.notifies_postAll _ .batchMerged)).iff fun n q => or_comm⟩

/-- The youngest set back, whole: judged at once, its reservations broken, the latch at it if its state has changed, and
the notices (R109, R111, R112, R124, R136, R166). -/
theorem State.resetYoungest_sets {s : State} {older : List BatchRecord} {y : BatchRecord}
    (h : s.batch.records = older ++ [y]) (f : Option Nat → Option Nat) :
    s.BatchEvent (s.resetYoungest f) ∧
    (s.resetYoungest f).batch = { s.batch with
      records := older ++ [s.credited (y.setBack (f y.mass)) 0 0]
      reservations := (s.resetYoungest f).batch.reservations, mix := .wet, dryRun := 0, finished := false } ∧
    (∀ q, (s.resetYoungest f).batch.reservations.get q =
      (s.batch.reservations.get q).brokenBy fun n => n == y.seq) ∧
    (s.resetYoungest f).link.touched = (if y.state = .fresh ∧ s.cureState y 0 0 = .fresh then s.link.touched
      else some (.batch older.length y.seq)) ∧
    s.Notifies (s.resetYoungest f) fun n q => n = .batchMerged ∨ (n = .batchCured ∧ s.cureState y 0 0 = .cured) ∨
      (n = .reservationLost ∧ s.LosesReservation (fun _ n => n == y.seq) q) := by
  obtain ⟨hbatch, hres, hnotes⟩ := s.settingBack_sets older y (f y.mass)
  have hevent := s.batchEvent_settingBack older y (f y.mass)
  have hlink := s.settingBack_touched older y (f y.mass)
  rw [State.resetYoungest_eq h]
  generalize s.settingBack older y (f y.mass) = u at hbatch hlink hevent hnotes hres
  have hrecords : u.batch.records = older ++ [y.setBack (f y.mass)] := by rw [hbatch]
  have hcredited : u.credited (y.setBack (f y.mass)) 0 0 = s.credited (y.setBack (f y.mass)) 0 0 :=
    State.credited_congr (by rw [hevent]) (by rw [hevent]) _ 0 0
  have hstate : u.cureState (y.setBack (f y.mass)) 0 0 = s.cureState y 0 0 := congrArg BatchRecord.state hcredited
  refine ⟨hevent.trans (u.batchEvent_rewet _), ?_, fun q => ?_, ?_,
    (hnotes.trans (State.notifies_rewet hrecords)).iff fun n q => ?_⟩
  · rw [State.rewet_batch, State.judgedRecords_youngest (u := u.wetted) hrecords, ← hcredited, hbatch]
    rfl
  · rw [State.rewet_batch]
    exact hres q
  · rw [State.rewet_link hrecords]
    show (if BatchState.fresh = u.cureState (y.setBack (f y.mass)) 0 0 then u.link.touched
      else some (.batch older.length y.seq)) = _
    rw [hstate, hlink, ite_and]
    by_cases hy : y.state = .fresh <;> simp [hy, eq_comm]
  · show ((_ ∨ _) ∨ (n = .batchCured ∧ BatchState.fresh ≠ .cured ∧
      u.cureState (y.setBack (f y.mass)) 0 0 = .cured)) ↔ _
    rw [hstate, and_iff_right (by decide : BatchState.fresh ≠ .cured), or_right_comm, or_assoc]

end Sys2Proof.Machine
end

section
/-! A closure judged (R107 to R113), and the mass samples and the settles (R105 to R107). -/

namespace Sys2Proof.Machine

/-! ## A closure judged (R107, R108, R112, R113) -/

theorem State.settleOver_of_running {s : State} {since : Nat} (h : s.batch.settle = .running since)
    (ht : since + 2000000 ≤ s.time) : s.settleOver = true := by
  unfold State.settleOver
  rw [h]
  exact decide_eq_true ht

theorem State.unmeasured_iff (s : State) : s.batch.unmeasured s.massSample = true ↔ s.ClosureUnmeasured := by
  unfold BatchUnit.unmeasured State.ClosureUnmeasured State.massSample
  cases s.batch.massBefore <;> simp

theorem State.delta_eq (s : State) : s.batch.delta s.massSample = s.closureDelta := by
  unfold BatchUnit.delta State.closureDelta
  cases s.batch.massBefore <;> rfl

theorem exec_massAfterSettleEnd {s : State} (h : s.ClosureIsJudged) :
    exec .massAfterSettleEnd s = .next ((s.setSettle .idle).judgeClosure s.massSample) := by
  obtain ⟨⟨since, hrun, ht⟩, hsecured⟩ := h
  show execMassAfterSettleEnd s = _
  unfold execMassAfterSettleEnd
  rw [if_pos (State.settleOver_of_running hrun ht), if_pos hsecured]

/-- A closure judged, in the words of the rules (R108, R112). -/
theorem State.judgeClosure_eq (s : State) : (s.setSettle .idle).judgeClosure s.massSample =
    if s.batch.unmeasured s.massSample then (s.setSettle .idle).unmeasuredClosure
    else if s.closureDelta < (s.tuning.get 7 : Int) then s.setSettle .idle
    else if s.batch.mayOpen then (s.setSettle .idle).openRecord (some s.closureDelta.toNat)
    else (s.setSettle .idle).mergeYoungest s.closureDelta.toNat := by
  rw [← State.delta_eq]
  rfl

/-- A delta below the threshold is not a load (R108). -/
theorem State.judgeClosure_of_no_load {s : State} (hm : ¬ s.ClosureUnmeasured)
    (hd : s.closureDelta < (s.tuning.get 7 : Int)) :
    (s.setSettle .idle).judgeClosure s.massSample = s.setSettle .idle := by
  rw [State.judgeClosure_eq, if_neg (by rwa [State.unmeasured_iff]), if_pos hd]

theorem BatchUnit.mayOpen_iff (u : BatchUnit) :
    u.mayOpen = true ↔ u.records.length < 8 ∧ (u.nextSeq ≠ 0 ∨ u.records = []) := by
  unfold BatchUnit.mayOpen
  rw [Bool.and_eq_true, Bool.or_eq_true, decide_eq_true_eq, decide_eq_true_eq, List.isEmpty_iff]
  rfl

/-- An unmeasured closure on an empty table, or a load with room for a record, opens one (R108, R112). -/
theorem State.judgeClosure_of_opening {s : State} {mass : Option Nat}
    (h : (s.ClosureUnmeasured ∧ s.batch.records = [] ∧ mass = none) ∨
      (¬ s.ClosureUnmeasured ∧ (s.tuning.get 7 : Int) ≤ s.closureDelta ∧ s.batch.records.length < 8 ∧
        (s.batch.nextSeq ≠ 0 ∨ s.batch.records = []) ∧ mass = some s.closureDelta.toNat)) :
    (s.setSettle .idle).judgeClosure s.massSample = (s.setSettle .idle).openRecord mass := by
  rw [State.judgeClosure_eq]
  obtain ⟨hm, hempty, rfl⟩ | ⟨hm, hload, hroom, hseq, rfl⟩ := h
  · rw [if_pos (s.unmeasured_iff.2 hm)]
    exact if_pos (List.isEmpty_iff.2 hempty)
  · rw [if_neg (by rwa [State.unmeasured_iff]), if_neg (not_lt.2 hload), if_pos (s.batch.mayOpen_iff.2 ⟨hroom, hseq⟩)]

/-- An unmeasured closure with records in the table, or a load with no room for one more, sets the youngest back (R108,
R111, R112). -/
theorem State.judgeClosure_of_setting_back {s : State} {older : List BatchRecord} {y : BatchRecord} {mass : Option Nat}
    (hy : s.batch.records = older ++ [y])
    (h : (s.ClosureUnmeasured ∧ mass = y.mass) ∨
      (¬ s.ClosureUnmeasured ∧ (s.tuning.get 7 : Int) ≤ s.closureDelta ∧
        (8 ≤ s.batch.records.length ∨ s.batch.nextSeq = 0) ∧
        mass = y.mass.map fun g => min (g + s.closureDelta.toNat) 20000)) :
    ∃ f, (s.setSettle .idle).judgeClosure s.massSample = (s.setSettle .idle).resetYoungest f ∧ f y.mass = mass := by
  rw [State.judgeClosure_eq]
  have hsome : s.batch.records ≠ [] := by simp [hy]
  obtain ⟨hm, rfl⟩ | ⟨hm, hload, hfull, rfl⟩ := h
  · rw [if_pos (s.unmeasured_iff.2 hm)]
    exact ⟨id, if_neg fun he => hsome (List.isEmpty_iff.1 he), rfl⟩
  · have hclosed : ¬ s.batch.mayOpen = true := by
      rw [BatchUnit.mayOpen_iff]
      rintro ⟨hroom, hseq | hempty⟩
      · exact hfull.elim (Nat.not_le.2 hroom) hseq
      · exact hsome hempty
    rw [if_neg (by rwa [State.unmeasured_iff]), if_neg (not_lt.2 hload), if_neg hclosed]
    exact ⟨fun m => m.map fun g => min (g + s.closureDelta.toNat) Config.massTop, rfl, rfl⟩

/-- Reservations after an event that breaks those that the test names, said by port (R136). -/
theorem State.breaks_of_brokenBy {s t : State} {hit : Port → Word → Bool}
    (hres : ∀ q, t.batch.reservations.get q = (s.batch.reservations.get q).brokenBy (hit q))
    (hposted : ∀ q, s.LosesReservation hit q → t.Posted .reservationLost q) : s.Breaks t hit fun _ => false := by
  refine fun q _ => ⟨fun n hn hhit => ⟨?_, hposted q ⟨n, hn, hhit⟩⟩, fun hkept => ?_⟩
  · rw [hres, hn]
    exact if_pos hhit
  · rw [hres]
    cases hq : s.batch.reservations.get q with
    | intact n => exact if_neg (Bool.eq_false_iff.1 (hkept n hq))
    | none | broken n => rfl

/-- Settles O53: a closure changes nothing, is an opening, or sets the youngest record back. -/
theorem closuresAreJudged : Obligations.ClosuresAreJudged := by
  refine fun s hs => ⟨fun hm hd => ?_, fun mass h => ?_, fun older y mass hy h => ?_⟩
  · rw [exec_massAfterSettleEnd hs, State.judgeClosure_of_no_load hm hd]
    rfl
  · obtain ⟨hevent, hbatch, htouched, hnotes⟩ := (s.setSettle .idle).openRecord_opens mass
    have hexec := exec_massAfterSettleEnd hs
    rw [State.judgeClosure_of_opening h] at hexec
    have hnotes := hnotes.congr (s' := s) rfl rfl
    exact ⟨_, hexec, .trans (t := s.setSettle .idle) rfl hevent, hnotes.ports, hbatch, htouched,
      fun q => hnotes.posted (.inl rfl), fun hcured q => hnotes.posted (.inr ⟨rfl, hcured⟩), hnotes.posts⟩
  · obtain ⟨f, hjudged, rfl⟩ := State.judgeClosure_of_setting_back hy h
    obtain ⟨hevent, hbatch, hres, htouched, hnotes⟩ := State.resetYoungest_sets (s := s.setSettle .idle) hy f
    have hexec := exec_massAfterSettleEnd hs
    rw [hjudged] at hexec
    have hnotes := hnotes.congr (s' := s) rfl rfl
    generalize (s.setSettle .idle).resetYoungest f = t at *
    refine ⟨t, hexec, .trans (t := s.setSettle .idle) rfl hevent, hnotes.ports, hbatch,
      State.breaks_of_brokenBy hres fun q hlost => hnotes.posted (.inr (.inr ⟨rfl, hlost⟩)),
      fun q => hnotes.posted (.inl rfl), fun hcured q => hnotes.posted (.inr (.inl ⟨rfl, hcured⟩)), fun n q => ?_,
      htouched⟩
    refine (hnotes.posts n q).trans (or_congr_right (or_congr_right (or_congr_right (and_congr_right fun _ => ?_))))
    exact State.losesReservation_iff (s := s) (hit := fun _ n => n == y.seq) (hres q)

/-! ## The mass samples and the settles (R105 to R107) -/

theorem exec_massBeforeSample {s : State} {rest : List SecuredEvent} (h : s.batch.securedEvents = .lost :: rest) :
    exec .massBeforeSample s =
      .next { s with batch := { s.batch with securedEvents := rest }.takeLost s.massSample } := by
  show execMassBeforeSample s = _
  unfold execMassBeforeSample
  rw [h]

theorem BatchUnit.takeLost_idle {u : BatchUnit} (h : u.settle = .idle) (sample : MassSample) :
    u.takeLost sample = { u with massBefore := some sample } := by
  unfold BatchUnit.takeLost
  rw [h]

theorem BatchUnit.takeLost_of_not_idle {u : BatchUnit} (h : u.settle ≠ .idle) (sample : MassSample) :
    u.takeLost sample = { u with settle := .idle } := by
  unfold BatchUnit.takeLost
  split
  next hidle => exact absurd hidle h
  all_goals rfl

theorem exec_massAfterSettleStart {s : State} {rest : List SecuredEvent} (h : s.batch.securedEvents = .gained :: rest) :
    exec .massAfterSettleStart s =
      .next { s with batch := { s.batch with securedEvents := rest, settle := .running s.time } } := by
  show execMassAfterSettleStart s = _
  unfold execMassAfterSettleStart
  rw [h]

/-- A settle that ends in a chamber that is not secured is cut (R107). -/
theorem exec_massAfterSettleEnd_unsecured {s : State} {since : Nat} (h : s.batch.settle = .running since)
    (ht : since + 2000000 ≤ s.time) (hs : s.interlock.secured = false) :
    exec .massAfterSettleEnd s = .next (s.setSettle .cut) := by
  show execMassAfterSettleEnd s = _
  unfold execMassAfterSettleEnd
  rw [if_pos (State.settleOver_of_running h ht), hs]
  rfl

theorem exec_binInsertion {s : State} {rest : List BinEvent} (h : s.batch.binEvents = .inserted :: rest) :
    exec .binInsertion s =
      .next { s with batch := { s.batch with binEvents := rest, tareSettle := some s.time } } := by
  show execBinInsertion s = _
  unfold execBinInsertion
  rw [h]

theorem exec_tareSettleEnd {s : State} {since : Nat} (h : s.batch.tareSettle = some since)
    (ht : since + 1000000 ≤ s.time) : exec .tareSettleEnd s = .next { s with batch := { s.batch with
      tareSettle := none
      massBefore := if s.interlock.binIn then some s.massSample else s.batch.massBefore } } := by
  have hover : s.tareOver = true := by
    unfold State.tareOver
    rw [h]
    exact decide_eq_true ht
  show execTareSettleEnd s = _
  unfold execTareSettleEnd
  rw [if_pos hover]

/-- Settles O52. -/
theorem massSamplesAndSettles : Obligations.MassSamplesAndSettles := by
  refine fun s => ⟨fun rest h => ⟨fun hidle => ?_, fun hother => ?_⟩, fun rest h => exec_massAfterSettleStart h,
    fun since h ht hs => exec_massAfterSettleEnd_unsecured h ht hs, fun rest h => exec_binInsertion h,
    fun since h ht => ⟨fun hbin => ?_, fun hbin => ?_⟩⟩
  · have hlost := BatchUnit.takeLost_idle (u := { s.batch with securedEvents := rest }) hidle s.massSample
    rw [exec_massBeforeSample h, hlost]
    rfl
  · have hlost := BatchUnit.takeLost_of_not_idle (u := { s.batch with securedEvents := rest }) hother s.massSample
    rw [exec_massBeforeSample h, hlost]
  · rw [exec_tareSettleEnd h ht, hbin]
    rfl
  · rw [exec_tareSettleEnd h ht, hbin]
    rfl

end Sys2Proof.Machine
end

section
/-! Retirement (R106, R138 to R140): the records become summaries, and the six youngest of these stay. -/

namespace Sys2Proof.Machine

/-! ## The retired queue (R139, R140) -/

theorem State.summaryOf_eq (s : State) (r : BatchRecord) : s.summaryOf r = s.retiredAs r false := by
  unfold State.summaryOf State.retiredAs
  rw [Bool.decide_and]

/-- A record retired joins the queue, with the overrun flag if the queue is full (R140). -/
theorem State.appendSummary_summaryOf (s : State) {queue : List Summary} (h : queue.length ≤ 6) (r : BatchRecord) :
    appendSummary queue (s.summaryOf r) =
      (queue ++ [s.retiredAs r (decide (6 ≤ queue.length))]).drop (queue.length - 5) := by
  unfold appendSummary
  rw [State.summaryOf_eq]
  split
  next hroom =>
    have hroom : queue.length < 6 := hroom
    rw [decide_eq_false (Nat.not_le.2 hroom), Nat.sub_eq_zero_of_le (Nat.le_of_lt_succ hroom)]
    rfl
  next hfull =>
    have hlen : queue.length = 6 := le_antisymm h (not_lt.1 hfull)
    rw [hlen, List.drop_append_of_le_length (by omega)]
    rfl

/-- Of a queue and the summaries of records, the six youngest stay (R140). -/
theorem State.foldl_appendSummary (s : State) (records : List BatchRecord) : ∀ queue : List Summary, queue.length ≤ 6 →
    (records.map s.summaryOf).foldl appendSummary queue =
      (queue ++ records.mapIdx fun j r => s.retiredAs r (decide (6 ≤ queue.length + j))).drop
        (queue.length + records.length - 6) := by
  induction records with
  | nil =>
    intro queue h
    rw [List.mapIdx_nil, List.append_nil, List.length_nil, Nat.add_zero, Nat.sub_eq_zero_of_le h]
    rfl
  | cons r rest ih =>
    intro queue h
    have hlen : (appendSummary queue (s.summaryOf r)).length = min (queue.length + 1) 6 := by
      rw [State.appendSummary_summaryOf s h, List.length_drop, List.length_append, List.length_singleton]
      omega
    have hflags : (rest.mapIdx fun j x => s.retiredAs x (decide (6 ≤ min (queue.length + 1) 6 + j))) =
        rest.mapIdx fun j x => s.retiredAs x (decide (6 ≤ queue.length + (j + 1))) := by
      congr 1
      funext j x
      congr 2
      rw [eq_iff_iff]
      omega
    rw [List.map_cons, List.foldl_cons, ih _ (by omega), hlen, hflags, State.appendSummary_summaryOf s h,
      ← List.drop_append_of_le_length (by simp; omega), List.drop_drop, List.append_assoc, List.mapIdx_cons]
    congr 1
    rw [List.length_cons]
    omega

/-! ## RETIREMENT (R106, R138) -/

/-- The part as a bin removal reaches it: the tare settle ends (R106). -/
def State.binTaken (s : State) (rest : List BinEvent) : State :=
  { s with batch := { s.batch with binEvents := rest, tareSettle := none } }

theorem exec_retirement {s : State} {rest : List BinEvent} (h : s.batch.binEvents = .removed :: rest) :
    exec .retirement s = .next (s.binTaken rest).retire := by
  show execRetirement s = _
  unfold execRetirement
  rw [h]
  rfl

theorem State.retire_of_empty {s : State} (h : s.batch.records = []) : s.retire = s := by
  unfold State.retire
  rw [h]
  rfl

/-- A retirement whole: the summaries, the empty table and mix, the reservations broken, and the notices (R136, R138 to
R140). -/
theorem State.retire_retires {s : State} (hsome : s.batch.records ≠ []) (hq : s.batch.retired.length ≤ 6) :
    s.BatchEvent s.retire ∧ s.retire.link = s.link ∧
    s.retire.batch = { s.batch with
      records := [], mix := .empty, finished := false
      retired := s.queueAndSummaries.drop (s.queueAndSummaries.length - 6)
      reservations := s.retire.batch.reservations } ∧
    (∀ q, s.retire.batch.reservations.get q = (s.batch.reservations.get q).brokenBy fun _ => true) ∧
    s.Notifies s.retire fun n q => n = .retired ∨ (n = .reservationLost ∧ s.LosesReservation (fun _ _ => true) q) := by
  have hretired : s.retireRecords.batch = { s.batch with
      records := [], mix := .empty, finished := false
      retired := s.queueAndSummaries.drop (s.queueAndSummaries.length - 6) } := by
    have hlen : s.queueAndSummaries.length = s.batch.retired.length + s.batch.records.length := by
      simp [State.queueAndSummaries]
    rw [hlen]
    unfold State.retireRecords State.queueAndSummaries
    rw [State.foldl_appendSummary s _ _ hq]
  have hretire : s.retire = (s.retireRecords.breakReservations fun _ _ => true).postAll .retired :=
    if_neg fun he => hsome (List.isEmpty_iff.1 he)
  obtain ⟨hres, hbatch, hnotes⟩ := s.retireRecords.breakReservations_breaks fun _ _ => true
  have hlost : s.Notifies (s.retireRecords.breakReservations fun _ _ => true) fun n q =>
      n = .reservationLost ∧ s.LosesReservation (fun _ _ => true) q := hnotes.congr rfl rfl
  have hevent : s.BatchEvent s.retireRecords := rfl
  rw [hretire, State.postAll_batch, State.postAll_link, State.breakReservations_link]
  exact ⟨(hevent.trans (State.batchEvent_breakReservations _ _)).trans (State.batchEvent_postAll _ _), rfl,
    hbatch.trans (by rw [hretired]), hres, (hlost.trans (State.notifies_postAll _ .retired)).iff fun n q => or_comm⟩

/-- Settles O54: what becomes of the queue is an induction over the records that are retired. -/
theorem retirementEmptiesTheTable : Obligations.RetirementEmptiesTheTable := by
  refine fun s rest h => ⟨fun hempty => ?_, fun hsome hq => ?_⟩
  · rw [exec_retirement h, State.retire_of_empty (s := s.binTaken rest) hempty]
    rfl
  · obtain ⟨hevent, hlink, hbatch, hres, hnotes⟩ := State.retire_retires (s := s.binTaken rest) hsome hq
    have hexec := exec_retirement h
    generalize (s.binTaken rest).retire = t at *
    have hnotes := hnotes.congr (s' := s) rfl rfl
    refine ⟨t, hexec, ?_, hnotes.ports, hbatch,
      State.breaks_of_brokenBy hres fun q hlost => hnotes.posted (.inr ⟨rfl, hlost⟩),
      fun q => hnotes.posted (.inl rfl), fun n q => ?_⟩
    · unfold State.BatchEvent at hevent
      rw [hlink] at hevent
      exact hevent
    · refine (hnotes.posts n q).trans (or_congr_right (or_congr_right (and_congr_right fun _ => ?_)))
      exact State.losesReservation_iff (s := s) (hit := fun _ _ => true) (hres q)

end Sys2Proof.Machine
end

section
/-! The batch law (R101, R119, R120, R123, R128, R134, R140) in its parts, and what each operation of the batch unit
keeps of them. -/

namespace Sys2Proof.Machine

/-! ## The parts of the law -/

/-- What a record keeps whatever the requirements are: a cured-at while CURED, and its counts in their ranges (R102). -/
def BatchRecord.CountsFit (r : BatchRecord) : Prop :=
  (r.curedAt ≠ none ↔ r.state = .cured) ∧ r.dose ≤ Config.counterTop ∧ r.grind ≤ Config.counterTop

/-- The sequence numbers of the table, oldest first (R101). -/
def BatchUnit.seqs (u : BatchUnit) : List Word := u.records.map (·.seq)

/-- The part of the law that looks neither at the requirements nor at the mix and the finished flag. -/
structure BatchUnit.Sound (u : BatchUnit) : Prop where
  size : u.seqs.length ≤ Config.batchSize
  rising : u.seqs.Pairwise (· < ·)
  taken : ∀ n ∈ u.seqs, n ≠ 0 ∧ (u.nextSeq = 0 ∨ n < u.nextSeq)
  counts : ∀ r ∈ u.records, r.CountsFit
  queue : u.retired.length ≤ Config.retiredSize
  reserved : ∀ p seq, u.reservations.get p = .intact seq → seq ∈ u.seqs
  dryRun : u.dryRun ≤ Config.dryRunTop

/-- The law but for the finished flag and the states of the records that the test names, which are still to be judged. -/
structure State.BatchReady (s : State) (which : Nat → Bool) : Prop where
  sound : s.batch.Sound
  mix : s.batch.mix = .empty ↔ s.batch.records = []
  states : ∀ (k : Nat) (r : BatchRecord), s.batch.records[k]? = some r → which k = false → r.state = s.stateFor r

/-- An INTACT reservation names a number of the table (R134). -/
theorem BatchUnit.sound_iff (u : BatchUnit) (v : Reservation) :
    u.sound v = true ↔ ∀ seq, v = .intact seq → seq ∈ u.seqs := by
  unfold BatchUnit.sound BatchUnit.seqs
  cases v with
  | intact n => simp
  | none | broken n => simp

theorem State.batchLawful_iff (s : State) :
    s.BatchLawful ↔ (s.BatchReady fun _ => false) ∧ s.batch.finished = s.batch.finishedWanted := by
  constructor
  · rintro ⟨hsize, hrising, hrecords, hqueue, hmix, hfinished, hreserved, hdry⟩
    refine ⟨⟨⟨by simpa [BatchUnit.seqs] using hsize, List.pairwise_map.2 hrising, fun n hn => ?_, fun r hr => ?_, hqueue,
      fun p => (s.batch.sound_iff _).1 (hreserved p), hdry⟩, hmix, fun k r hr _ => ?_⟩, hfinished⟩
    · obtain ⟨r, hr, rfl⟩ := List.mem_map.1 hn
      obtain ⟨-, -, -, -, hzero, hnext⟩ := hrecords r hr
      exact ⟨hzero, hnext⟩
    · obtain ⟨-, hcured, hdose, hgrind, -⟩ := hrecords r hr
      exact ⟨hcured, hdose, hgrind⟩
    · exact (hrecords r (List.mem_of_getElem? hr)).1
  · rintro ⟨⟨⟨hsize, hrising, htaken, hcounts, hqueue, hreserved, hdry⟩, hmix, hstates⟩, hfinished⟩
    refine ⟨by simpa [BatchUnit.seqs] using hsize, List.pairwise_map.1 hrising, fun r hr => ?_, hqueue, hmix, hfinished,
      fun p => (s.batch.sound_iff _).2 (hreserved p), hdry⟩
    obtain ⟨k, hk⟩ := List.mem_iff_getElem?.1 hr
    obtain ⟨hcured, hdose, hgrind⟩ := hcounts r hr
    obtain ⟨hzero, hnext⟩ := htaken r.seq (List.mem_map_of_mem hr)
    exact ⟨hstates k r hk rfl, hcured, hdose, hgrind, hzero, hnext⟩

theorem State.stateFor_congr {s t : State} (hd : t.tuning.get 3 = s.tuning.get 3) (hg : t.tuning.get 4 = s.tuning.get 4)
    (r : BatchRecord) : t.stateFor r = s.stateFor r := by
  rw [State.stateFor_eq_cureState, State.stateFor_eq_cureState]
  unfold State.cureState
  rw [hd, hg]

theorem State.stateFor_of_tuning_eq {s t : State} (h : t.tuning = s.tuning) (r : BatchRecord) :
    t.stateFor r = s.stateFor r :=
  State.stateFor_congr (by rw [h]) (by rw [h]) r

/-- In a lawful batch unit the records may be judged afresh, whichever they are and under whatever requirements. -/
theorem State.batchReady_unjudged {s t : State} (h : s.BatchLawful) (hb : t.batch = s.batch) :
    t.BatchReady fun _ => true := by
  obtain ⟨⟨hsound, hmix, -⟩, -⟩ := s.batchLawful_iff.1 h
  exact ⟨hb ▸ hsound, hb ▸ hmix, fun _ _ _ h => Bool.noConfusion h⟩

/-! ## Records written in their places -/

/-- Records rewritten in their places, with their numbers and with counts that fit, leave a sound unit. -/
theorem BatchUnit.Sound.with_records {u : BatchUnit} (h : u.Sound) {l : List BatchRecord}
    {g : Nat → BatchRecord → BatchRecord} (hl : ∀ k : Nat, l[k]? = u.records[k]?.map (g k))
    (hseq : ∀ k r, (g k r).seq = r.seq) (hcounts : ∀ k r, r.CountsFit → (g k r).CountsFit) :
    ({ u with records := l } : BatchUnit).Sound := by
  have hseqs : ({ u with records := l } : BatchUnit).seqs = u.seqs := List.ext_getElem? fun k => by
    show (l.map (·.seq))[k]? = (u.records.map (·.seq))[k]?
    rw [List.getElem?_map, List.getElem?_map, hl, Option.map_map]
    exact congrArg (Option.map · _) (funext (hseq k))
  refine ⟨hseqs ▸ h.size, hseqs ▸ h.rising, hseqs ▸ h.taken, fun r' hr' => ?_, h.queue, hseqs ▸ h.reserved, h.dryRun⟩
  obtain ⟨k, hk⟩ := List.mem_iff_getElem?.1 hr'
  obtain ⟨r, hr, rfl⟩ := Option.map_eq_some_iff.1 ((hl k).symm.trans hk)
  exact hcounts k r (h.counts r (List.mem_of_getElem? hr))

theorem records_eq_nil_iff_of_getElem? {l m : List BatchRecord} {g : Nat → BatchRecord → BatchRecord}
    (hl : ∀ k : Nat, l[k]? = m[k]?.map (g k)) : l = [] ↔ m = [] := by
  have hlen : l.length = 0 ↔ m.length = 0 := by
    rw [← Nat.le_zero, ← Nat.le_zero, ← List.getElem?_eq_none_iff, ← List.getElem?_eq_none_iff, hl,
      Option.map_eq_none_iff]
  rwa [List.length_eq_zero_iff, List.length_eq_zero_iff] at hlen

/-- Records rewritten in their places, those that the test does not name left as they stand. -/
theorem State.BatchReady.with_records {s : State} {which : Nat → Bool} (h : s.BatchReady fun _ => false)
    {l : List BatchRecord} {g : Nat → BatchRecord → BatchRecord} (hl : ∀ k : Nat, l[k]? = s.batch.records[k]?.map (g k))
    (hseq : ∀ k r, (g k r).seq = r.seq) (hcounts : ∀ k r, r.CountsFit → (g k r).CountsFit)
    (hkept : ∀ k r, which k = false → g k r = r) : (s.setRecords l).BatchReady which := by
  refine ⟨h.sound.with_records hl hseq hcounts, h.mix.trans (records_eq_nil_iff_of_getElem? hl).symm,
    fun k r' hr' hk => ?_⟩
  obtain ⟨r, hr, rfl⟩ := Option.map_eq_some_iff.1 ((hl k).symm.trans hr')
  rw [hkept k r hk]
  exact h.states k r hr rfl

/-- A reservation that is INTACT after an event was so before it (R136). -/
theorem Reservation.intact_of_brokenBy {v : Reservation} {hit : Word → Bool} {seq : Word}
    (h : v.brokenBy hit = .intact seq) : v = .intact seq := by
  cases v with
  | intact n =>
    unfold Reservation.brokenBy at h
    simp only at h
    split at h
    · cases h
    · exact h
  | none | broken n => cases h

/-- The reservations of a sound unit may be broken (R136). -/
theorem BatchUnit.Sound.with_broken {u v : BatchUnit} (h : u.Sound) {hit : Port → Word → Bool}
    (hv : v = { u with reservations := v.reservations })
    (hres : ∀ q, v.reservations.get q = (u.reservations.get q).brokenBy (hit q)) : v.Sound := by
  have hreserved : ∀ p seq, v.reservations.get p = .intact seq → seq ∈ u.seqs := fun p seq hp =>
    h.reserved p seq (Reservation.intact_of_brokenBy ((hres p).symm.trans hp))
  rw [hv]
  exact ⟨h.size, h.rising, h.taken, h.counts, h.queue, hreserved, h.dryRun⟩

/-! ## Cure, the mix and the finished flag (R119, R120, R123, R128) -/

theorem BatchRecord.CountsFit.credited {r : BatchRecord} (h : r.CountsFit) (s : State) {dose grind : Nat}
    (hd : dose ≤ Config.counterTop) (hg : grind ≤ Config.counterTop) : (s.credited r dose grind).CountsFit := by
  obtain ⟨hcured, -, -⟩ := h
  refine ⟨?_, hd, hg⟩
  unfold State.credited
  simp only
  split
  next hstate => rw [hstate]; exact hcured
  next hstate =>
    split
    next hnow => simp [hnow]
    next hnow => simp [hnow]

/-- An evaluation leaves every record in the state of R103 (R123). -/
theorem State.BatchReady.evaluate {s : State} {which : Nat → Bool} (h : s.BatchReady which) :
    (s.evaluate which).BatchReady fun _ => false := by
  have hbatch := s.evaluate_batch which
  have hl := s.getElem?_judgedRecords which
  refine ⟨?_, ?_, fun k r' hr' _ => ?_⟩
  · rw [hbatch]
    refine h.sound.with_records hl (fun k r => ?_) fun k r hr => ?_
    · split <;> rfl
    · have ⟨_, hdose, hgrind⟩ := hr
      split
      · exact hr.credited s hdose hgrind
      · exact hr
  · rw [hbatch]
    exact h.mix.trans (records_eq_nil_iff_of_getElem? hl).symm
  · rw [hbatch] at hr'
    rw [State.stateFor_of_tuning_eq (s.evaluate_tuning which)]
    obtain ⟨r, hr, rfl⟩ := Option.map_eq_some_iff.1 ((hl k).symm.trans hr')
    cases hk : which k with
    | true => exact (s.stateFor_eq_cureState (s.credited r r.dose r.grind)).symm
    | false => exact h.states k r hr hk

/-- The judging of the finished flag completes the law (R128). -/
theorem State.BatchReady.judgeFinished {s : State} (h : s.BatchReady fun _ => false) : s.judgeFinished.BatchLawful := by
  have hbatch := s.judgeFinished_batch
  obtain ⟨⟨hsize, hrising, htaken, hcounts, hqueue, hreserved, hdry⟩, hmix, hstates⟩ := h
  rw [State.batchLawful_iff]
  rw [hbatch]
  refine ⟨⟨?_, ?_, ?_⟩, rfl⟩
  · rw [hbatch]
    exact ⟨hsize, hrising, htaken, hcounts, hqueue, hreserved, hdry⟩
  · rw [hbatch]
    exact hmix
  · rw [hbatch]
    intro k r hr hk
    rw [State.stateFor_of_tuning_eq s.judgeFinished_tuning]
    exact hstates k r hr hk

/-- Records judged and then the finished flag: the law holds (R123, R128). -/
theorem State.BatchReady.judged {s : State} {which : Nat → Bool} (h : s.BatchReady which) :
    (s.evaluate which).judgeFinished.BatchLawful := h.evaluate.judgeFinished

theorem State.BatchReady.judgeDryRun {s : State} (h : s.BatchReady fun _ => false) (x : HumidityReading) :
    (s.judgeDryRun x).BatchReady fun _ => false := by
  obtain ⟨⟨hsize, hrising, htaken, hcounts, hqueue, hreserved, -⟩, hmix, hstates⟩ := h
  refine ⟨⟨hsize, hrising, htaken, hcounts, hqueue, hreserved, ?_⟩, hmix, hstates⟩
  show (if s.sampleIsDry x then min (s.batch.dryRun + 1) Config.dryRunTop else 0) ≤ Config.dryRunTop
  split
  · exact Nat.min_le_right _ _
  · exact Nat.zero_le _

/-- A wet mix that dries was not EMPTY and is not (R120). -/
theorem State.BatchReady.judgeMix {s : State} (h : s.BatchReady fun _ => false) :
    s.judgeMix.BatchReady fun _ => false := by
  unfold State.judgeMix
  split
  next hwet =>
    obtain ⟨⟨hsize, hrising, htaken, hcounts, hqueue, hreserved, hdry⟩, hmix, hstates⟩ := h
    refine ⟨⟨hsize, hrising, htaken, hcounts, hqueue, hreserved, hdry⟩, iff_of_false nofun ?_, hstates⟩
    rw [State.postAll_batch]
    intro hempty
    rw [hmix.2 hempty] at hwet
    exact absurd hwet.1 (by decide)
  next => exact h

/-! ## The re-wetting, an opening and a setting back (R104, R109 to R112) -/

/-- A re-wetting after the record at a position has been written (R109). -/
theorem State.batchLawful_rewet {s : State} {k : Nat} (hsound : s.batch.Sound) (hsome : s.batch.records ≠ [])
    (hstates : ∀ (j : Nat) (r : BatchRecord), s.batch.records[j]? = some r → j ≠ k → r.state = s.stateFor r) :
    (s.rewet k).BatchLawful := by
  obtain ⟨hsize, hrising, htaken, hcounts, hqueue, hreserved, -⟩ := hsound
  have hready : s.wetted.BatchReady fun j => j == k :=
    ⟨⟨hsize, hrising, htaken, hcounts, hqueue, hreserved, Nat.zero_le _⟩, iff_of_false nofun hsome,
      fun j r hr hj => hstates j r hr (by simpa using hj)⟩
  exact hready.judged

/-- The number that an opening takes is above those of the table and below the next (R101, R104). -/
theorem BatchUnit.takenSeq_fits {u : BatchUnit} (h : u.Sound) (hopen : u.mayOpen = true) :
    u.takenSeq ≠ 0 ∧ (u.takenSeq + 1 = 0 ∨ u.takenSeq < u.takenSeq + 1) ∧ ∀ n ∈ u.seqs, n < u.takenSeq := by
  obtain ⟨-, hseq⟩ := u.mayOpen_iff.1 hopen
  unfold BatchUnit.takenSeq
  by_cases hnext : u.nextSeq = 0
  · rw [if_pos hnext]
    have hempty : u.seqs = [] := by
      unfold BatchUnit.seqs
      rw [hseq.resolve_left (not_not_intro hnext)]
      rfl
    exact ⟨by decide, by decide, by simp [hempty]⟩
  · rw [if_neg hnext]
    refine ⟨hnext, by bv_omega, fun n hn => (h.taken n hn).2.resolve_left hnext⟩

theorem State.sound_opening {s : State} (h : s.batch.Sound) (hopen : s.batch.mayOpen = true) (mass : Option Nat) :
    (s.opening mass).batch.Sound := by
  obtain ⟨hzero, hnext, habove⟩ := BatchUnit.takenSeq_fits h hopen
  obtain ⟨hroom, -⟩ := s.batch.mayOpen_iff.1 hopen
  have hseqs : (s.opening mass).batch.seqs = s.batch.seqs ++ [s.batch.takenSeq] := by
    rw [State.opening_batch]
    exact List.map_append
  refine ⟨?_, ?_, ?_, ?_, ?_, ?_, ?_⟩
  · rw [hseqs]
    rw [List.length_append, BatchUnit.seqs, List.length_map]
    exact hroom
  · rw [hseqs, List.pairwise_append]
    exact ⟨h.rising, List.pairwise_singleton _ _, fun n hn m hm => List.mem_singleton.1 hm ▸ habove n hn⟩
  · rw [hseqs, State.opening_batch]
    intro n hn
    obtain hn | hn := List.mem_append.1 hn
    · exact ⟨(h.taken n hn).1, hnext.imp id fun hlt => BitVec.lt_trans (habove n hn) hlt⟩
    · rw [List.mem_singleton.1 hn]
      exact ⟨hzero, hnext⟩
  · rw [State.opening_batch]
    intro r hr
    obtain hr | hr := List.mem_append.1 hr
    · exact h.counts r hr
    · rw [List.mem_singleton.1 hr]
      exact ⟨iff_of_false (not_not_intro rfl) nofun, Nat.zero_le _, Nat.zero_le _⟩
  · rw [State.opening_batch]
    exact h.queue
  · rw [hseqs, State.opening_batch]
    exact fun p seq hp => List.mem_append_left _ (h.reserved p seq hp)
  · rw [State.opening_batch]
    exact h.dryRun

/-- An opening that R108 allows keeps the law (R104, R110). -/
theorem State.batchLawful_openRecord {s : State} (h : s.BatchLawful) (hopen : s.batch.mayOpen = true)
    (mass : Option Nat) : (s.openRecord mass).BatchLawful := by
  obtain ⟨⟨hsound, -, hstates⟩, -⟩ := s.batchLawful_iff.1 h
  have hrecords : (s.opening mass).batch.records = s.batch.records ++ [s.opened mass] := by rw [State.opening_batch]
  have htuning : (s.opening mass).tuning = s.tuning := by rw [s.batchEvent_opening mass]
  rw [State.openRecord_eq]
  refine State.batchLawful_rewet (State.sound_opening hsound hopen mass) (by simp [hrecords]) fun j r hr hj => ?_
  rw [State.stateFor_of_tuning_eq htuning]
  rw [hrecords] at hr
  obtain ⟨hlt, -⟩ := List.getElem?_eq_some_iff.1 hr
  rw [List.length_append, List.length_singleton] at hlt
  rw [List.getElem?_append_left (by omega)] at hr
  exact hstates j r hr rfl

theorem BatchRecord.countsFit_setBack (r : BatchRecord) (mass : Option Nat) : (r.setBack mass).CountsFit :=
  ⟨iff_of_false (not_not_intro rfl) nofun, Nat.zero_le _, Nat.zero_le _⟩

/-- The youngest set back with its reservations broken leaves a sound unit (R111, R112, R136). -/
theorem State.sound_settingBack {s : State} (h : s.batch.Sound) {older : List BatchRecord} {y : BatchRecord}
    (hy : s.batch.records = older ++ [y]) (mass : Option Nat) : (s.settingBack older y mass).batch.Sound := by
  obtain ⟨hbatch, hres, -⟩ := s.settingBack_sets older y mass
  have hset : ({ s.batch with records := older ++ [y.setBack mass] } : BatchUnit).Sound := by
    refine h.with_records (g := fun k r => if k = older.length then r.setBack mass else r) (fun k => ?_)
      (fun k r => ?_) fun k r hr => ?_
    · rw [hy]
      obtain ⟨hk, heq⟩ | ⟨rfl, hat, hat'⟩ := getElem?_append_singleton_cases older y (y.setBack mass) k
      · rw [← heq]
        simp [hk]
      · rw [hat, hat']
        simp
    · split <;> rfl
    · split
      · exact r.countsFit_setBack mass
      · exact hr
  exact hset.with_broken hbatch hres

/-- The youngest set back keeps the law (R111, R112). -/
theorem State.batchLawful_resetYoungest {s : State} (h : s.BatchLawful) (f : Option Nat → Option Nat) :
    (s.resetYoungest f).BatchLawful := by
  obtain ⟨⟨hsound, -, hstates⟩, -⟩ := s.batchLawful_iff.1 h
  obtain hempty | ⟨older, y, hy⟩ := List.eq_nil_or_concat' s.batch.records
  · have hnone : s.resetYoungest f = s := by
      unfold State.resetYoungest
      simp [hempty]
    rwa [hnone]
  · obtain ⟨hbatch, -, -⟩ := s.settingBack_sets older y (f y.mass)
    have hrecords : (s.settingBack older y (f y.mass)).batch.records = older ++ [y.setBack (f y.mass)] := by rw [hbatch]
    have htuning : (s.settingBack older y (f y.mass)).tuning = s.tuning := by rw [s.batchEvent_settingBack]
    rw [State.resetYoungest_eq hy]
    refine State.batchLawful_rewet (State.sound_settingBack hsound hy _) (by simp [hrecords]) fun j r hr hj => ?_
    rw [State.stateFor_of_tuning_eq htuning]
    obtain ⟨-, heq⟩ | ⟨hk, -⟩ := getElem?_append_singleton_cases older y (y.setBack (f y.mass)) j
    · rw [hrecords, ← heq, ← hy] at hr
      exact hstates j r hr rfl
    · exact absurd hk hj

end Sys2Proof.Machine
end

section
/-! Every operation of an event keeps the batch law (R101, R119, R120, R123, R128, R134, R140). -/

namespace Sys2Proof.Machine

/-! ## What an event keeps -/

/-- From the first state to the second the batch law is kept. -/
def State.BatchKept (s t : State) : Prop := s.BatchLawful → t.BatchLawful

theorem State.BatchKept.refl (s : State) : s.BatchKept s := id

theorem State.BatchKept.trans {s t u : State} (h : s.BatchKept t) (k : t.BatchKept u) : s.BatchKept u := k ∘ h

theorem State.batchKept_ite {c : Prop} [Decidable c] {s t u : State} (ht : s.BatchKept t) (hu : s.BatchKept u) :
    s.BatchKept (if c then t else u) := by
  split
  · exact ht
  · exact hu

/-- The batch unit but for its mass samples, its settles and the events handed to it, which the law does not look at. -/
def BatchUnit.table (u : BatchUnit) : BatchUnit :=
  { u with massBefore := none, tareSettle := none, settle := .idle, securedEvents := [], binEvents := [] }

/-- What the batch law looks at stands: the batch unit's table, and the two requirements. -/
structure State.BatchStands (s t : State) : Prop where
  table : t.batch.table = s.batch.table
  dose : t.tuning.get 3 = s.tuning.get 3
  grind : t.tuning.get 4 = s.tuning.get 4

theorem State.BatchStands.of_eq {s t : State} (hb : t.batch = s.batch) (ht : t.tuning = s.tuning) : s.BatchStands t :=
  ⟨by rw [hb], by rw [ht], by rw [ht]⟩

theorem State.BatchStands.of_table {s t : State} (hb : t.batch.table = s.batch.table) (ht : t.tuning = s.tuning) :
    s.BatchStands t := ⟨hb, by rw [ht], by rw [ht]⟩

theorem State.BatchStands.kept {s t : State} (h : s.BatchStands t) : s.BatchKept t := by
  intro hs
  obtain ⟨hrecords, hnext, -, -, -, hmix, hdry, hfinished, hres, hretired, -, -⟩ := BatchUnit.mk.inj h.table
  have hstate := State.stateFor_congr h.dose h.grind
  unfold State.BatchLawful State.RecordLawful BatchUnit.sound BatchUnit.finishedWanted at hs ⊢
  simp only [hrecords, hnext, hretired, hmix, hfinished, hres, hdry, hstate]
  exact hs

theorem State.BatchStands.trans {s t u : State} (h : s.BatchStands t) (k : t.BatchStands u) : s.BatchStands u :=
  ⟨k.table.trans h.table, k.dose.trans h.dose, k.grind.trans h.grind⟩

/-- An event that leaves the batch unit and the tuning table alone. -/
theorem State.BatchKept.of_eq {s t : State} (hb : t.batch = s.batch) (ht : t.tuning = s.tuning) : s.BatchKept t :=
  (State.BatchStands.of_eq hb ht).kept

/-- The reply to a request follows what the request has done. -/
theorem State.BatchKept.answer {s t : State} (h : s.BatchKept t) (p : Port) (st : Status) (data : List Byte) :
    s.BatchKept (t.answer p st data) := h.trans (.of_eq rfl rfl)

/-! ## The secured condition (R49) -/

theorem State.batchStands_deriveSecured (s : State) : s.BatchStands s.deriveSecured := by
  refine .of_table ?_ s.deriveSecured_tuning
  unfold State.deriveSecured
  split
  · rfl
  · split
    · exact (congrArg BatchUnit.table (s.gained_batch s.interlock) :)
    · exact (congrArg BatchUnit.table (s.lost_batch s.interlock) :)

/-! ## The tuning table (R126, R169, R171, R172) -/

theorem get_tuning_set (t : Vector Nat 13) (k j : Fin 13) (v : Nat) :
    (t.set k v).get j = if k = j then v else t.get j := by
  show (t.set (k : Nat) v k.isLt)[(j : Nat)] = if k = j then v else t[(j : Nat)]
  rw [Vector.getElem_set]
  simp only [Fin.ext_iff]

/-- A tuning value that is no requirement is not what the batch law looks at. -/
theorem State.batchStands_setTuning (s : State) {k : Fin 13} (h3 : k ≠ 3) (h4 : k ≠ 4) (v : Nat) :
    s.BatchStands (s.setTuning k v) :=
  ⟨rfl, (get_tuning_set _ _ _ _).trans (if_neg h3), (get_tuning_set _ _ _ _).trans (if_neg h4)⟩

theorem State.batchKept_writeTuning (s : State) (k : Fin 13) (v : Nat) : s.BatchKept (s.writeTuning k v) := by
  by_cases h34 : k = 3 ∨ k = 4
  · rw [State.writeTuning_requirement s h34]
    exact fun hs => (State.batchReady_unjudged (t := s.setTuning k v) hs rfl).judged
  · obtain ⟨h3, h4⟩ := not_or.1 h34
    have hset := (s.batchStands_setTuning h3 h4 v).kept
    unfold State.writeTuning
    simp only
    refine State.batchKept_ite (hset.trans (.of_eq (State.reportPass_batch _) (State.reportPass_tuning _))) ?_
    rw [if_neg h34]
    exact State.batchKept_ite (hset.trans (.of_eq rfl rfl)) hset

theorem State.batchStands_applyBudget (s : State) (v : Nat) : s.BatchStands (s.applyBudget v) :=
  (s.batchStands_setTuning (by decide : (0 : Fin 13) ≠ 3) (by decide) v).trans
    (.of_eq (State.reportPass_batch _) (State.reportPass_tuning _))

theorem State.batchStands_takeBudgetWrite (s : State) : s.BatchStands s.takeBudgetWrite := by
  unfold State.takeBudgetWrite
  split
  next p v rest _ =>
    unfold State.judgeBudget
    split
    · exact State.BatchStands.trans (t := { s with arbiter := { s.arbiter with budgetWrites := rest } })
        (.of_eq rfl rfl) ((State.batchStands_applyBudget _ v).trans (.of_eq rfl rfl))
    · exact .of_eq rfl rfl
  next => exact .of_eq rfl rfl

theorem State.batchStands_takeRequests (n : Nat) (s : State) : s.BatchStands (State.takeRequests n s) := by
  induction n generalizing s with
  | zero => exact .of_eq rfl rfl
  | succ n ih => exact (State.BatchStands.of_eq s.takeRequest_batch s.takeRequest_tuning).trans (ih s.takeRequest)

theorem State.batchStands_takeBudgetWrites (n : Nat) (s : State) : s.BatchStands (State.takeBudgetWrites n s) := by
  induction n generalizing s with
  | zero => exact .of_eq rfl rfl
  | succ n ih => exact s.batchStands_takeBudgetWrite.trans (ih s.takeBudgetWrite)

theorem State.batchStands_settleArbiter (s : State) : s.BatchStands s.settleArbiter :=
  (s.batchStands_takeRequests _).trans (State.batchStands_takeBudgetWrites _ _)

/-! ## The dose sample and the grind credit (R117 to R121) -/

/-- Counts credited to every record leave the records to be judged (R118, R121). -/
theorem State.batchReady_credit {s : State} (h : s.BatchLawful) {f : BatchRecord → BatchRecord}
    (hseq : ∀ r, (f r).seq = r.seq) (hcounts : ∀ r : BatchRecord, r.CountsFit → (f r).CountsFit) :
    (s.setRecords (s.batch.records.map f)).BatchReady fun _ => true :=
  (s.batchLawful_iff.1 h).1.with_records (g := fun _ => f) (fun _ => List.getElem?_map) (fun _ => hseq)
    (fun _ => hcounts) fun _ _ h => Bool.noConfusion h

theorem State.batchKept_takeSample (s : State) (x : HumidityReading) : s.BatchKept (s.takeSample x) := by
  intro hs
  have hcredited : s.creditDose.BatchReady fun _ => true :=
    State.batchReady_credit hs (f := (·.addDose s.doseGain)) (fun _ => rfl) fun _ ⟨hcured, _, hgrind⟩ =>
      ⟨hcured, Nat.min_le_right _ _, hgrind⟩
  exact ((hcredited.evaluate.judgeDryRun x).judgeMix).judgeFinished

theorem State.batchKept_takeRevolution (s : State) : s.BatchKept s.takeRevolution := fun hs =>
  (State.batchReady_credit hs (f := BatchRecord.addGrind) (fun _ => rfl) fun _ ⟨hcured, hdose, _⟩ =>
    ⟨hcured, hdose, Nat.min_le_right _ _⟩).judged

/-! ## Closures and retirement (R108 to R112, R138 to R140) -/

theorem State.batchKept_judgeClosure (s : State) (after : MassSample) : s.BatchKept (s.judgeClosure after) := by
  intro hs
  unfold State.judgeClosure
  split
  · unfold State.unmeasuredClosure
    split
    next hempty =>
      have hopen : s.batch.mayOpen = true := by
        have hnil := List.isEmpty_iff.1 hempty
        exact s.batch.mayOpen_iff.2 ⟨by rw [hnil]; decide, .inr hnil⟩
      exact State.batchLawful_openRecord hs hopen none
    next => exact State.batchLawful_resetYoungest hs id
  · split
    · exact hs
    · split
      next hopen => exact State.batchLawful_openRecord hs hopen _
      next => exact State.batchLawful_resetYoungest hs _

/-- No reservation is INTACT after an event that breaks them all (R136). -/
theorem Reservation.not_intact_brokenBy_all (v : Reservation) (seq : Word) :
    v.brokenBy (fun _ => true) ≠ .intact seq := by
  cases v <;> nofun

theorem State.batchKept_retire (s : State) : s.BatchKept s.retire := by
  intro hs
  by_cases hempty : s.batch.records = []
  · rwa [State.retire_of_empty hempty]
  · obtain ⟨⟨hsound, -, -⟩, -⟩ := s.batchLawful_iff.1 hs
    obtain ⟨-, -, hbatch, hres, -⟩ := State.retire_retires hempty hsound.queue
    rw [State.batchLawful_iff]
    generalize s.retire = t at hbatch hres
    have hrecords : t.batch.records = [] := by rw [hbatch]
    have hseqs : t.batch.seqs = [] := congrArg (List.map _) hrecords
    have hqueue : t.batch.retired.length ≤ 6 := by
      rw [hbatch]
      show (s.queueAndSummaries.drop (s.queueAndSummaries.length - 6)).length ≤ 6
      rw [List.length_drop]
      omega
    have hreserved : ∀ p seq, t.batch.reservations.get p ≠ .intact seq := fun p seq => by
      rw [hres]
      exact Reservation.not_intact_brokenBy_all _ seq
    have hfinished : t.batch.finishedWanted = false := by simp [BatchUnit.finishedWanted, hrecords]
    refine ⟨⟨⟨?_, ?_, ?_, ?_, hqueue, fun p seq hp => absurd hp (hreserved p seq), ?_⟩, iff_of_true ?_ hrecords, ?_⟩, ?_⟩
    · simp [hseqs]
    · simp [hseqs]
    · simp [hseqs]
    · simp [hrecords]
    · rw [hbatch]
      exact hsound.dryRun
    · rw [hbatch]
    · simp [hrecords]
    · rw [hfinished, hbatch]

/-! ## Annotation and reservations (R131, R133 to R136, R142) -/

theorem BatchRecord.CountsFit.annotate {r : BatchRecord} (h : r.CountsFit) (w : AnnotationWrite) :
    (r.annotate w).CountsFit := h

/-- A write of an annotation, at whatever position, keeps the law (R127, R131). -/
theorem State.batchKept_annotate (s : State) (k : Nat) (w : AnnotationWrite) (hit : Port → Word → Bool) :
    s.BatchKept (s.annotate k w hit) := by
  intro hs
  obtain ⟨hbatch, hres⟩ := s.annotating_batch k w hit
  have htuning : (s.annotating k w hit).tuning = s.tuning := by rw [s.batchEvent_annotating]
  have hwritten : (s.setRecords (s.batch.records.modify k (·.annotate w))).BatchReady fun j => j == k :=
    (s.batchLawful_iff.1 hs).1.with_records (g := fun j r => if j = k then r.annotate w else r)
      (getElem?_annotated _ k w) (fun j r => by split <;> rfl)
      (fun j r hr => by split; exacts [hr.annotate w, hr]) fun j r hj => if_neg (by simpa using hj)
  rw [State.annotate_eq]
  generalize s.annotating k w hit = u at hbatch hres htuning
  have hready : u.BatchReady fun j => j == k := by
    refine ⟨hwritten.sound.with_broken hbatch hres, ?_, fun j r hr hj => ?_⟩
    · rw [hbatch]
      exact hwritten.mix
    · rw [hbatch] at hr
      rw [State.stateFor_of_tuning_eq htuning]
      exact hwritten.states j r hr hj
  exact hready.judged

/-- A reservation on a number of the table, or none, keeps the law (R132, R134). -/
theorem State.batchKept_setReservation (s : State) (p : Port) {v : Reservation} (hv : s.batch.sound v = true) :
    s.BatchKept (s.setReservation p v) := by
  rintro ⟨hsize, hrising, hrecords, hqueue, hmix, hfinished, hreserved, hdry⟩
  refine ⟨hsize, hrising, hrecords, hqueue, hmix, hfinished, fun q => ?_, hdry⟩
  show s.batch.sound ((s.setReservation p v).batch.reservations.get q) = true
  rw [State.reservation_setReservation]
  split
  · exact hv
  · exact hreserved q

theorem BatchUnit.sound_of_find {u : BatchUnit} {seq : Word} {k : Nat} (h : u.find seq = some k) :
    u.sound (.intact seq) = true := by
  unfold BatchUnit.find at h
  obtain ⟨hk, hseq, -⟩ := List.findIdx?_eq_some_iff_getElem.1 h
  exact List.any_eq_true.2 ⟨_, List.getElem_mem hk, hseq⟩

theorem State.batchKept_dropSummary (s : State) : s.BatchKept s.dropSummary := by
  rintro ⟨hsize, hrising, hrecords, hqueue, hmix, hfinished, hreserved, hdry⟩
  refine ⟨hsize, hrising, hrecords, ?_, hmix, hfinished, hreserved, hdry⟩
  show s.batch.retired.tail.length ≤ _
  rw [List.length_tail]
  exact (Nat.sub_le _ _).trans hqueue

theorem State.batchKept_takePortReset (s : State) (p : Port) : s.BatchKept (s.takePortReset p) := by
  have hentries : s.BatchKept (s.resetEntries p) := .of_eq (s.resetEntries_batch p) (s.resetEntries_tuning p)
  have hreserved := hentries.trans ((s.resetEntries p).batchKept_setReservation p (v := .none) rfl)
  rw [State.takePortReset_eq]
  refine hreserved.trans (.of_eq ?_ ?_) <;> simp [State.clearPort]

theorem State.batchKept_pokeWrite (s : State) (table entry w : Nat) (seq : Option Word) (value : Word) :
    s.BatchKept (s.pokeWrite table entry w seq value).1 := by
  obtain h | ⟨k, x, hit, h⟩ | ⟨k, v, -, h⟩ | h | ⟨v, -, h⟩ := s.pokeWrite_cases table entry w seq value <;> rw [h]
  · exact .refl s
  · exact s.batchKept_annotate k x hit
  · exact s.batchKept_writeTuning k v
  · exact s.batchStands_settleArbiter.kept
  · exact (s.batchStands_settleArbiter.trans (State.batchStands_applyBudget _ v)).kept

end Sys2Proof.Machine
end

section
/-! Every command keeps the batch law (R101, R119, R120, R123, R128, R134, R140): the most leave the batch unit and the
tuning table alone, and the rest move them by the operations above. -/

namespace Sys2Proof.Machine

/-! ## The requests that leave the batch unit and the tuning table alone -/

theorem State.batchKept_answer (s : State) (p : Port) (st : Status) (data : List Byte) :
    s.BatchKept (s.answer p st data) := .of_eq rfl rfl

theorem State.batchKept_takeStatus (s : State) (p : Port) (req : List Byte) : s.BatchKept (s.takeStatus p req) :=
  State.batchKept_ite (s.batchKept_answer _ _ _)
    (State.batchKept_ite (s.batchKept_answer _ _ _) (s.batchKept_answer _ _ _))

theorem State.batchKept_takeNoticeLevel (s : State) (p : Port) (req : List Byte) :
    s.BatchKept (s.takeNoticeLevel p req) := by
  unfold State.takeNoticeLevel
  split <;> exact .of_eq rfl rfl

theorem State.batchKept_takeAccessRead (s : State) (p : Port) (req : List Byte) :
    s.BatchKept (s.takeAccessRead p req) := by
  unfold State.takeAccessRead
  split <;> exact s.batchKept_answer _ _ _

theorem State.batchKept_takeAccessWrite (s : State) (p : Port) (req : List Byte) :
    s.BatchKept (s.takeAccessWrite p req) := by
  unfold State.takeAccessWrite
  refine State.batchKept_ite (s.batchKept_answer _ _ _) ?_
  split <;> exact .of_eq rfl rfl

theorem State.batchKept_takeRotorRead (s : State) (p : Port) (req : List Byte) : s.BatchKept (s.takeRotorRead p req) :=
  State.batchKept_ite (s.batchKept_answer _ _ _) (s.batchKept_answer _ _ _)

theorem State.batchKept_takeDraft (s : State) (p : Port) (req : List Byte) : s.BatchKept (s.takeDraft p req) := by
  unfold State.takeDraft
  (repeat' split) <;> exact .of_eq rfl rfl

theorem State.batchKept_takeArm (s : State) (p : Port) (req : List Byte) : s.BatchKept (s.takeArm p req) := by
  unfold State.takeArm
  (repeat' split) <;> exact .of_eq (by simp) (by simp)

theorem State.batchKept_takeDisarm (s : State) (p : Port) (req : List Byte) : s.BatchKept (s.takeDisarm p req) := by
  unfold State.takeDisarm
  split <;> exact .of_eq (by simp) (by simp)

theorem State.batchKept_takeAlter (s : State) (p : Port) (req : List Byte) : s.BatchKept (s.takeAlter p req) := by
  unfold State.takeAlter
  (repeat' split) <;> exact .of_eq (by simp) (by simp)

theorem State.batchKept_takeClaimRead (s : State) (p : Port) (req : List Byte) :
    s.BatchKept (s.takeClaimRead p req) := by
  unfold State.takeClaimRead
  (repeat' split) <;> exact s.batchKept_answer _ _ _

theorem State.batchKept_takeBatchRead (s : State) (p : Port) (req : List Byte) :
    s.BatchKept (s.takeBatchRead p req) := by
  unfold State.takeBatchRead
  (repeat' split) <;> exact s.batchKept_answer _ _ _

theorem State.batchKept_takeRetiredPeek (s : State) (p : Port) (req : List Byte) :
    s.BatchKept (s.takeRetiredPeek p req) := by
  unfold State.takeRetiredPeek
  (repeat' split) <;> exact s.batchKept_answer _ _ _

theorem State.batchKept_takeTuningRead (s : State) (p : Port) (req : List Byte) :
    s.BatchKept (s.takeTuningRead p req) := by
  unfold State.takeTuningRead
  split <;> exact s.batchKept_answer _ _ _

theorem State.batchKept_takeHaltClear (s : State) (p : Port) : s.BatchKept (s.takeHaltClear p) :=
  State.batchKept_ite (s.batchKept_answer _ _ _) (State.batchKept_ite (s.batchKept_answer _ _ _)
    (State.batchKept_ite (s.batchKept_answer _ _ _) (.of_eq (by simp) (by simp))))

/-! ## The requests to the batch unit and the tuning table (R126, R133 to R135, R142, R171) -/

/-- A reservation is made on a record that the table has (R133). -/
theorem State.batchKept_takeBatchReserve (s : State) (p : Port) (req : List Byte) :
    s.BatchKept (s.takeBatchReserve p req) := by
  unfold State.takeBatchReserve
  refine State.batchKept_ite (s.batchKept_answer _ _ _) (State.batchKept_ite (s.batchKept_answer _ _ _) ?_)
  split
  · exact s.batchKept_answer _ _ _
  next k hfind => exact (s.batchKept_setReservation p (BatchUnit.sound_of_find hfind)).answer _ _ _

theorem State.batchKept_takeBatchCommit (s : State) (p : Port) (req : List Byte) :
    s.BatchKept (s.takeBatchCommit p req) := by
  unfold State.takeBatchCommit
  refine State.batchKept_ite (s.batchKept_answer _ _ _) ?_
  split
  · exact s.batchKept_answer _ _ _
  · split
    · exact s.batchKept_answer _ _ _
    · split
      · exact s.batchKept_answer _ _ _
      · exact ((s.batchKept_setReservation p (v := .none) rfl).trans (State.batchKept_annotate _ _ _ _)).answer _ _ _

theorem State.batchKept_takeRetiredTake (s : State) (p : Port) (req : List Byte) :
    s.BatchKept (s.takeRetiredTake p req) := by
  unfold State.takeRetiredTake
  refine State.batchKept_ite (s.batchKept_answer _ _ _) ?_
  split
  · exact s.batchKept_answer _ _ _
  · exact State.batchKept_ite (s.batchKept_answer _ _ _) (s.batchKept_dropSummary.answer _ _ _)

theorem State.batchKept_takeTuningWrite (s : State) (p : Port) (req : List Byte) :
    s.BatchKept (s.takeTuningWrite p req) := by
  unfold State.takeTuningWrite
  refine State.batchKept_ite (.refl s) (State.batchKept_ite (s.batchKept_answer _ _ _) ?_)
  split
  · exact s.batchKept_answer _ _ _
  · exact State.batchKept_ite (s.batchKept_answer _ _ _)
      (State.batchKept_ite (.of_eq rfl rfl) ((s.batchKept_writeTuning _ _).answer _ _ _))

/-! ## The inputs (R48, R49, R60, R61) -/

/-- The unit's copies of the inputs are not what the batch law looks at, and the derivation of the secured condition only
hands the batch unit an event (R48, R49). -/
theorem State.batchKept_input (s : State) (u : Interlock) :
    s.BatchKept ({ s with interlock := u } : State).deriveSecured :=
  .trans (t := { s with interlock := u }) (.of_eq rfl rfl) (State.batchStands_deriveSecured _).kept

theorem State.batchKept_judgeForced (s : State) (opened : Bool) : s.BatchKept (s.judgeForced opened) :=
  .of_eq (s.judgeForced_batch opened) (s.judgeForced_tuning opened)

theorem State.batchKept_judgeDisagreement (s : State) : s.BatchKept s.judgeDisagreement := .of_eq rfl rfl

theorem State.batchKept_handBin (s : State) (e : BinEvent) : s.BatchKept (s.handBin e) :=
  State.BatchStands.kept (.of_table rfl rfl)

/-- The end of an event. -/
theorem State.BatchKept.conclude {s u : State} (h : s.BatchKept u) (old : State) : s.BatchKept (u.conclude old) :=
  h.trans (.of_eq (u.conclude_batch old) (u.conclude_tuning old))

/-! ## The service link (R163, R164) -/

theorem State.batchKept_reply (s : State) (answer : Word) (sack : Nat) : s.BatchKept (s.reply answer sack) :=
  .of_eq rfl rfl

theorem State.batchKept_takePoke (s : State) (table entry w : Nat) : s.BatchKept (s.takePoke table entry w) :=
  .of_eq rfl rfl

theorem State.batchKept_takePeek (s : State) (table entry w : Nat) : s.BatchKept (s.takePeek table entry w) :=
  State.batchKept_ite (.of_eq rfl rfl) (State.batchKept_ite (.of_eq rfl rfl) (.of_eq rfl rfl))

theorem State.batchKept_takeVerify (s : State) : s.BatchKept s.takeVerify := by
  unfold State.takeVerify
  split <;> exact .of_eq rfl rfl

theorem takeFrame_batchKept {s : State} {bits : List Bool} {kind : FrameKind} {f : Word → State}
    (hf : ∀ frame, s.BatchKept (f frame)) : ∃ t, takeFrame s bits kind f = .next t ∧ s.BatchKept t :=
  takeFrame_next (.refl s) (fun _ _ => .of_eq rfl rfl) fun frame _ => (hf frame).trans (.of_eq rfl rfl)

/-! ## All of them -/

/-- A command of two outcomes leaves a state that the test passes, if it passes both. -/
theorem ite_next {P : State → Prop} {c : Prop} [Decidable c] {s t : State} (hs : P s) (ht : P t) :
    ∃ u, (if c then Host.Outcome.next s else Host.Outcome.next t : Answer) = .next u ∧ P u := by
  split
  · exact ⟨s, rfl, hs⟩
  · exact ⟨t, rfl, ht⟩

/-- A command that changes the state only where its condition holds. -/
theorem ite_batchKept {c : Prop} [Decidable c] {s t : State} (h : s.BatchKept t) :
    ∃ u, (if c then Host.Outcome.next t else Host.Outcome.next s : Answer) = .next u ∧ s.BatchKept u :=
  ite_next h (.refl s)

/-- A change of an input, of which only a real change is an event (R48). -/
theorem ite_batchKept_change {c : Prop} [Decidable c] {s t : State} (h : s.BatchKept t) :
    ∃ u, (if c then Host.Outcome.next s else Host.Outcome.next t : Answer) = .next u ∧ s.BatchKept u :=
  ite_next (.refl s) h

theorem onRequest_batchKept {s : State} {p : Port} {code : Byte} {f : List Byte → State}
    (hf : ∀ req, s.BatchKept (f req)) : ∃ t, onRequest s p code f = .next t ∧ s.BatchKept t :=
  onRequest_next (.refl s) hf

/-- Every command keeps the batch law. -/
theorem exec_batchKept (s : State) (c : Instr) : ∃ t, exec c s = .next t ∧ s.BatchKept t := by
  cases c with
  | resetRelease first =>
    obtain ⟨t, ht, ⟨-, -, -, -, -, -, hbatch, -⟩, -⟩ := resetReleaseIsLawful first s
    exact ⟨t, ht, fun _ => hbatch⟩
  | transactionStart p =>
    show ∃ t, execTransactionStart p s = .next t ∧ s.BatchKept t
    unfold execTransactionStart
    split <;> exact ⟨_, rfl, .of_eq rfl rfl⟩
  | transactionTaken p x =>
    show ∃ t, execTransactionTaken p x s = .next t ∧ s.BatchKept t
    unfold execTransactionTaken
    split <;> exact ⟨_, rfl, .of_eq rfl rfl⟩
  | busyTransaction x => exact ite_batchKept_change (.of_eq rfl rfl)
  | shortTransaction x => exact ite_batchKept (.of_eq rfl rfl)
  | nop p => exact onRequest_batchKept fun _ => s.batchKept_answer _ _ _
  | status p => exact onRequest_batchKept fun req => s.batchKept_takeStatus p req
  | noticeRead p => exact onRequest_batchKept fun _ => s.batchKept_answer _ _ _
  | noticeClear p => exact onRequest_batchKept fun _ => .of_eq rfl rfl
  | noticeLevel p => exact onRequest_batchKept fun req => s.batchKept_takeNoticeLevel p req
  | accessRead p => exact onRequest_batchKept fun req => s.batchKept_takeAccessRead p req
  | accessWrite p => exact onRequest_batchKept fun req => s.batchKept_takeAccessWrite p req
  | portReset p => exact onRequest_batchKept fun _ => s.batchKept_takePortReset p
  | rotorRead p => exact onRequest_batchKept fun req => s.batchKept_takeRotorRead p req
  | draft p => exact onRequest_batchKept fun req => s.batchKept_takeDraft p req
  | arm p => exact onRequest_batchKept fun req => s.batchKept_takeArm p req
  | disarm p => exact onRequest_batchKept fun req => s.batchKept_takeDisarm p req
  | alter p => exact onRequest_batchKept fun req => s.batchKept_takeAlter p req
  | claimRead p => exact onRequest_batchKept fun req => s.batchKept_takeClaimRead p req
  | batchRead p => exact onRequest_batchKept fun req => s.batchKept_takeBatchRead p req
  | batchReserve p => exact onRequest_batchKept fun req => s.batchKept_takeBatchReserve p req
  | batchCommit p => exact onRequest_batchKept fun req => s.batchKept_takeBatchCommit p req
  | retiredPeek p => exact onRequest_batchKept fun req => s.batchKept_takeRetiredPeek p req
  | retiredTake p => exact onRequest_batchKept fun req => s.batchKept_takeRetiredTake p req
  | haltClear p => exact onRequest_batchKept fun _ => s.batchKept_takeHaltClear p
  | tuningRead p => exact onRequest_batchKept fun req => s.batchKept_takeTuningRead p req
  | tuningWrite p => exact onRequest_batchKept fun req => s.batchKept_takeTuningWrite p req
  | budgetWrite => exact ite_batchKept_change s.batchStands_takeBudgetWrite.kept
  | arbitrationPass together => exact ite_batchKept (.of_eq rfl rfl)
  | grant =>
    show ∃ t, execGrant s = .next t ∧ s.BatchKept t
    unfold execGrant
    split
    · exact ⟨_, rfl, .of_eq (s.takeGrant_batch _ _) (s.takeGrant_tuning _ _)⟩
    all_goals exact ⟨_, rfl, .refl s⟩
  | yield =>
    show ∃ t, execYield s = .next t ∧ s.BatchKept t
    unfold execYield
    split
    · exact ⟨_, rfl, .of_eq (s.takeYield_batch _ _) (s.takeYield_tuning _ _)⟩
    all_goals exact ⟨_, rfl, .refl s⟩
  | chamberClockIncrement => exact ⟨_, rfl, .of_eq rfl rfl⟩
  | runTimeExpiry i => exact ite_batchKept (.of_eq (by simp) (by simp))
  | deadlineExpiry i => exact ite_batchKept (.of_eq (by simp) (by simp))
  | lidSwitchChange closed =>
    exact ite_batchKept_change ((((s.batchKept_input _).trans (State.batchKept_judgeForced _ _)).trans
      (State.batchKept_judgeDisagreement _)).conclude s)
  | binSwitchChange closed =>
    exact ite_batchKept_change ((((s.batchKept_input _).trans (State.batchKept_judgeForced _ _)).trans
      (State.batchKept_handBin _ _)).conclude s)
  | latchFeedbackChange engaged =>
    exact ite_batchKept_change (((s.batchKept_input _).trans (State.batchKept_judgeDisagreement _)).conclude s)
  | cutoutChange closed => exact ite_batchKept_change (.of_eq (by split <;> simp) (by split <;> simp))
  | disagreementTimerExpiry => exact ite_batchKept (.of_eq (by simp) (by simp))
  | thermistorReport plate air => exact ⟨_, rfl, .of_eq (by simp) (by simp)⟩
  | loadCellConversion reading => exact ⟨_, rfl, .of_eq rfl rfl⟩
  | doseSample humidity =>
    have hstored : s.BatchKept { s with sensors := { s.sensors.storeHumidity humidity with
        samplesDue := (s.sensors.storeHumidity humidity).samplesDue - 1 } } := .of_eq rfl rfl
    exact ite_batchKept (hstored.trans (State.batchKept_takeSample _ humidity))
  | grindCredit =>
    exact ite_batchKept (.trans (t := { s with rotor := { s.rotor with handed := s.rotor.handed - 1 } }) (.of_eq rfl rfl)
      (State.batchKept_takeRevolution _))
  | rotorPulse =>
    show ∃ t, execRotorPulse s = .next t ∧ s.BatchKept t
    unfold execRotorPulse
    split
    · exact ⟨_, rfl, .of_eq s.takeEarly_batch s.takeEarly_tuning⟩
    · exact ⟨_, rfl, .of_eq s.takeAccepted_batch s.takeAccepted_tuning⟩
  | rotorAtRest => exact ite_batchKept (.of_eq (by simp) (by simp))
  | startGraceRunsOut => exact ite_batchKept (.of_eq s.stall_batch s.stall_tuning)
  | stallDeadlinePassed => exact ite_batchKept (.of_eq s.stall_batch s.stall_tuning)
  | jogPhaseEnd => exact ite_batchKept (.of_eq rfl rfl)
  | probeWindowEnd => exact ite_batchKept (.of_eq s.probeFails_batch s.probeFails_tuning)
  | onTimeEnd => exact ite_batchKept (.of_eq rfl rfl)
  | offTimeEnd => exact ite_batchKept (.of_eq rfl rfl)
  | cleanRunTimerExpiry => exact ite_batchKept (.of_eq rfl rfl)
  | massBeforeSample =>
    show ∃ t, execMassBeforeSample s = .next t ∧ s.BatchKept t
    unfold execMassBeforeSample
    split
    next rest _ =>
      refine ⟨_, rfl, State.BatchStands.kept (.of_table ?_ rfl)⟩
      unfold BatchUnit.takeLost
      split <;> rfl
    all_goals exact ⟨_, rfl, .refl s⟩
  | massAfterSettleStart =>
    show ∃ t, execMassAfterSettleStart s = .next t ∧ s.BatchKept t
    unfold execMassAfterSettleStart
    split
    · exact ⟨_, rfl, State.BatchStands.kept (.of_table rfl rfl)⟩
    all_goals exact ⟨_, rfl, .refl s⟩
  | massAfterSettleEnd =>
    have hset : ∀ v, s.BatchKept (s.setSettle v) := fun _ => State.BatchStands.kept (.of_table rfl rfl)
    show ∃ t, execMassAfterSettleEnd s = .next t ∧ s.BatchKept t
    unfold execMassAfterSettleEnd
    split
    · split
      · exact ⟨_, rfl, (hset .idle).trans (State.batchKept_judgeClosure _ _)⟩
      · exact ⟨_, rfl, hset .cut⟩
    · exact ⟨_, rfl, .refl s⟩
  | binInsertion =>
    show ∃ t, execBinInsertion s = .next t ∧ s.BatchKept t
    unfold execBinInsertion
    split
    · exact ⟨_, rfl, State.BatchStands.kept (.of_table rfl rfl)⟩
    all_goals exact ⟨_, rfl, .refl s⟩
  | tareSettleEnd => exact ite_batchKept (State.BatchStands.kept (.of_table rfl rfl))
  | retirement =>
    show ∃ t, execRetirement s = .next t ∧ s.BatchKept t
    unfold execRetirement
    split
    next rest _ =>
      have htaken : s.BatchKept (s.binTaken rest) := State.BatchStands.kept (.of_table rfl rfl)
      exact ⟨_, rfl, htaken.trans (State.batchKept_retire _)⟩
    all_goals exact ⟨_, rfl, .refl s⟩
  | idleFrame bits => exact takeFrame_batchKept fun _ => s.batchKept_reply _ _
  | unknownCommandFrame bits => exact takeFrame_batchKept fun _ => s.batchKept_reply _ _
  | peek table entry w low => exact takeFrame_batchKept fun _ => s.batchKept_takePeek _ _ _
  | poke table entry w low => exact takeFrame_batchKept fun _ => s.batchKept_takePoke _ _ _
  | pokeDataFrame bits =>
    exact execPokeDataFrame_next (P := s.BatchKept) (fun _ _ h => h) (.refl s) s.batchKept_pokeWrite bits
  | verifyFrame bits => exact takeFrame_batchKept fun _ => s.batchKept_takeVerify
  | watch bits => exact takeFrame_batchKept fun _ => s.batchKept_reply _ _
  | touched bits => exact takeFrame_batchKept fun _ => s.batchKept_reply _ _
  | call bits =>
    have hposted : s.BatchKept (s.postAll .serviceCall) := .of_eq rfl rfl
    exact takeFrame_batchKept fun _ => hposted.trans (State.batchKept_reply _ _ _)
  | resync => exact ite_batchKept (.of_eq rfl rfl)

/-! ## The step -/

theorem step_batchKept {s t : State} (h : step s = .next t) : s.BatchKept t := by
  cases hp : s.pending with
  | nil =>
    rw [step_nil s hp] at h
    cases h
    exact .of_eq rfl rfl
  | cons c rest =>
    rw [step_cons s c rest hp] at h
    obtain ⟨u, hu, hkept⟩ := exec_batchKept (s.withPending rest) c
    rw [hu] at h
    cases h
    exact hkept

/-- Settles O11: an event writes records in their places, appends one that R108 allows, or empties the table, and then
judges those that it has written and the finished flag. -/
theorem stepKeepsTheBatchLaw : Obligations.StepKeepsTheBatchLaw := fun _ _ hlawful h => step_batchKept h hlawful

end Sys2Proof.Machine
end

section
/-! RETIRED_TAKE, BATCH_RESERVE and BATCH_COMMIT (R131, R133 to R135, R142): what each check refuses, and what the request
does when the checks pass. -/

namespace Sys2Proof.Machine

/-- A request that its block answers after a change away from the ports is replied to in the state so changed (R149). -/
theorem onRequest_answers_after {s u : State} {p : Port} {code : Byte} {req : List Byte} {f : List Byte → State}
    {st : Status} {data : List Byte} (h : s.Asks p code req) (hu : u.ports = s.ports) (hf : f req = u.answer p st data) :
    onRequest s p code f = .next (u.replied p st code data) := by
  rw [onRequest_asks h, hf, State.answer_of_ports_eq h hu]

/-! ## RETIRED_TAKE (R142) -/

section

variable {s : State} {p : Port} {req : List Byte}

theorem State.takeRetiredTake_denied (h : (s.port p).access.annotate = false) :
    s.takeRetiredTake p req = s.refuse p .denied := by
  unfold State.takeRetiredTake
  rw [h]
  rfl

theorem State.takeRetiredTake_empty (h : (s.port p).access.annotate = true) (hq : s.batch.retired = []) :
    s.takeRetiredTake p req = s.refuse p .empty := by
  unfold State.takeRetiredTake
  rw [h, hq]
  rfl

/-- On a queue that holds a summary the expected seq decides: 0, or that of the oldest summary (R142). -/
theorem State.takeRetiredTake_cons {x : Summary} {rest : List Summary} (h : (s.port p).access.annotate = true)
    (hq : s.batch.retired = x :: rest) : s.takeRetiredTake p req =
      if wordAt req 2 ≠ 0 ∧ wordAt req 2 ≠ x.seq then s.refuse p .conflict
      else s.dropSummary.answer p .ok (x.part0 rest.length) := by
  unfold State.takeRetiredTake
  rw [h, hq]
  rfl

theorem State.dropSummary_cons {x : Summary} {rest : List Summary} (hq : s.batch.retired = x :: rest) :
    s.dropSummary = { s with batch := { s.batch with retired := rest } } := by
  unfold State.dropSummary
  rw [hq]
  rfl

end

/-- Settles O55. -/
theorem retiredTakeRemovesTheOldest : Obligations.RetiredTakeRemovesTheOldest := by
  refine fun p req s hasks => ⟨fun hden => ?_, fun hperm hempty => ?_, fun x rest hperm hq =>
    ⟨fun hzero hseq => ?_, fun hseq => ?_⟩⟩
  · exact onRequest_answers hasks (State.takeRetiredTake_denied hden)
  · exact onRequest_answers hasks (State.takeRetiredTake_empty hperm hempty)
  · exact onRequest_answers hasks ((State.takeRetiredTake_cons hperm hq).trans (if_pos ⟨hzero, hseq⟩))
  · have hpass : ¬ (wordAt req 2 ≠ 0 ∧ wordAt req 2 ≠ x.seq) := fun ⟨hzero, hother⟩ => hseq.elim hzero hother
    rw [← State.dropSummary_cons hq]
    exact onRequest_answers_after hasks rfl ((State.takeRetiredTake_cons hperm hq).trans (if_neg hpass))

/-! ## BATCH_RESERVE (R133) -/

theorem BatchUnit.partAt_zero {u : BatchUnit} {k : Nat} {r : BatchRecord} (h : u.records[k]? = some r) :
    u.partAt k 0 = r.part0 k := by
  unfold BatchUnit.partAt
  rw [h]
  rfl

theorem BatchUnit.partAt_one {u : BatchUnit} {k : Nat} {r : BatchRecord} (h : u.records[k]? = some r) :
    u.partAt k 1 = r.part1 := by
  unfold BatchUnit.partAt
  rw [h]
  rfl

section

variable {s : State} {p : Port} {req : List Byte}

theorem State.takeBatchReserve_denied (h : (s.port p).access.annotate = false) :
    s.takeBatchReserve p req = s.refuse p .denied := by
  unfold State.takeBatchReserve
  rw [h]
  rfl

theorem State.takeBatchReserve_out_of_range (h : (s.port p).access.annotate = true) (hform : byteAt req 1 ≠ 1) :
    s.takeBatchReserve p req = s.refuse p .range := by
  unfold State.takeBatchReserve
  rw [h]
  exact if_pos hform

theorem State.takeBatchReserve_notFound (h : (s.port p).access.annotate = true) (hform : byteAt req 1 = 1)
    (hnone : ∀ r ∈ s.batch.records, r.seq ≠ wordAt req 3) : s.takeBatchReserve p req = s.refuse p .notFound := by
  unfold State.takeBatchReserve
  rw [h, BatchUnit.find_eq_none hnone]
  exact if_neg (not_not_intro hform)

theorem State.takeBatchReserve_carries {k : Nat} {r : BatchRecord} (h : (s.port p).access.annotate = true)
    (hform : byteAt req 1 = 1) (hr : s.batch.Carries k r (wordAt req 3)) : s.takeBatchReserve p req =
      (s.setReservation p (.intact (wordAt req 3))).answer p .ok (r.part0 k) := by
  have ⟨hk, _, _⟩ := hr
  unfold State.takeBatchReserve
  rw [h, BatchUnit.find_of_carries hr, ← BatchUnit.partAt_zero hk]
  exact if_neg (not_not_intro hform)

end

/-! ## The write codes of BATCH_COMMIT (R134, R173) -/

theorem tagWrite_of_code {code : BitVec 2} (h : code = 0 ∨ code = 1) (v : Half) :
    ∃ w, tagWrite code v = some w ∧ ∀ old, w.getD old = if code = 0 then old else v := by
  obtain rfl | rfl := h
  · exact ⟨none, rfl, fun _ => rfl⟩
  · exact ⟨some v, rfl, fun _ => rfl⟩

theorem tagWrite_out_of_range {code : BitVec 2} (h : ¬ (code = 0 ∨ code = 1)) (v : Half) : tagWrite code v = none := by
  obtain ⟨h0, h1⟩ := not_or.1 h
  unfold tagWrite
  rw [if_neg h0, if_neg h1]

theorem overrideWrite_of_code {code : BitVec 2} (h : code ≠ 3) (v : Half) :
    ∃ w, overrideWrite code v = some w ∧ ∀ old, w.getD old = writtenOverride code v old := by
  have hcode : code = 0 ∨ code = 1 ∨ code = 2 := by
    revert code
    decide
  obtain rfl | rfl | rfl := hcode
  · exact ⟨none, rfl, fun _ => rfl⟩
  · exact ⟨some (some v), rfl, fun _ => rfl⟩
  · exact ⟨some none, rfl, fun _ => rfl⟩

/-- Codes in range are a write, and the record annotated with it is the one that the request's bytes give (R134, R135). -/
theorem commitWrite_of_codesFit {req : List Byte} (h : CommitCodesFit req) :
    ∃ w, commitWrite req = some w ∧ ∀ r : BatchRecord, r.annotate w = r.committed req := by
  obtain ⟨htag, hdose, hgrind⟩ := h
  obtain ⟨t, ht, htag⟩ := tagWrite_of_code htag (halfAt req 7)
  obtain ⟨d, hd, hdose⟩ := overrideWrite_of_code hdose (halfAt req 9)
  obtain ⟨g, hg, hgrind⟩ := overrideWrite_of_code hgrind (halfAt req 11)
  refine ⟨⟨t, d, g⟩, ?_, fun r => ?_⟩
  · unfold commitWrite
    simp only [ht, hd, hg]
  · unfold BatchRecord.annotate BatchRecord.committed
    simp only [htag, hdose, hgrind]

/-- A code out of range is no write (R134). -/
theorem commitWrite_eq_none {req : List Byte} (h : ¬ CommitCodesFit req) : commitWrite req = none := by
  unfold commitWrite
  by_cases htag : (byteAt req 6).extractLsb' 0 2 = 0 ∨ (byteAt req 6).extractLsb' 0 2 = 1
  · obtain ⟨t, ht, -⟩ := tagWrite_of_code htag (halfAt req 7)
    by_cases hdose : (byteAt req 6).extractLsb' 2 2 = 3
    · have hcode : overrideWrite ((byteAt req 6).extractLsb' 2 2) (halfAt req 9) = none := by rw [hdose]; rfl
      simp only [ht, hcode]
    · obtain ⟨d, hd, -⟩ := overrideWrite_of_code hdose (halfAt req 9)
      have hgrind : (byteAt req 6).extractLsb' 4 2 = 3 := not_not.1 fun hne => h ⟨htag, hdose, hne⟩
      have hcode : overrideWrite ((byteAt req 6).extractLsb' 4 2) (halfAt req 11) = none := by rw [hgrind]; rfl
      simp only [ht, hd, hcode]
  · simp only [tagWrite_out_of_range htag]

/-! ## The checks of BATCH_COMMIT on the port's reservation (R134) -/

theorem Reservation.refusal_intact (seq : Word) : (Reservation.intact seq).refusal seq = Option.none := if_pos rfl

theorem Reservation.refusal_broken (seq : Word) : (Reservation.broken seq).refusal seq = some .lost := if_pos rfl

theorem Reservation.refusal_other {v : Reservation} {seq : Word} (hi : v ≠ .intact seq) (hb : v ≠ .broken seq) :
    v.refusal seq = some .noReservation := by
  cases v with
  | none => rfl
  | intact n => exact if_neg fun he => hi (congrArg Reservation.intact he)
  | broken n => exact if_neg fun he => hb (congrArg Reservation.broken he)

/-! ## What a commit does (R131, R135) -/

/-- The reservations that a commit breaks are those of the other ports on the seq: its own port's has ended (R135). -/
theorem State.breaks_of_setReservation {s t : State} {p : Port} {seq : Word}
    (h : (s.setReservation p .none).Breaks t (fun q n => q != p && n == seq) fun _ => false) :
    s.Breaks t (fun _ n => n == seq) (· == p) := by
  intro q hq
  have hne : q ≠ p := by simpa using hq
  have hother := h q rfl
  rw [State.reservation_setReservation, if_neg (Ne.symm hne)] at hother
  simpa [hne] using hother

/-- The ports that a commit takes an INTACT reservation from, said of the part before it (R135, R136). -/
theorem State.lostNotice_setReservation {s t : State} {p : Port} (hown : t.batch.reservations.get p = .none) (n : Source)
    (q : Port) : (s.setReservation p .none).LostNotice t n q ↔ s.LostNotice t n q := by
  unfold State.LostNotice
  rw [State.reservation_setReservation]
  by_cases hq : p = q
  · subst hq
    simp [hown]
  · rw [if_neg hq]

/-- An accepted commit whole: the record annotated and judged, the port's own reservation ended, every other on the seq
broken, and the notices (R131, R135, R136). -/
theorem State.commit_commits {s : State} {k : Nat} {r : BatchRecord} (hr : s.batch.records[k]? = some r) (p : Port)
    (seq : Word) (w : AnnotationWrite) :
    s.BatchEvent (s.commit p k seq w) ∧ s.Annotated (s.commit p k seq w) k (r.annotate w) ∧
    (s.commit p k seq w).batch.reservations.get p = .none ∧
    s.Breaks (s.commit p k seq w) (fun _ n => n == seq) (· == p) ∧
    s.Notifies (s.commit p k seq w) fun n q =>
      s.CureNotice (s.commit p k seq w) n ∨ s.LostNotice (s.commit p k seq w) n q := by
  obtain ⟨hevent, hannotated, hres, hnotes⟩ :=
    State.annotate_annotates (s := s.setReservation p .none) hr w fun q n => q != p && n == seq
  unfold State.commit
  generalize (s.setReservation p .none).annotate k w (fun q n => q != p && n == seq) = t at *
  have hown : t.batch.reservations.get p = .none := by
    rw [hres, State.reservation_setReservation, if_pos rfl]
    rfl
  refine ⟨.trans (t := s.setReservation p .none) rfl hevent, hannotated, hown,
    State.breaks_of_setReservation (State.breaks_of_brokenBy hres fun q hlost => hnotes.posted (.inr ⟨rfl, hlost⟩)),
    (hnotes.congr (s' := s) rfl rfl).iff fun n q => or_congr_right ?_⟩
  rw [← State.lostNotice_setReservation hown]
  exact and_congr_right fun _ => State.losesReservation_iff (hit := fun q n => q != p && n == seq) (hres q)

/-! ## BATCH_COMMIT (R134, R135) -/

section

variable {s : State} {p : Port} {req : List Byte} {w : AnnotationWrite}

theorem State.takeBatchCommit_denied (h : (s.port p).access.annotate = false) :
    s.takeBatchCommit p req = s.refuse p .denied := by
  unfold State.takeBatchCommit
  rw [h]
  rfl

theorem State.takeBatchCommit_out_of_range (h : (s.port p).access.annotate = true) (hw : commitWrite req = none) :
    s.takeBatchCommit p req = s.refuse p .range := by
  unfold State.takeBatchCommit
  rw [h, hw]
  rfl

/-- A reservation that fails its checks refuses the commit (R134). -/
theorem State.takeBatchCommit_refused {st : Status} (h : (s.port p).access.annotate = true)
    (hw : commitWrite req = some w) (hv : (s.batch.reservations.get p).refusal (wordAt req 2) = some st) :
    s.takeBatchCommit p req = s.refuse p st := by
  unfold State.takeBatchCommit
  simp only [h, hw, hv]
  rfl

theorem State.takeBatchCommit_accepted {k : Nat} {r : BatchRecord} (h : (s.port p).access.annotate = true)
    (hw : commitWrite req = some w) (hv : s.batch.reservations.get p = .intact (wordAt req 2))
    (hr : s.batch.Carries k r (wordAt req 2)) : s.takeBatchCommit p req =
      (s.commit p k (wordAt req 2) w).answer p .ok ((s.commit p k (wordAt req 2) w).batch.partAt k 1) := by
  unfold State.takeBatchCommit
  rw [h, hw, hv, BatchUnit.find_of_carries hr]
  simp only [Reservation.refusal_intact]
  rfl

end

/-- Settles O56: the refusals are those of the checks in their order, and an accepted commit is a write of the annotation
with the port's own reservation ended before it. -/
theorem reservationsAndCommits : Obligations.ReservationsAndCommits := by
  refine fun p req s => ⟨fun hasks => ⟨fun hden => ?_, fun hperm hform => ?_, fun hperm hform hnone => ?_,
    fun k r hperm hform hr => ?_⟩, fun hasks => ⟨fun hden => ?_, fun hperm hcodes => ?_, fun hperm hcodes => ?_⟩⟩
  · exact onRequest_answers hasks (State.takeBatchReserve_denied hden)
  · exact onRequest_answers hasks (State.takeBatchReserve_out_of_range hperm hform)
  · exact onRequest_answers hasks (State.takeBatchReserve_notFound hperm hform hnone)
  · exact onRequest_answers_after (u := s.setReservation p (.intact (wordAt req 3))) hasks rfl
      (State.takeBatchReserve_carries hperm hform hr)
  · exact onRequest_answers hasks (State.takeBatchCommit_denied hden)
  · exact onRequest_answers hasks (State.takeBatchCommit_out_of_range hperm (commitWrite_eq_none hcodes))
  obtain ⟨w, hw, hwritten⟩ := commitWrite_of_codesFit hcodes
  refine ⟨fun hi hb => ?_, fun hb => ?_, fun k r hi hr => ?_⟩
  · exact onRequest_answers hasks (State.takeBatchCommit_refused hperm hw (Reservation.refusal_other hi hb))
  · have hlost := Reservation.refusal_broken (wordAt req 2)
    exact onRequest_answers hasks (State.takeBatchCommit_refused hperm hw (hb ▸ hlost))
  · have ⟨hk, _, _⟩ := hr
    have hexec : exec (.batchCommit p) s = .next (s.takeBatchCommit p req) := onRequest_asks hasks _
    obtain ⟨hevent, hannotated, hown, hbreaks, hnotes⟩ := State.commit_commits hk p (wordAt req 2) w
    rw [State.takeBatchCommit_accepted hperm hw hi hr] at hexec
    rw [hwritten] at hannotated
    generalize s.commit p k (wordAt req 2) w = u at *
    have hposts : ∀ n q, (u.answer p .ok (u.batch.partAt k 1)).Posted n q ↔ u.Posted n q := posted_answer u p _ _
    refine ⟨_, hexec, hevent.trans rfl, hannotated, hown, fun q hq => ?_,
      State.cureNotices_of_posted fun n q hn => (hposts n q).2 (hnotes.posted (.inl hn)),
      fun n q => (hposts n q).trans (hnotes.posts n q), fun r' hr' => ?_⟩
    · obtain ⟨hbroken, hkept⟩ := hbreaks q hq
      exact ⟨fun n hn hit => (hbroken n hn hit).imp_right (hposts .reservationLost q).2, hkept⟩
    · have hr' : u.batch.records[k]? = some r' := hr'
      rw [BatchUnit.partAt_one hr']
      exact portsButNotices_answer hasks hnotes.ports _ _

end Sys2Proof.Machine
end

section
/-! ACCESS_WRITE (R153): the record that its bytes carry, what the checks refuse, and what an accepted write changes
of the ports. -/

namespace Sys2Proof.Machine

/-! ## One port changed -/

/-- A change of one port keeps of every port what it keeps of that one. -/
theorem State.updPort_keeps {β : Type} (part : PortState → β) {s : State} {p : Port} {f : PortState → PortState}
    (h : part (f (s.port p)).refresh = part (s.port p)) (q : Port) :
    part ((s.updPort p f).port q) = part (s.port q) := by
  rw [State.port_updPort]
  split
  next hq => rw [h, hq]
  next => rfl

theorem State.port_answer_self (s : State) (p : Port) (st : Status) (data : List Byte) :
    (s.answer p st data).port p = ((s.port p).answer st data).refresh := State.port_updPort_self s p _

theorem State.port_answer_other {s : State} {p q : Port} {st : Status} {data : List Byte} (h : q ≠ p) :
    (s.answer p st data).port q = s.port q := (State.port_updPort s p q _).trans (if_neg h.symm)

/-! ## Bytes with bits marked zero (R173) -/

/-- The bits of a byte from bit n on are zero exactly when the byte is below 2 to the power n. -/
theorem high_bits_zero_iff {b : Byte} {n m : Nat} (h : n + m = 8) : b.extractLsb' n m = 0 ↔ b.toNat < 2 ^ n := by
  have hlt : b.toNat / 2 ^ n < 2 ^ m := Nat.div_lt_of_lt_mul (by rw [← Nat.pow_add, h]; exact b.isLt)
  rw [← BitVec.toNat_inj, BitVec.extractLsb'_toNat, Nat.shiftRight_eq_div_pow, Nat.mod_eq_of_lt hlt]
  exact Nat.div_eq_zero_iff_lt (Nat.two_pow_pos n)

theorem highNibble_eq_zero_iff {b : Byte} : highNibble b = 0 ↔ b.toNat ≤ 15 :=
  (high_bits_zero_iff rfl).trans Nat.lt_succ_iff

theorem high_three_bits_zero_iff {b : Byte} : b.extractLsb' 5 3 = 0 ↔ b.toNat ≤ 31 :=
  (high_bits_zero_iff rfl).trans Nat.lt_succ_iff

/-- Two bytes without bits from bit n on are the same if their bits below it are. -/
theorem eq_of_low_bits {x y : Byte} {n : Nat} (hx : x.toNat < 2 ^ n) (hy : y.toNat < 2 ^ n)
    (h : ∀ k, k < n → x.getLsbD k = y.getLsbD k) : x = y := by
  apply BitVec.eq_of_toNat_eq
  apply Nat.eq_of_testBit_eq
  intro k
  by_cases hk : k < n
  · exact h k hk
  · have hpow : 2 ^ n ≤ 2 ^ k := Nat.pow_le_pow_right (by decide) (by omega)
    rw [Nat.testBit_lt_two_pow (hx.trans_le hpow), Nat.testBit_lt_two_pow (hy.trans_le hpow)]

/-- A byte with no bit above its low four is made of these. -/
theorem four_flags_of_byte {b : Byte} (h : b.toNat ≤ 15) :
    flagBit (b.getLsbD 0) 0 ||| flagBit (b.getLsbD 1) 1 ||| flagBit (b.getLsbD 2) 2 |||
      flagBit (b.getLsbD 3) 3 = b := by
  obtain ⟨h0, h1, h2, h3, hzero⟩ := four_flags (b.getLsbD 0) (b.getLsbD 1) (b.getLsbD 2) (b.getLsbD 3) _ rfl
  refine eq_of_low_bits ((high_bits_zero_iff rfl).1 hzero) (Nat.lt_succ_of_le h) fun k hk => ?_
  interval_cases k
  exacts [h0, h1, h2, h3]

/-- A byte with no bit above its low five is made of these. -/
theorem five_flags_of_byte {b : Byte} (h : b.toNat ≤ 31) :
    flagBit (b.getLsbD 0) 0 ||| flagBit (b.getLsbD 1) 1 ||| flagBit (b.getLsbD 2) 2 ||| flagBit (b.getLsbD 3) 3 |||
      flagBit (b.getLsbD 4) 4 = b := by
  obtain ⟨h0, h1, h2, h3, h4, hzero⟩ :=
    five_flags (b.getLsbD 0) (b.getLsbD 1) (b.getLsbD 2) (b.getLsbD 3) (b.getLsbD 4) _ rfl
  refine eq_of_low_bits ((high_bits_zero_iff rfl).1 hzero) (Nat.lt_succ_of_le h) fun k hk => ?_
  interval_cases k
  exacts [h0, h1, h2, h3, h4]

/-! ## The record of ACCESS_WRITE (R153, R173) -/

theorem accessOf_valid {drives flags floor : Byte} (hd : drives.toNat ≤ 15) (hf : flags.toNat ≤ 31)
    (hl : floor.toNat ≤ 14) : accessOf drives flags floor = some
      { heater := drives.getLsbD 0, grinder := drives.getLsbD 1, fan := drives.getLsbD 2, latch := drives.getLsbD 3
        curb := flags.getLsbD 0, annotate := flags.getLsbD 1, tuning := flags.getLsbD 2
        haltClear := flags.getLsbD 3, access := flags.getLsbD 4, floor := floor.toNat } :=
  if_pos ⟨highNibble_eq_zero_iff.2 hd, high_three_bits_zero_iff.2 hf, hl⟩

theorem accessOf_eq_none {drives flags floor : Byte}
    (h : 14 < floor.toNat ∨ 15 < drives.toNat ∨ 31 < flags.toNat) : accessOf drives flags floor = none := by
  refine if_neg fun ⟨hd, hf, hl⟩ => ?_
  have hdrives := highNibble_eq_zero_iff.1 hd
  have hflags := high_three_bits_zero_iff.1 hf
  omega

/-- The record is sent back in the bytes that carried it. -/
theorem bytes_of_accessOf {drives flags floor : Byte} {acc : Access} (h : accessOf drives flags floor = some acc) :
    acc.bytes = [drives, flags, floor] := by
  unfold accessOf at h
  split at h
  next hvalid =>
    obtain ⟨hd, hf, -⟩ := hvalid
    cases h
    unfold Access.bytes
    rw [four_flags_of_byte (highNibble_eq_zero_iff.1 hd), five_flags_of_byte (high_three_bits_zero_iff.1 hf),
      BitVec.ofNat_toNat, BitVec.setWidth_eq]
  next => cases h

/-! ## ACCESS_WRITE (R153) -/

section

variable {s : State} {p : Port} {req : List Byte}

theorem State.takeAccessWrite_denied (h : (s.port p).access.access = false) :
    s.takeAccessWrite p req = s.refuse p .denied := by
  unfold State.takeAccessWrite
  rw [h]
  rfl

theorem State.takeAccessWrite_out_of_range (h : (s.port p).access.access = true)
    (hr : 2 < (byteAt req 1).toNat ∨ 14 < (byteAt req 4).toNat ∨ 15 < (byteAt req 2).toNat ∨
      31 < (byteAt req 3).toNat) : s.takeAccessWrite p req = s.refuse p .range := by
  unfold State.takeAccessWrite
  rw [h]
  rcases hr with hport | hrecord
  · rw [portNumber_out_of_range hport]
    rfl
  · rw [accessOf_eq_none hrecord]
    cases portNumber (byteAt req 1) <;> rfl

theorem State.takeAccessWrite_accepted {m : Port} {acc : Access} (h : (s.port p).access.access = true)
    (hm : byteAt req 1 = BitVec.ofNat 8 m.val)
    (hacc : accessOf (byteAt req 2) (byteAt req 3) (byteAt req 4) = some acc) :
    s.takeAccessWrite p req = (s.writeAccess m acc).answer p .ok (((s.writeAccess m acc).port m).accessData m) := by
  unfold State.takeAccessWrite
  rw [h, portNumber_ofNat hm, hacc]
  rfl

end

/-- The data that answer an accepted write are the port's number, its class and the bytes of the record (R153). -/
theorem State.accessData_writeAccess (s : State) (m : Port) (acc : Access) :
    ((s.writeAccess m acc).port m).accessData m = [BitVec.ofNat 8 m.val, (s.port m).cls.code] ++ acc.bytes := by
  unfold State.writeAccess
  rw [State.port_updPort_self]
  rfl

/-- A reply keeps of every port what stands apart from the request in flight, the reply and the line (R149). -/
theorem State.answer_keeps {β : Type} (part : PortState → β)
    (h : ∀ (x : PortState) st data, part (x.answer st data).refresh = part x) (s : State) (p : Port) (st : Status)
    (data : List Byte) (q : Port) : part ((s.answer p st data).port q) = part (s.port q) :=
  State.updPort_keeps part (h _ st data) q

/-- A write of an access record keeps of every port what stands apart from the record and the line (R153). -/
theorem State.writeAccess_keeps {β : Type} (part : PortState → β)
    (h : ∀ (x : PortState) acc, part ({ x with access := acc } : PortState).refresh = part x) (s : State) (m : Port)
    (acc : Access) (q : Port) : part ((s.writeAccess m acc).port q) = part (s.port q) :=
  State.updPort_keeps part (h _ acc) q

/-- A write of an access record with its reply keeps what both keep. -/
theorem State.answer_writeAccess_keeps {β : Type} (part : PortState → β)
    (ha : ∀ (x : PortState) st data, part (x.answer st data).refresh = part x)
    (hw : ∀ (x : PortState) acc, part ({ x with access := acc } : PortState).refresh = part x) (s : State) (p m : Port)
    (acc : Access) (st : Status) (data : List Byte) (q : Port) :
    part (((s.writeAccess m acc).answer p st data).port q) = part (s.port q) :=
  (State.answer_keeps part ha _ p st data q).trans (State.writeAccess_keeps part hw s m acc q)

/-- The write decides the records after it: the reply touches none, at the requesting port either. -/
theorem State.access_answer_writeAccess (s : State) (p m : Port) (acc : Access) (st : Status) (data : List Byte)
    (q : Port) :
    (((s.writeAccess m acc).answer p st data).port q).access = if m = q then acc else (s.port q).access := by
  rw [State.answer_keeps (·.access) (fun _ _ _ => rfl), State.writeAccess, State.port_updPort]
  split <;> rfl

/-- Settles O28: a write of one record, and then a reply at the requesting port, which may be the named one. -/
theorem accessWriteReplacesTheRecord : Obligations.AccessWriteReplacesTheRecord := by
  refine fun p req s hasks => ⟨fun hden => ?_, fun hperm hr => ?_, fun m hperm hm hl hd hf => ?_⟩
  · exact onRequest_answers hasks (State.takeAccessWrite_denied hden)
  · exact onRequest_answers hasks (State.takeAccessWrite_out_of_range hperm hr)
  have hacc := accessOf_valid hd hf hl
  have hexec : exec (.accessWrite p) s = .next (s.takeAccessWrite p req) := onRequest_asks hasks _
  rw [State.takeAccessWrite_accepted hperm hm hacc, State.accessData_writeAccess, bytes_of_accessOf hacc, ← hm] at hexec
  refine ⟨_, hexec, rfl, ?_, fun q hq => ?_, fun q => ⟨?_, ?_, ?_, ?_⟩, fun q hq => ?_, ?_⟩
  · exact (State.access_answer_writeAccess ..).trans (if_pos rfl)
  · exact (State.access_answer_writeAccess ..).trans (if_neg hq.symm)
  · exact State.answer_writeAccess_keeps (·.cls) (fun _ _ _ => rfl) (fun _ _ => rfl) ..
  · exact State.answer_writeAccess_keeps (·.notices) (fun _ _ _ => rfl) (fun _ _ => rfl) ..
  · exact State.answer_writeAccess_keeps (·.levels) (fun _ _ _ => rfl) (fun _ _ => rfl) ..
  · exact State.answer_writeAccess_keeps (·.transaction) (fun _ _ _ => rfl) (fun _ _ => rfl) ..
  · rw [State.port_answer_other hq]
    exact ⟨State.writeAccess_keeps (·.flight) (fun _ _ => rfl) ..,
      State.writeAccess_keeps (·.reply) (fun _ _ => rfl) .., State.writeAccess_keeps (·.consumed) (fun _ _ => rfl) ..⟩
  · rw [State.port_answer_self]
    exact ⟨rfl, rfl, rfl, rfl⟩

end Sys2Proof.Machine
end

section
/-! Transactions (R147 to R151, R154, R173): what a transaction shifts out, how it ends, and how the request that it
brings is judged. -/

namespace Sys2Proof.Machine

/-! ## What is shifted out (R147, R154, R173) -/

/-- With the flight IDLE the reply buffer is shifted out (R147). -/
theorem PortState.startTransaction_idle {q : PortState} (h : q.flight = none) :
    q.startTransaction = { q with transaction := some ⟨true, q.reply⟩ } := by
  unfold PortState.startTransaction PortState.shiftOut
  rw [h]
  rfl

/-- With a request in flight BUSY is shifted out, with the code in flight (R147). -/
theorem PortState.startTransaction_inFlight {q : PortState} {req : List Byte} (h : q.flight = some req) :
    q.startTransaction = { q with
      transaction := some ⟨false, { status := .busy, echo := byteAt req 0, data := zeroData }⟩ } := by
  unfold PortState.startTransaction PortState.shiftOut PortState.codeInFlight
  rw [h]
  rfl

theorem Status.code_mem (st : Status) : (st, st.code) ∈ statusCodes := by cases st <;> decide

theorem Reply.length_bytes {x : Reply} (h : x.data.length = 14) : x.bytes.length = 16 := by
  unfold Reply.bytes
  rw [List.length_append, h]
  rfl

/-! ## The end of a transaction (R147, R150, R151) -/

theorem PortState.endTransaction_eq {q : PortState} {idle : Bool} {x : Reply} (h : q.transaction = some ⟨idle, x⟩)
    (hx : x.data.length = 14) (n : Nat) :
    q.endTransaction n = { q with transaction := none, dout := x.shifted n } := by
  unfold PortState.endTransaction
  rw [h]
  exact congrArg (fun bits => { q with transaction := none, dout := bits }) (out_eq_shifted ⟨idle, x⟩ n hx)

theorem PortState.startedIdle_eq {q : PortState} {idle : Bool} {x : Reply} (h : q.transaction = some ⟨idle, x⟩) :
    q.startedIdle = idle := by
  unfold PortState.startedIdle
  rw [h]

/-! ## The request is judged (R148) -/

/-- The first sixteen bytes are the request, its code the first of them. -/
theorem byteAt_take {l : List Byte} {n k : Nat} (h : k < n) : byteAt (l.take n) k = byteAt l k := by
  unfold byteAt
  rw [List.getD_eq_getElem?_getD, List.getElem?_take_of_lt h, ← List.getD_eq_getElem?_getD]

section

variable {q : PortState} {code : Byte}

theorem PortState.judgeRequest_disabled (hq : q.codeInFlight = code) (hcls : q.cls = .none) (hcode : code ≠ 0) :
    q.judgeRequest = { q with reply := ⟨.disabled, code, zeroData⟩, consumed := false, flight := none } := by
  subst hq
  exact if_pos ⟨hcls, hcode⟩

theorem PortState.judgeRequest_unknown (hq : q.codeInFlight = code) (hcls : q.cls ≠ .none)
    (hcode : code ∉ requestCodes) :
    q.judgeRequest = { q with reply := ⟨.unknown, code, zeroData⟩, consumed := false, flight := none } := by
  subst hq
  exact (if_neg fun h => hcls h.1).trans (if_pos hcode)

theorem PortState.judgeRequest_handed (hq : q.codeInFlight = code) (hcls : q.cls ≠ .none ∨ code = 0)
    (hcode : code ∈ requestCodes) : q.judgeRequest = q := by
  subst hq
  exact (if_neg fun ⟨hnone, hnop⟩ => hcls.elim (· hnone) hnop).trans (if_neg (not_not.2 hcode))

end

/-- The judgement decides the flight and the reply alone. -/
theorem PortState.refresh_judgeRequest (q : PortState) : q.judgeRequest.refresh = { q with
    flight := q.judgeRequest.refresh.flight, reply := q.judgeRequest.refresh.reply
    consumed := q.judgeRequest.refresh.consumed, attn := q.attnWanted } := by
  unfold PortState.judgeRequest
  split
  · rfl
  · split <;> rfl

/-- The port as its transaction ends with a request that is still to be judged (R148). -/
def PortState.requested (q : PortState) (bytes : List Byte) (bits : List Bool) : PortState :=
  { q with transaction := none, dout := bits, consumed := true, flight := some (bytes.take 16) }

theorem PortState.codeInFlight_requested (q : PortState) (bytes : List Byte) (bits : List Bool) :
    (q.requested bytes bits).codeInFlight = byteAt bytes 0 := byteAt_take (by decide)

theorem PortState.takeTransaction_eq {q : PortState} {idle : Bool} {x : Reply} (h : q.transaction = some ⟨idle, x⟩)
    (hx : x.data.length = 14) (bytes : List Byte) (extra : Nat) : q.takeTransaction ⟨bytes, extra⟩ =
      (q.requested bytes (x.shifted (8 * bytes.length + extra))).judgeRequest := by
  unfold PortState.takeTransaction
  rw [PortState.endTransaction_eq h hx]
  rfl

/-! ## The four rows -/

section

variable {s : State} {p : Port}

theorem exec_transactionStart (h : (s.port p).transaction = none) :
    exec (.transactionStart p) s = .next (s.updPort p PortState.startTransaction) := by
  show execTransactionStart p s = _
  unfold execTransactionStart
  rw [h]

theorem exec_busyTransaction {x : Reply} (h : (s.port p).transaction = some ⟨false, x⟩) (n : Nat) :
    exec (.busyTransaction ⟨p, n⟩) s = .next (s.updPort p (PortState.endTransaction n)) :=
  if_neg (by rw [PortState.startedIdle_eq h]; exact Bool.false_ne_true)

theorem exec_shortTransaction {x : Reply} {n : Nat} (h : (s.port p).transaction = some ⟨true, x⟩) (hn : n < 128) :
    exec (.shortTransaction ⟨p, n⟩) s = .next (s.updPort p (PortState.endTransaction n)) :=
  if_pos (by rw [PortState.startedIdle_eq h, decide_eq_true hn]; rfl)

theorem exec_transactionTaken {x : Reply} {bytes : List Byte} (h : (s.port p).transaction = some ⟨true, x⟩)
    (hb : 16 ≤ bytes.length) (extra : Nat) :
    exec (.transactionTaken p ⟨bytes, extra⟩) s = .next (s.updPort p (PortState.takeTransaction ⟨bytes, extra⟩)) :=
  if_pos (by rw [PortState.startedIdle_eq h, decide_eq_true hb]; rfl)

/-- A change of one port is that port replaced, with its line as the change leaves it (R158). -/
theorem State.updPort_eq_withPort {f : PortState → PortState} {q : PortState} (h : f (s.port p) = q) :
    s.updPort p f = s.withPort p { q with attn := q.attnWanted } := by
  rw [← h]
  rfl

end

/-- Settles O22: every row replaces the one port, and a taken transaction differs by how its request is judged. -/
theorem transactionsEnterFlight : Obligations.TransactionsEnterFlight := by
  refine ⟨fun p s => ⟨fun htr hidle => ?_, fun req htr hflight => ?_, fun x n htr hx => ?_, fun x n htr hx hn => ?_⟩,
    fun x hx => ⟨Reply.length_bytes hx, Status.code_mem x.status, rfl, fun k => rfl⟩,
    fun p bytes extra x s htr hx hb => ?_⟩
  · rw [exec_transactionStart htr, State.updPort_eq_withPort (PortState.startTransaction_idle hidle)]
    rfl
  · rw [exec_transactionStart htr, State.updPort_eq_withPort (PortState.startTransaction_inFlight hflight)]
    rfl
  · rw [exec_busyTransaction htr, State.updPort_eq_withPort (PortState.endTransaction_eq htr hx n)]
    rfl
  · rw [exec_shortTransaction htr hn, State.updPort_eq_withPort (PortState.endTransaction_eq htr hx n)]
    rfl
  refine ⟨_, exec_transactionTaken htr hb extra, ?_⟩
  have htaken := PortState.takeTransaction_eq htr hx bytes extra
  have hcode := (s.port p).codeInFlight_requested bytes (x.shifted (8 * bytes.length + extra))
  rw [State.port_updPort_self, htaken]
  refine ⟨State.updPort_eq_withPort htaken, PortState.refresh_judgeRequest _, fun hcls hnop => ?_, fun hcls hlist => ?_,
    fun hcls hlist => ?_⟩
  · rw [PortState.judgeRequest_disabled hcode hcls hnop]
    exact ⟨rfl, rfl, rfl⟩
  · rw [PortState.judgeRequest_unknown hcode hcls hlist]
    exact ⟨rfl, rfl, rfl⟩
  · rw [PortState.judgeRequest_handed hcode hcls hlist]
    exact ⟨rfl, rfl, rfl⟩

end Sys2Proof.Machine
end

section
/-! The notice commands and the top notice (R157 to R159). -/

namespace Sys2Proof.Machine

/-! ## The top notice (R158) -/

/-- The unmasked levels are all but 15. -/
theorem mem_unmaskedLevels {l : Fin 16} : l ∈ unmaskedLevels ↔ l ≠ 15 := by
  revert l
  decide

theorem pairwise_unmaskedLevels : unmaskedLevels.Pairwise (· < ·) := by decide

/-- There is no top notice exactly when level 15 masks every pending source. -/
theorem PortState.topNotice_eq_none {q : PortState} :
    q.topNotice = none ↔ ∀ n, q.isPending n = true → q.levels.get n = 15 := by
  unfold PortState.topNotice
  rw [List.findSome?_eq_none_iff]
  simp only [List.find?_eq_none, mem_unmaskedLevels, mem_all16, Bool.and_eq_true, beq_iff_eq, forall_const, not_and]
  constructor
  · intro h n hn
    by_contra hl
    exact h _ hl n hn rfl
  · rintro h l hl n hn rfl
    exact hl (h n hn)

/-- The top notice is the first pending source of the first level at which there is one. -/
theorem PortState.topNotice_eq_some {q : PortState} {n : Fin 16} (h : q.topNotice = some n) :
    q.isPending n = true ∧ q.levels.get n ≠ 15 ∧ ∀ m, q.isPending m = true →
      q.levels.get n < q.levels.get m ∨ (q.levels.get n = q.levels.get m ∧ n ≤ m) := by
  unfold PortState.topNotice at h
  obtain ⟨before, l, after, hsplit, hfirst, hnone⟩ := List.findSome?_eq_some_iff.1 h
  rw [find_all16] at hfirst
  simp only [Bool.and_eq_true, beq_iff_eq] at hfirst
  obtain ⟨⟨hpending, rfl⟩, hlowest⟩ := hfirst
  have hl : q.levels.get n ≠ 15 := mem_unmaskedLevels.1 (by simp [hsplit])
  have hrising := pairwise_unmaskedLevels
  rw [hsplit, List.pairwise_append, List.pairwise_cons] at hrising
  obtain ⟨-, ⟨hafter, -⟩, -⟩ := hrising
  refine ⟨hpending, hl, fun m hm => ?_⟩
  by_cases hmask : q.levels.get m = 15
  · exact .inl (by omega)
  have hmem := mem_unmaskedLevels.2 hmask
  rw [hsplit, List.mem_append, List.mem_cons] at hmem
  obtain hbefore | hsame | hlater := hmem
  · have hno := List.find?_eq_none.1 (hnone _ hbefore) m (mem_all16 m)
    simp [hm] at hno
  · exact .inr ⟨hsame.symm, hlowest m ⟨hm, hsame⟩⟩
  · exact .inl (hafter _ hlater)

/-- ATTN is asserted exactly at an enabled port with a top notice. -/
theorem PortState.attnWanted_iff {q : PortState} : q.attnWanted = true ↔ q.cls ≠ .none ∧ q.topNotice ≠ none := by
  unfold PortState.attnWanted PortState.enabled
  rw [Bool.and_eq_true, decide_eq_true_eq, Option.isSome_iff_ne_none]

/-! ## The numbers of the sources (R157) -/

theorem number_of_sourceNumbers : ∀ x ∈ sourceNumbers, x.1.number.val = x.2 := by decide

theorem Source.mem_sourceNumbers (n : Source) : (n, n.number.val) ∈ sourceNumbers := by cases n <;> decide

/-! ## The notice commands (R159) -/

theorem number16_ofNat {b : Byte} {n : Fin 16} (h : b = BitVec.ofNat 8 n.val) : number16 b = some n := by
  have hb : b.toNat = n.val := h ▸ toNat_ofNat_fin (by decide) n
  unfold number16
  rw [dif_pos (by omega)]
  exact congrArg some (Fin.ext hb)

theorem number16_out_of_range {b : Byte} (h : 15 < b.toNat) : number16 b = none := dif_neg (by omega)

section

variable {s : State} {p : Port} {req : List Byte}

theorem State.takeNoticeLevel_of_numbers {n l : Fin 16} (hn : byteAt req 1 = BitVec.ofNat 8 n.val)
    (hl : byteAt req 2 = BitVec.ofNat 8 l.val) :
    s.takeNoticeLevel p req = s.updPort p fun q => (q.setLevel n l).answerNotices := by
  unfold State.takeNoticeLevel
  rw [number16_ofNat hn, number16_ofNat hl]

theorem State.takeNoticeLevel_out_of_range (h : 15 < (byteAt req 1).toNat ∨ 15 < (byteAt req 2).toNat) :
    s.takeNoticeLevel p req = s.refuse p .range := by
  unfold State.takeNoticeLevel
  rcases h with h | h
  · rw [number16_out_of_range h]
  · rw [number16_out_of_range h]
    cases number16 (byteAt req 1) <;> rfl

/-- A change of a port's notices with its reply: the pending set and the top notice after the change, and the line that
follows (R158, R159). -/
theorem State.updPort_answerNotices {code : Byte} {f : PortState → PortState} {q : PortState} (h : s.Asks p code req)
    (hf : f (s.port p) = q) (hq : q.flight = (s.port p).flight) :
    s.updPort p (fun r => (f r).answerNotices) = s.withPort p { q with
      reply := ⟨.ok, code, (bytesOfHalf q.notices ++ [topNoticeCode q.topNotice] ++ zeroData).take 14⟩
      consumed := false, flight := none, attn := q.attnWanted } := by
  obtain ⟨hflight, hcode⟩ := h
  have hc : q.codeInFlight = code := by
    unfold PortState.codeInFlight
    rw [hq, hflight]
    exact hcode
  rw [← hc, ← hf]
  rfl

end

/-- Settles O27: the commands by the change they make at the port, the top notice by the search over the levels. -/
theorem noticeCommandsAndTheTopNotice : Obligations.NoticeCommandsAndTheTopNotice := by
  refine ⟨fun p req s => ⟨fun hasks q hq => ?_, fun n l hasks hn hl q hq => ?_, fun hasks hr => ?_⟩,
    fun n => ⟨_, n.mem_sourceNumbers⟩, fun q => ⟨fun x hx => ?_, PortState.attnWanted_iff, PortState.topNotice_eq_none,
      fun n hn => PortState.topNotice_eq_some hn⟩⟩
  · have hexec : exec (.noticeClear p) s = _ := onRequest_asks hasks _
    rw [hexec, State.updPort_answerNotices hasks hq.symm (hq ▸ rfl)]
  · have hexec : exec (.noticeLevel p) s = _ := onRequest_asks hasks (s.takeNoticeLevel p)
    rw [hexec, State.takeNoticeLevel_of_numbers hn hl, State.updPort_answerNotices hasks hq.symm (hq ▸ rfl)]
  · exact onRequest_answers hasks (State.takeNoticeLevel_out_of_range hr)
  · unfold PortState.isPending
    rw [number_of_sourceNumbers x hx]

end Sys2Proof.Machine
end

section
/-! The frames of the service link between POKEs, and RESYNC (R160 to R164, R166, R167): the kind of a frame by its command,
and what each kind answers. -/

namespace Sys2Proof.Machine

/-! ## The command and the address of a frame (R160, R161) -/

theorem kindOf_command {s : State} (h : s.link.phase = .none) (frame : Word) :
    s.link.phase.kindOf frame = commandKind (frame.extractLsb' 28 4) := by
  rw [h]
  rfl

theorem commandKind_unknown : ∀ command : BitVec 4, 5 < command.toNat → commandKind command = .unknown := by decide

/-- A command has the kind of its own row alone (R161). -/
theorem commandKind_ne_of_ne : ∀ x ∈ ([(0, .idle), (3, .watch), (4, .touched), (5, .call)] : List (BitVec 4 × FrameKind)),
    ∀ command, command ≠ x.1 → commandKind command ≠ x.2 := by decide

theorem extractLsb'_command (command : BitVec 4) (rest : BitVec 28) :
    (commandFrame command rest).extractLsb' 28 4 = command := BitVec.extractLsb'_append_eq_left

/-- The table, the entry and the word that an address frame names are those of its bits (R160). -/
theorem address_of_frame (command table : BitVec 4) (entry w low : Byte) :
    frameTable (commandFrame command (addressBits table entry w low)) = table.toNat ∧
    frameEntry (commandFrame command (addressBits table entry w low)) = entry.toNat ∧
    frameWord (commandFrame command (addressBits table entry w low)) = w.toNat := by
  unfold frameTable frameEntry frameWord commandFrame addressBits
  refine ⟨congrArg _ ?_, congrArg _ ?_, congrArg _ ?_⟩
  · rw [BitVec.extractLsb'_append_eq_of_add_le (by decide), BitVec.extractLsb'_append_eq_of_le (by decide),
      BitVec.extractLsb'_append_eq_of_le (by decide)]
    exact BitVec.extractLsb'_append_eq_left
  · rw [BitVec.extractLsb'_append_eq_of_add_le (by decide), BitVec.extractLsb'_append_eq_of_le (by decide),
      BitVec.extractLsb'_append_eq_of_le (by decide)]
    exact BitVec.extractLsb'_append_eq_right
  · rw [BitVec.extractLsb'_append_eq_of_add_le (by decide), BitVec.extractLsb'_append_eq_of_le (by decide)]
    exact BitVec.extractLsb'_append_eq_right

/-! ## What SDO and SACK give (R160, R161) -/

theorem Link.sdo_and_sackLow (l : Link) :
    l.sdo = l.answer.getLsbD (31 - l.sampled.length) ∧ (l.sackLow = true ↔ l.sampled.length < l.sack) :=
  ⟨rfl, decide_eq_true_iff⟩

/-! ## A frame taken (R161) -/

section

variable {s : State} {bits : List Bool} {frame : Word} {run : Nat}

/-- In phase NONE the bits that end a frame of the row's command take it (R160, R161). -/
theorem takeFrame_takes_command (hp : s.link.phase = .none) (h : s.TakesFrame bits frame run) {kind : FrameKind}
    (hk : commandKind (frame.extractLsb' 28 4) = kind) (f : Word → State) :
    takeFrame s bits kind f = .next ((f frame).sampledBits [] run) :=
  takeFrame_takes h ((kindOf_command hp frame).trans hk) f

/-- A frame that only answers (R161). -/
theorem takeFrame_answers (hp : s.link.phase = .none) (h : s.TakesFrame bits frame run) {command : BitVec 4}
    (hc : frame.extractLsb' 28 4 = command) {answer word : Word} (ha : answer = word) (sack : Nat) :
    takeFrame s bits (commandKind command) (fun _ => s.reply answer sack) = .next (s.framed run word sack) := by
  subst ha
  exact takeFrame_takes_command hp h (congrArg commandKind hc) _

/-- In phase NONE the bits that end a frame of another command change nothing (log 2, log 20). -/
theorem takeFrame_other_command (hp : s.link.phase = .none) (h : s.TakesFrame bits frame run) {kind : FrameKind}
    (hk : commandKind (frame.extractLsb' 28 4) ≠ kind) (f : Word → State) : takeFrame s bits kind f = .next s :=
  takeFrame_other h (by rwa [kindOf_command hp]) f

/-! ## IDLE, an unknown command, WATCH, TOUCHED and CALL (R161, R166) -/

theorem exec_idleFrame (hp : s.link.phase = .none) (h : s.TakesFrame bits frame run) (hc : frame.extractLsb' 28 4 = 0) :
    exec (.idleFrame bits) s = .next (s.framed run 0 1) := takeFrame_answers hp h hc rfl 1

theorem exec_unknownCommandFrame (hp : s.link.phase = .none) (h : s.TakesFrame bits frame run)
    (hc : 5 < (frame.extractLsb' 28 4).toNat) : exec (.unknownCommandFrame bits) s = .next (s.framed run 0 1) :=
  takeFrame_takes_command hp h (commandKind_unknown _ hc) fun _ => s.reply 0 1

theorem exec_watch (hp : s.link.phase = .none) (h : s.TakesFrame bits frame run) (hc : frame.extractLsb' 28 4 = 3)
    {word : Word} (hw : s.watchWord = word) : exec (.watch bits) s = .next (s.framed run word 1) :=
  takeFrame_answers hp h hc hw 1

theorem exec_touched (hp : s.link.phase = .none) (h : s.TakesFrame bits frame run) (hc : frame.extractLsb' 28 4 = 4)
    {word : Word} (hw : s.link.touchedAddress = word) : exec (.touched bits) s = .next (s.framed run word 1) :=
  takeFrame_answers hp h hc hw 1

theorem exec_call (hp : s.link.phase = .none) (h : s.TakesFrame bits frame run) (hc : frame.extractLsb' 28 4 = 5) :
    exec (.call bits) s = .next { s.framed run 0 1 with ports := (s.postAll .serviceCall).ports } :=
  takeFrame_takes_command hp h (congrArg commandKind hc) fun _ => (s.postAll .serviceCall).reply 0 1

end

section

variable {s : State}

theorem State.watchWord_none (h : s.link.touched = none) : s.watchWord = 0 := by
  unfold State.watchWord
  rw [h]

theorem State.watchWord_claim {i : ClaimIdx} (h : s.link.touched = some (.claim i)) :
    s.watchWord = (s.claim i).words.getD 0 0 := by
  unfold State.watchWord
  rw [h]
  rfl

theorem State.watchWord_batch {k : Nat} {r : BatchRecord} (h : s.link.touched = some (.batch k r.seq))
    (hr : s.batch.records[k]? = some r) : s.watchWord = (r.words k).getD 0 0 := by
  unfold State.watchWord
  simp only [h, hr, if_true]
  rfl

/-- A batch record that has left its position is watched as zero (R166). -/
theorem State.watchWord_gone {k : Nat} {n : Word} (h : s.link.touched = some (.batch k n))
    (hr : ∀ r, s.batch.records[k]? = some r → r.seq ≠ n) : s.watchWord = 0 := by
  unfold State.watchWord
  simp only [h]
  cases hk : s.batch.records[k]? with
  | none => rfl
  | some r => exact if_neg (hr r hk)

theorem Link.touchedAddress_none {l : Link} (h : l.touched = none) : l.touchedAddress = 0 := by
  unfold Link.touchedAddress
  rw [h]

theorem Link.touchedAddress_claim {l : Link} {i : ClaimIdx} (h : l.touched = some (.claim i)) :
    l.touchedAddress = commandFrame 0 (addressBits 1 (BitVec.ofNat 8 i.val) 0 0) := by
  unfold Link.touchedAddress
  rw [h]

theorem Link.touchedAddress_batch {l : Link} {k : Nat} {n : Word} (h : l.touched = some (.batch k n)) :
    l.touchedAddress = commandFrame 0 (addressBits 2 (BitVec.ofNat 8 k) 0 0) := by
  unfold Link.touchedAddress
  rw [h]

/-! ## PEEK (R163) -/

theorem State.snapshotOf_eq (s : State) (table entry : Nat) : s.snapshotOf table entry =
    if s.recordWords table entry = [] then none else some ⟨table, entry, s.recordWords table entry⟩ := by
  unfold State.snapshotOf
  cases s.recordWords table entry <;> rfl

/-- The link holds a snapshot of that record (log 34). -/
theorem State.takePeek_held {table entry w : Nat} (hw : w ≠ 0) {x : Snapshot} (hx : s.link.snapshot = some x)
    (ht : x.table = table) (he : x.entry = entry) : s.takePeek table entry w = s.reply (x.words.getD w 0) 2 := by
  have hholds : s.link.holdsSnapshot table entry = true := by
    simp [Link.holdsSnapshot, hx, ht, he]
  have hwords : s.link.snapshotWords = x.words := by
    unfold Link.snapshotWords
    rw [hx]
  unfold State.takePeek
  rw [if_neg hw, if_pos hholds, hwords]

theorem State.takePeek_live {table entry w : Nat} (hw : w ≠ 0)
    (hx : ∀ x, s.link.snapshot = some x → x.table ≠ table ∨ x.entry ≠ entry) :
    s.takePeek table entry w = s.reply (s.readWord table entry w) 2 := by
  have hholds : ¬ s.link.holdsSnapshot table entry = true := by
    unfold Link.holdsSnapshot
    cases hsnap : s.link.snapshot with
    | none => exact Bool.false_ne_true
    | some x =>
      rw [decide_eq_true_iff]
      rintro ⟨ht, he⟩
      exact (hx x hsnap).elim (absurd ht) (absurd he)
  unfold State.takePeek
  rw [if_neg hw, if_neg hholds]

variable {table : BitVec 4} {entry w low : Byte} {run : Nat}

theorem exec_peek (hp : s.link.phase = .none)
    (h : s.TakesFrame (s.link.bitsLeft (commandFrame 1 (addressBits table entry w low)))
      (commandFrame 1 (addressBits table entry w low)) run) :
    exec (.peek table entry w low) s =
      .next ((s.takePeek table.toNat entry.toNat w.toNat).sampledBits [] run) := by
  obtain ⟨ht, he, hw⟩ := address_of_frame 1 table entry w low
  rw [← ht, ← he, ← hw]
  exact takeFrame_takes_command hp h (congrArg commandKind (extractLsb'_command _ _)) fun frame =>
    s.takePeek (frameTable frame) (frameEntry frame) (frameWord frame)

/-! ## POKE (R164) -/

theorem exec_poke (hp : s.link.phase = .none)
    (h : s.TakesFrame (s.link.bitsLeft (commandFrame 2 (addressBits table entry w low)))
      (commandFrame 2 (addressBits table entry w low)) run) :
    exec (.poke table entry w low) s =
      .next ((s.takePoke table.toNat entry.toNat w.toNat).sampledBits [] run) := by
  obtain ⟨ht, he, hw⟩ := address_of_frame 2 table entry w low
  rw [← ht, ← he, ← hw]
  exact takeFrame_takes_command hp h (congrArg commandKind (extractLsb'_command _ _)) fun frame =>
    s.takePoke (frameTable frame) (frameEntry frame) (frameWord frame)

/-- The number of a table is 2 exactly when its bits are (R162). -/
theorem State.recordedSeq_toNat (s : State) (table : BitVec 4) (entry : Nat) : s.recordedSeq table.toNat entry =
    if table = 2 then s.batch.records[entry]?.map (·.seq) else none := by
  unfold State.recordedSeq
  exact if_congr (BitVec.toNat_inj (y := 2)) rfl rfl

/-! ## RESYNC (R167) -/

theorem exec_resync (h : s.link.sampled.length + (64 - s.link.onesRun) ≤ 32) :
    exec .resync s = .next { s with link := s.link.resync } := if_pos (decide_eq_true h)

end

/-! ## The statement -/

/-- The bits of every row that names no address wait alike (R160). -/
theorem exec_waits {s : State} {bits : List Bool} {run : Nat} (h : onesAfter s.link.onesRun bits = some run)
    (hlen : s.link.sampled.length + bits.length < 32) : ∀ c ∈ ([.idleFrame bits, .unknownCommandFrame bits,
      .pokeDataFrame bits, .verifyFrame bits, .watch bits, .touched bits, .call bits] : List Instr),
    exec c s = .next { s with link := { s.link with sampled := s.link.sampled ++ bits, onesRun := run } } := by
  simp only [List.forall_mem_cons, List.not_mem_nil, false_imp_iff, implies_true, and_true]
  have hwaits := takeFrame_waits h hlen
  exact ⟨hwaits .idle fun _ => s.reply 0 1, hwaits .unknown fun _ => s.reply 0 1, hwaits .pokeData s.takeData,
    hwaits .verify fun _ => s.takeVerify, hwaits .watch fun _ => s.reply s.watchWord 1,
    hwaits .touched fun _ => s.reply s.link.touchedAddress 1, hwaits .call fun _ => (s.postAll .serviceCall).reply 0 1⟩

/-- A frame of another command changes nothing at a row that names no address (log 2, log 20). -/
theorem exec_other_command {s : State} {bits : List Bool} {frame : Word} {run : Nat} (hp : s.link.phase = .none)
    (h : s.TakesFrame bits frame run) : ∀ x ∈ ([(.idleFrame bits, 0), (.watch bits, 3), (.touched bits, 4),
      (.call bits, 5)] : List (Instr × BitVec 4)), frame.extractLsb' 28 4 ≠ x.2 → exec x.1 s = .next s := by
  have hother : ∀ x ∈ ([(0, .idle), (3, .watch), (4, .touched), (5, .call)] : List (BitVec 4 × FrameKind)),
      frame.extractLsb' 28 4 ≠ x.1 → ∀ f, takeFrame s bits x.2 f = .next s := fun x hx hne =>
    takeFrame_other_command hp h (commandKind_ne_of_ne x hx _ hne)
  simp only [List.forall_mem_cons, List.not_mem_nil, false_imp_iff, implies_true, and_true] at hother ⊢
  obtain ⟨hidle, hwatch, htouched, hcall⟩ := hother
  exact ⟨fun hne => hidle hne fun _ => s.reply 0 1, fun hne => hwatch hne fun _ => s.reply s.watchWord 1,
    fun hne => htouched hne fun _ => s.reply s.link.touchedAddress 1,
    fun hne => hcall hne fun _ => (s.postAll .serviceCall).reply 0 1⟩

/-- Settles O58: the bits wait, or end a frame that its command takes. -/
theorem serviceFramesAnswer : Obligations.ServiceFramesAnswer := by
  refine ⟨Link.sdo_and_sackLow, fun s bits c run hc hr hlen => exec_waits hr hlen c hc,
    fun s bits frame run hp h => ⟨exec_idleFrame hp h, exec_unknownCommandFrame hp h, fun hc => ?_, fun hc => ?_,
      fun hc => ?_, fun c command hc => exec_other_command hp h (c, command) hc⟩,
    fun s table entry w low run hp => ⟨fun h => ⟨fun hw => ?_, fun hw => ⟨fun x hx ht he => ?_, fun hx => ?_⟩⟩,
      fun h => ?_⟩, fun s => exec_resync⟩
  · exact ⟨fun ht => exec_watch hp h hc (State.watchWord_none ht), fun i ht => exec_watch hp h hc (State.watchWord_claim ht),
      fun k r ht hr => exec_watch hp h hc (State.watchWord_batch ht hr),
      fun k n ht hr => exec_watch hp h hc (State.watchWord_gone ht hr)⟩
  · exact ⟨fun ht => exec_touched hp h hc (Link.touchedAddress_none ht),
      fun i ht => exec_touched hp h hc (Link.touchedAddress_claim ht),
      fun k n ht => exec_touched hp h hc (Link.touchedAddress_batch ht)⟩
  · have hnotes := (s.notifies_postAll .serviceCall).congr (s' := s)
      (t' := { s.framed run 0 1 with ports := (s.postAll .serviceCall).ports }) rfl rfl
    exact ⟨_, exec_call hp h hc, rfl, fun q => hnotes.posted rfl, hnotes.ports, hnotes.posts⟩
  · subst hw
    rw [exec_peek hp h, ← State.snapshotOf_eq]
    rfl
  · have hne : w.toNat ≠ 0 := fun h0 => hw (BitVec.eq_of_toNat_eq h0)
    rw [exec_peek hp h, State.takePeek_held hne hx ht he]
    rfl
  · have hne : w.toNat ≠ 0 := fun h0 => hw (BitVec.eq_of_toNat_eq h0)
    rw [exec_peek hp h, State.takePeek_live hne hx]
    rfl
  · rw [exec_poke hp h, ← State.recordedSeq_toNat]
    rfl

end Sys2Proof.Machine
end

section
/-! The words of the state image tables (R162, R174): a word of four bytes read field by field, and the records of each
table. -/

namespace Sys2Proof.Machine

/-! ## A word of bytes, read back -/

theorem word_eq_halves (a b c d : Byte) : word a b c d = half a b ++ half c d := by
  unfold word half
  rw [BitVec.append_assoc]
  rfl

/-- Two half words fill a word (R174). -/
theorem wordsOf_two_halves (x y : Half) : wordsOf (bytesOfHalf x ++ bytesOfHalf y) = [x ++ y] := by
  show [word (x.extractLsb' 8 8) (x.extractLsb' 0 8) (y.extractLsb' 8 8) (y.extractLsb' 0 8)] = [x ++ y]
  rw [word_eq_halves, half_bytes, half_bytes]

theorem lower_half_of_word (a b : Byte) (x : Half) :
    (word a b (x.extractLsb' 8 8) (x.extractLsb' 0 8)).extractLsb' 0 16 = x := by
  rw [word_eq_halves, half_bytes]
  exact BitVec.extractLsb'_append_eq_right

section

variable (a b c d : Byte) {k n : Nat}

/-- A field within the second byte of a word. -/
theorem extractLsb'_word_second (h : k + n ≤ 8) : (word a b c d).extractLsb' (16 + k) n = b.extractLsb' k n := by
  unfold word
  rw [BitVec.extractLsb'_append_eq_of_le (by omega), BitVec.extractLsb'_append_eq_of_le (by omega),
    BitVec.extractLsb'_append_eq_of_add_le (by omega), show 16 + k - 8 - 8 = k by omega]

/-- A field within the last byte of a word. -/
theorem extractLsb'_word_last (h : k + n ≤ 8) : (word a b c d).extractLsb' k n = d.extractLsb' k n :=
  BitVec.extractLsb'_append_eq_of_add_le h

/-- The four bytes of a word. -/
theorem bytes_of_word : (word a b c d).extractLsb' 24 8 = a ∧ (word a b c d).extractLsb' 16 8 = b ∧
    (word a b c d).extractLsb' 8 8 = c ∧ (word a b c d).extractLsb' 0 8 = d := by
  refine ⟨?_, ?_, ?_, BitVec.extractLsb'_append_eq_right⟩ <;> unfold word
  · rw [BitVec.extractLsb'_append_eq_of_le (by decide), BitVec.extractLsb'_append_eq_of_le (by decide)]
    exact BitVec.extractLsb'_append_eq_left
  · rw [BitVec.extractLsb'_append_eq_of_le (by decide), BitVec.extractLsb'_append_eq_of_le (by decide)]
    exact BitVec.extractLsb'_append_eq_right
  · rw [BitVec.extractLsb'_append_eq_of_le (by decide)]
    exact BitVec.extractLsb'_append_eq_right

theorem getLsbD_word_last (h : k < 8) : (word a b c d).getLsbD k = d.getLsbD k :=
  BitVec.getLsbD_append.trans (if_pos h)

theorem getLsbD_word_second (h : k < 8) : (word a b c d).getLsbD (16 + k) = b.getLsbD k := by
  have hbit := congrArg (BitVec.getLsbD · 0) (extractLsb'_word_second a b c d (k := k) (n := 1) h)
  simpa using hbit

end

theorem flagBit_fields (a : Bool) : (flagBit a 0).getLsbD 0 = a ∧ (flagBit a 0).extractLsb' 1 7 = 0 := by
  revert a
  decide

/-- Two flags alone in a word. -/
theorem two_flags_word (a b : Bool) : ∀ x, x = word 0 0 0 (flagBit a 0 ||| flagBit b 1) →
    x.getLsbD 0 = a ∧ x.getLsbD 1 = b ∧ x.extractLsb' 2 30 = 0 := by
  rintro _ rfl
  revert a b
  decide

/-- Two flags above a position in a word. -/
theorem position_word (k : Fin 8) (a b : Bool) :
    ∀ x, x = word 0 0 (flagBit a 0 ||| flagBit b 1) (BitVec.ofNat 8 k.val) →
    (x.extractLsb' 0 8).toNat = k.val ∧ x.getLsbD 8 = a ∧ x.getLsbD 9 = b ∧ x.extractLsb' 10 22 = 0 := by
  rintro _ rfl
  revert k a b
  decide

/-- A flag below a byte in a word. -/
theorem byte_and_flag_word (b : Byte) (a : Bool) : ∀ x, x = word 0 0 b (flagBit a 0) →
    x.getLsbD 0 = a ∧ x.extractLsb' 8 8 = b ∧ x.extractLsb' 1 7 = 0 ∧ x.extractLsb' 16 16 = 0 := by
  rintro _ rfl
  obtain ⟨hflag, hzero⟩ := flagBit_fields a
  obtain ⟨-, -, hbyte, -⟩ := bytes_of_word 0 0 b (flagBit a 0)
  refine ⟨(getLsbD_word_last _ _ _ _ (by decide)).trans hflag, hbyte,
    (extractLsb'_word_last _ _ _ _ (by decide)).trans hzero, ?_⟩
  rw [word_eq_halves]
  exact BitVec.extractLsb'_append_eq_left

/-! ## The words of each record (R174) -/

theorem Claim.words_eq (c : Claim) : c.words = [c.stateWord,
    fourBytes c.active.layoutC 0, fourBytes c.active.layoutC 1, fourBytes c.active.layoutC 2, fourBytes c.active.layoutC 3,
    fourBytes c.staged.layoutC 0, fourBytes c.staged.layoutC 1, fourBytes c.staged.layoutC 2, fourBytes c.staged.layoutC 3,
    BitVec.ofNat 16 c.remRun ++ BitVec.ofNat 16 c.remDeadline, c.grantStamp.getD 0,
    word 0 0 0 (flagBit c.grantStamp.isSome 0 ||| flagBit c.yielded 1)] := by
  unfold Claim.words half16
  rw [wordsOf_two_halves]
  rfl

theorem Claim.stateWord_fields (c : Claim) :
    (c.state, c.stateWord.extractLsb' 24 8) ∈ claimStateCodes ∧ CarriesOwner (c.stateWord.extractLsb' 16 8) c.owner ∧
    (c.outcome, c.stateWord.extractLsb' 8 8) ∈ claimOutcomeCodes ∧
    (c.active.kind, c.stateWord.extractLsb' 4 4) ∈ kindCodes ∧
    (c.active.target, c.stateWord.extractLsb' 0 4) ∈ targetCodes := by
  unfold Claim.stateWord
  obtain ⟨hstate, howner, houtcome, -⟩ :=
    bytes_of_word c.state.code (ownerCode c.owner) c.outcome.code c.active.kindTargetByte
  obtain ⟨hkind, htarget⟩ := c.active.kindTargetByte_codes
  rw [hstate, howner, houtcome, extractLsb'_word_last _ _ _ _ (by decide), extractLsb'_word_last _ _ _ _ (by decide)]
  exact ⟨c.state.code_mem, carriesOwner_ownerCode _, c.outcome.code_mem, hkind, htarget⟩

theorem BatchState.code_mem (x : BatchState) : (x, x.code) ∈ batchStateCodes := by cases x <;> decide

theorem BatchRecord.words_eq (r : BatchRecord) (k : Nat) : r.words k = [r.stateWord, r.seq, r.tag.setWidth 32,
    overrideWord r.doseOverride, overrideWord r.grindOverride, r.mass.elim 0x80000000 (BitVec.ofNat 32),
    BitVec.ofNat 16 r.dose ++ BitVec.ofNat 16 r.grind, r.openedAt, r.curedAt.getD 0,
    word 0 0 (flagBit r.merged 0 ||| flagBit r.curedAt.isSome 1) (BitVec.ofNat 8 k)] := by
  unfold BatchRecord.words half16
  rw [wordsOf_two_halves]
  cases r.mass <;> rfl

theorem Summary.words_eq (x : Summary) : x.words = [x.seq,
    word x.outcomeCode (flagBit x.overrun 0) ((massCode x.mass).extractLsb' 8 8) ((massCode x.mass).extractLsb' 0 8),
    BitVec.ofNat 16 x.dose ++ BitVec.ofNat 16 x.grind, x.openedAt, x.curedAt.getD 0, x.retiredAt,
    x.tag.setWidth 32] := by
  unfold Summary.words half16
  rw [wordsOf_two_halves]
  rfl

theorem PortState.words_eq (q : PortState) : q.words =
    [word q.cls.code (flagBit q.flight.isSome 0) q.codeInFlight (flagBit q.attn 0),
    fourBytes ([q.cls.code] ++ q.access.bytes) 0, q.notices.setWidth 32, fourBytes q.levelBytes 0,
    fourBytes q.levelBytes 1] := rfl

theorem State.chamberWords_eq (s : State) : s.chamberWords =
    [fourBytes s.statusPart0 0, fourBytes s.statusPart0 1, fourBytes s.statusPart0 2, fourBytes s.statusPart0 3,
    fourBytes s.statusPart1 0, fourBytes s.statusPart1 1, fourBytes s.statusPart1 2, fourBytes s.statusPart1 3,
    word 0 0 (BitVec.ofNat 8 s.drives.fanDuty) (flagBit s.drives.heaterOn 0)] := rfl

theorem Rotor.words_monitor (r : Rotor) : r.words 0 =
    [fourBytes (r.part 0) 0, fourBytes (r.part 0) 1, fourBytes (r.part 0) 2, fourBytes (r.part 0) 3] := rfl

theorem Rotor.words_ring {r : Rotor} {k : Nat} {x : PulseRecord} (hk : k ≤ 7) (hx : r.ring[k]? = some x) :
    r.words (k + 1) = [x.stamp, fourBytes [x.ringByte] 0] := by
  unfold Rotor.words
  rw [if_neg (by omega), if_neg (by omega), Nat.add_sub_cancel, hx]
  rfl

theorem Rotor.words_of_no_record {r : Rotor} {entry : Nat} (h : 8 < entry ∨ r.ring.length < entry) :
    r.words entry = [] := by
  unfold Rotor.words
  rw [if_neg (by omega)]
  split
  · rfl
  · rw [List.getElem?_eq_none (by omega)]

/-! ## The tables (R162) -/

section

variable (s : State)

theorem State.recordWords_tuning (k : Fin 13) : s.recordWords 0 k.val = [BitVec.ofNat 32 (s.tuning.get k)] :=
  dif_pos k.isLt

theorem State.recordWords_claim (i : ClaimIdx) : s.recordWords 1 i.val = (s.claim i).words := dif_pos i.isLt

theorem State.recordWords_port (p : Port) : s.recordWords 4 p.val = (s.port p).words := dif_pos p.isLt

variable {s}

theorem State.recordWords_batch {k : Nat} {r : BatchRecord} (h : s.batch.records[k]? = some r) :
    s.recordWords 2 k = r.words k := by
  unfold State.recordWords
  simp only [h]

theorem State.recordWords_summary {k : Nat} {x : Summary} (h : s.batch.retired[k]? = some x) :
    s.recordWords 3 k = x.words := by
  unfold State.recordWords
  simp only [h]

/-- An address beyond its table, or of no table, has no record (R162). -/
theorem State.recordWords_of_no_record {table entry : Nat} (h : 6 < table ∨ (table = 0 ∧ 12 < entry) ∨
    (table = 1 ∧ 15 < entry) ∨ (table = 2 ∧ s.batch.records.length ≤ entry) ∨
    (table = 3 ∧ s.batch.retired.length ≤ entry) ∨ (table = 4 ∧ 2 < entry) ∨ (table = 5 ∧ 0 < entry) ∨
    (table = 6 ∧ (8 < entry ∨ s.rotor.ring.length < entry))) : s.recordWords table entry = [] := by
  obtain ht | ⟨rfl, he⟩ | ⟨rfl, he⟩ | ⟨rfl, he⟩ | ⟨rfl, he⟩ | ⟨rfl, he⟩ | ⟨rfl, he⟩ | ⟨rfl, he⟩ := h
  · obtain ⟨n, rfl⟩ := Nat.exists_eq_add_of_lt ht
    rw [show 6 + n + 1 = n + 7 by omega]
    rfl
  · exact dif_neg (by omega)
  · exact dif_neg (by omega)
  · unfold State.recordWords
    simp only [List.getElem?_eq_none he]
  · unfold State.recordWords
    simp only [List.getElem?_eq_none he]
  · exact dif_neg (by omega)
  · exact if_neg (by omega)
  · exact Rotor.words_of_no_record he

end

/-! ## The statement -/

/-- Settles O60: the words of each record by their places, and in each the fields that R174 places there. -/
theorem imageWordsCarryTheirFields : Obligations.ImageWordsCarryTheirFields := by
  refine fun s => ⟨s.recordWords_tuning, ?_, ?_, ?_, ?_, ?_, ?_, ?_, fun _ _ => State.recordWords_of_no_record,
    fun table entry w h => List.getD_eq_default _ _ h⟩
  · rintro i c ws rfl rfl
    rw [s.recordWords_claim]
    generalize s.claim i = c
    obtain ⟨hstate, howner, houtcome, hkind, htarget⟩ := c.stateWord_fields
    obtain ⟨hstamp, hyielded, hzero⟩ := two_flags_word c.grantStamp.isSome c.yielded _ rfl
    rw [c.words_eq]
    exact ⟨rfl, rfl, hstate, howner, houtcome, hkind, htarget, fun j hj => by interval_cases j <;> rfl,
      fun j hj => by interval_cases j <;> rfl, BitVec.extractLsb'_append_eq_left, BitVec.extractLsb'_append_eq_right,
      fun w h => congrArg (Option.getD · 0) h, fun h => congrArg (Option.getD · 0) h, hstamp, hyielded, hzero⟩
  · rintro k r ws hk hr rfl
    obtain ⟨hposition, hmerged, hcured, hzero⟩ := position_word ⟨k, by omega⟩ r.merged r.curedAt.isSome _ rfl
    rw [State.recordWords_batch hr, r.words_eq]
    refine ⟨rfl, rfl, ?_, BitVec.extractLsb'_append_eq_right, rfl, rfl, congrArg overrideWord,
      fun v => congrArg overrideWord, congrArg overrideWord, fun v => congrArg overrideWord, congrArg (Option.elim · _ _),
      fun g => congrArg (Option.elim · _ _), BitVec.extractLsb'_append_eq_left, BitVec.extractLsb'_append_eq_right, rfl,
      fun w h => congrArg (Option.getD · 0) h, fun h => congrArg (Option.getD · 0) h, hposition, hmerged, hcured, hzero⟩
    have hcode : r.stateWord.extractLsb' 24 8 = r.state.code := BitVec.extractLsb'_append_eq_left
    exact hcode ▸ r.state.code_mem
  · rintro k x ws hx rfl
    obtain ⟨hoverrun, hzero⟩ := flagBit_fields x.overrun
    rw [State.recordWords_summary hx, x.words_eq]
    refine ⟨rfl, rfl, (bytes_of_word _ _ _ _).1, (getLsbD_word_second _ _ _ _ (k := 0) (by decide)).trans hoverrun,
      (extractLsb'_word_second _ _ _ _ (k := 1) (by decide)).trans hzero, ?_, BitVec.extractLsb'_append_eq_left,
      BitVec.extractLsb'_append_eq_right, rfl, fun w h => congrArg (Option.getD · 0) h,
      fun h => congrArg (Option.getD · 0) h, rfl, rfl⟩
    have hmass := lower_half_of_word x.outcomeCode (flagBit x.overrun 0) (massCode x.mass)
    exact hmass.symm ▸ carriesMass_massCode x.mass
  · rintro p q ws rfl rfl
    rw [s.recordWords_port]
    generalize s.port p = q
    obtain ⟨hclass, -, hcode, -⟩ :=
      bytes_of_word q.cls.code (flagBit q.flight.isSome 0) q.codeInFlight (flagBit q.attn 0)
    obtain ⟨hflight, hzero⟩ := flagBit_fields q.flight.isSome
    obtain ⟨hattn, hzero'⟩ := flagBit_fields q.attn
    rw [q.words_eq]
    refine ⟨rfl, ?_, (getLsbD_word_second _ _ _ _ (k := 0) (by decide)).trans hflight,
      (extractLsb'_word_second _ _ _ _ (k := 1) (by decide)).trans hzero, fun req h => hcode.trans ?_,
      fun h => hcode.trans ?_, (getLsbD_word_last _ _ _ _ (by decide)).trans hattn,
      (extractLsb'_word_last _ _ _ _ (by decide)).trans hzero', rfl, rfl, fun j hj => by interval_cases j <;> rfl⟩
    · exact hclass.symm ▸ q.cls.code_mem
    · unfold PortState.codeInFlight
      rw [h]
    · unfold PortState.codeInFlight
      rw [h]
  · rintro ws rfl
    obtain ⟨hheater, hfan, hlow, hhigh⟩ := byte_and_flag_word (BitVec.ofNat 8 s.drives.fanDuty) s.drives.heaterOn _ rfl
    rw [show s.recordWords 5 0 = s.chamberWords from rfl, s.chamberWords_eq]
    exact ⟨rfl, fun j hj => by interval_cases j <;> rfl, fun j hj => by interval_cases j <;> rfl, hheater, hfan, hlow,
      hhigh⟩
  · rintro ws rfl
    rw [show s.recordWords 6 0 = s.rotor.words 0 from rfl, s.rotor.words_monitor]
    exact ⟨rfl, fun j hj => by interval_cases j <;> rfl⟩
  · exact fun k x hk hx => Rotor.words_ring hk hx

end Sys2Proof.Machine
end

section
/-! The last-touched latch (R166): an event at the claim table leaves it on the highest entry whose state it has changed
(log 11), and an event of the batch unit on the youngest record whose state it has changed in its place. -/

namespace Sys2Proof.Machine

/-! ## Events at the claim table -/

/-- The highest entry whose state has changed is what the latch names (R166, log 11). -/
theorem touchedAfter_highest {old new : Table} {i : ClaimIdx} {before : Option Touched}
    (hi : (old.get i).state ≠ (new.get i).state) (hlast : ∀ j, i < j → (old.get j).state = (new.get j).state) :
    touchedAfter old new before = some (.claim i) := by
  have hmem : i ∈ changedEntries old new := List.mem_filter.2 ⟨mem_all16 i, decide_eq_true hi⟩
  obtain ⟨a, b, hl⟩ := List.append_of_mem hmem
  have hrising : (changedEntries old new).Pairwise (· < ·) := pairwise_all16.sublist List.filter_sublist
  rw [hl] at hrising
  obtain ⟨-, htail, -⟩ := List.pairwise_append.1 hrising
  have hnil : b = [] := List.eq_nil_iff_forall_not_mem.2 fun j hj => by
    have hchanged : j ∈ changedEntries old new := hl ▸ List.mem_append_right a (List.mem_cons_of_mem i hj)
    exact of_decide_eq_true (List.mem_filter.1 hchanged).2 (hlast j ((List.pairwise_cons.1 htail).1 j hj))
  unfold touchedAfter
  rw [hl, hnil, List.getLast?_concat]

/-- The latch follows the entries of the claim table, and the batch records stand. -/
structure State.ClaimsTouched (s t : State) : Prop where
  records : t.batch.records = s.batch.records
  touched : t.link.touched = touchedAfter s.claims t.claims s.link.touched

/-- Where no entry changes its state and the records stand, the latch stands. -/
theorem State.ClaimsTouched.of_states {s t : State} (hc : ∀ i, (t.claim i).state = (s.claim i).state)
    (hr : t.batch.records = s.batch.records) (hl : t.link.touched = s.link.touched) : s.ClaimsTouched t :=
  ⟨hr, hl.trans (touchedAfter_of_none fun i => (hc i).symm).symm⟩

theorem State.ClaimsTouched.of_eq {s t : State} (hc : t.claims = s.claims) (hr : t.batch.records = s.batch.records)
    (hl : t.link.touched = s.link.touched) : s.ClaimsTouched t :=
  .of_states (fun i => congrArg Claim.state (State.claim_congr hc i)) hr hl

theorem State.ClaimsTouched.refl (s : State) : s.ClaimsTouched s := .of_eq rfl rfl rfl

/-- What follows leaves the table, the records and the latch alone. -/
theorem State.ClaimsTouched.after {s t u : State} (h : s.ClaimsTouched t) (hc : u.claims = t.claims)
    (hr : u.batch.records = t.batch.records) (hl : u.link.touched = t.link.touched) : s.ClaimsTouched u :=
  ⟨hr.trans h.records, by rw [hl, hc, h.touched]⟩

theorem State.ClaimsTouched.answer {s t : State} (h : s.ClaimsTouched t) (p : Port) (st : Status) (data : List Byte) :
    s.ClaimsTouched (t.answer p st data) := h.after rfl rfl rfl

theorem State.touchClaims_touched (u : State) (old : Table) :
    (u.touchClaims old).link.touched = touchedAfter old u.claims u.link.touched := rfl

theorem State.conclude_touched (u old : State) :
    (u.conclude old).link.touched = touchedAfter old.claims (u.conclude old).claims u.link.touched := by
  unfold State.conclude
  rw [State.touchClaims_touched, State.touchClaims_claims, State.settleOutputs_link]

/-- The end of an event that began at a state with the same claim table (R166). -/
theorem State.claimsTouched_conclude {s old u : State} (hc : old.claims = s.claims)
    (hr : u.batch.records = s.batch.records) (hl : u.link.touched = s.link.touched) :
    s.ClaimsTouched (u.conclude old) := by
  refine ⟨(congrArg BatchUnit.records (u.conclude_batch old)).trans hr, ?_⟩
  rw [State.conclude_touched, hc, hl]

theorem State.claimsTouched_ite {c : Prop} [Decidable c] {s t u : State} (ht : s.ClaimsTouched t)
    (hu : s.ClaimsTouched u) : s.ClaimsTouched (if c then t else u) := by
  split
  · exact ht
  · exact hu

/-! ## Events of the batch unit -/

/-- No record has changed its state in its place. -/
def State.RecordStatesStand (s t : State) : Prop :=
  ∀ (k : Nat) (r r' : BatchRecord), s.batch.records[k]? = some r → t.batch.records[k]? = some r' → r'.state = r.state

/-- The latch is on the youngest of the records that have changed their states in their places, if there is one. -/
def State.TouchesYoungest (s t : State) : Prop :=
  ∀ (k : Nat) (r r' : BatchRecord), s.batch.records[k]? = some r → t.batch.records[k]? = some r' → r'.state ≠ r.state →
    (∀ (j : Nat) (x x' : BatchRecord), k < j → s.batch.records[j]? = some x → t.batch.records[j]? = some x' →
      x'.state = x.state) →
    t.link.touched = some (.batch k r'.seq)

theorem State.TouchesYoungest.answer {s t : State} (h : s.TouchesYoungest t) (p : Port) (st : Status)
    (data : List Byte) : s.TouchesYoungest (t.answer p st data) := by
  unfold State.TouchesYoungest
  rw [State.answer_batch, State.answer_link]
  exact h

/-- The latch follows the batch records, and the claim table stands. -/
structure State.RecordsTouched (s t : State) : Prop where
  claims : t.claims = s.claims
  youngest : s.TouchesYoungest t
  stands : s.RecordStatesStand t → t.link.touched = s.link.touched

theorem State.recordStatesStand_of_eq {s t : State} (h : t.batch.records = s.batch.records) : s.RecordStatesStand t :=
  fun k r r' hr hr' => by
    rw [h, hr, Option.some.injEq] at hr'
    rw [hr']

theorem State.RecordStatesStand.touchesYoungest {s t : State} (h : s.RecordStatesStand t) : s.TouchesYoungest t :=
  fun k r r' hr hr' hne _ => absurd (h k r r' hr hr') hne

theorem State.RecordsTouched.of_stand {s t : State} (hc : t.claims = s.claims) (hr : s.RecordStatesStand t)
    (hl : t.link.touched = s.link.touched) : s.RecordsTouched t := ⟨hc, hr.touchesYoungest, fun _ => hl⟩

theorem State.RecordsTouched.of_eq {s t : State} (hc : t.claims = s.claims) (hr : t.batch.records = s.batch.records)
    (hl : t.link.touched = s.link.touched) : s.RecordsTouched t := .of_stand hc (State.recordStatesStand_of_eq hr) hl

theorem State.RecordsTouched.refl (s : State) : s.RecordsTouched s := .of_eq rfl rfl rfl

/-- What follows leaves the table, the records and the latch alone. -/
theorem State.RecordsTouched.after {s t u : State} (h : s.RecordsTouched t) (hc : u.claims = t.claims)
    (hr : u.batch.records = t.batch.records) (hl : u.link.touched = t.link.touched) : s.RecordsTouched u := by
  obtain ⟨hclaims, hyoungest, hstands⟩ := h
  unfold State.TouchesYoungest State.RecordStatesStand at *
  rw [← hr, ← hl] at hyoungest hstands
  exact ⟨hc.trans hclaims, hyoungest, hstands⟩

/-- What came before left the table, the records and the latch alone. -/
theorem State.RecordsTouched.since {s t u : State} (h : t.RecordsTouched u) (hc : t.claims = s.claims)
    (hr : t.batch.records = s.batch.records) (hl : t.link.touched = s.link.touched) : s.RecordsTouched u := by
  obtain ⟨hclaims, hyoungest, hstands⟩ := h
  unfold State.TouchesYoungest State.RecordStatesStand at *
  rw [hr] at hyoungest hstands
  rw [hl] at hstands
  exact ⟨hclaims.trans hc, hyoungest, hstands⟩

theorem State.recordsTouched_ite {c : Prop} [Decidable c] {s t u : State} (ht : s.RecordsTouched t)
    (hu : s.RecordsTouched u) : s.RecordsTouched (if c then t else u) := by
  split
  · exact ht
  · exact hu

/-- An event that can change the state of one record alone, and then leaves the latch on it. -/
theorem State.touchesYoungest_of_one {s t : State} {k : Nat} (hother : ∀ j, j ≠ k →
      t.batch.records[j]? = s.batch.records[j]?)
    (hk : ∀ r r', s.batch.records[k]? = some r → t.batch.records[k]? = some r' → r'.state ≠ r.state →
      t.link.touched = some (.batch k r'.seq)) : s.TouchesYoungest t := by
  intro j r r' hr hr' hne _
  by_cases hj : j = k
  · subst hj
    exact hk r r' hr hr' hne
  · rw [hother j hj, hr, Option.some.injEq] at hr'
    exact absurd (congrArg BatchRecord.state hr'.symm) hne

/-! ## Cure (R123, R166) -/

theorem stateDiffers_iff (old new : List BatchRecord) (k : Nat) : stateDiffers old new k = true ↔
    ∃ r r', old[k]? = some r ∧ new[k]? = some r' ∧ r'.state ≠ r.state := by
  unfold stateDiffers
  cases old[k]? with
  | none => simp
  | some r =>
    cases new[k]? with
    | none => simp
    | some r' => simp [ne_comm]

/-- A difference depends on the states of the first table alone. -/
theorem stateDiffers_congr {old old' : List BatchRecord} (new : List BatchRecord) {k : Nat}
    (h : old[k]?.map BatchRecord.state = old'[k]?.map BatchRecord.state) :
    stateDiffers old new k = stateDiffers old' new k := by
  unfold stateDiffers
  cases hold : old[k]? with
  | none =>
    rw [hold] at h
    rw [Option.map_eq_none_iff.1 h.symm]
  | some r =>
    rw [hold] at h
    obtain ⟨r', hr', hstate⟩ := Option.map_eq_some_iff.1 h.symm
    rw [hr']
    cases new[k]? with
    | none => rfl
    | some x => simp only [hstate]

theorem lastChanged_eq_some {old new : List BatchRecord} {k : Nat} (hk : stateDiffers old new k = true)
    (hlast : ∀ j, k < j → stateDiffers old new j = false) : lastChanged old new = some k := by
  obtain ⟨r, -, hr, -⟩ := (stateDiffers_iff old new k).1 hk
  have hmem : k ∈ (List.range old.length).reverse :=
    List.mem_reverse.2 (List.mem_range.2 (List.getElem?_eq_some_iff.1 hr).1)
  have hfalling : (List.range old.length).reverse.Pairwise fun a b => b < a :=
    List.pairwise_reverse.2 List.pairwise_lt_range
  obtain ⟨a, b, hl⟩ := List.append_of_mem hmem
  rw [hl] at hfalling
  obtain ⟨-, -, hbefore⟩ := List.pairwise_append.1 hfalling
  refine List.find?_eq_some_iff_append.2 ⟨hk, a, b, hl, fun j hj => ?_⟩
  rw [hlast j (hbefore j hj k List.mem_cons_self)]
  rfl

theorem lastChanged_eq_none {old new : List BatchRecord} (h : ∀ k, stateDiffers old new k = false) :
    lastChanged old new = none := List.find?_eq_none.2 fun k _ => by simp [h k]

/-- The latch after an evaluation is on the record that changed last (R166). -/
theorem State.evaluate_touched (u : State) (which : Nat → Bool) : (u.evaluate which).link.touched =
    match lastChanged u.batch.records (u.judgedRecords which) with
    | some k => ((u.setRecords (u.judgedRecords which)).touchBatch k).link.touched
    | none => u.link.touched := by
  unfold State.evaluate
  simp only
  cases lastChanged u.batch.records (u.judgedRecords which) <;> split <;> rfl

/-- An evaluation of records whose states are those of an earlier moment. -/
theorem State.recordsTouched_evaluate {s u : State} (which : Nat → Bool) (hc : u.claims = s.claims)
    (hr : ∀ k : Nat, s.batch.records[k]?.map BatchRecord.state = u.batch.records[k]?.map BatchRecord.state)
    (hl : u.link.touched = s.link.touched) : s.RecordsTouched (u.evaluate which) := by
  have hrecords : (u.evaluate which).batch.records = u.judgedRecords which := by rw [State.evaluate_batch]
  have hdiffers : ∀ k, stateDiffers u.batch.records (u.judgedRecords which) k = true ↔
      ∃ r r', s.batch.records[k]? = some r ∧ (u.judgedRecords which)[k]? = some r' ∧ r'.state ≠ r.state := fun k => by
    rw [← stateDiffers_congr _ (hr k), stateDiffers_iff]
  refine ⟨(u.evaluate_claims which).trans hc, fun k r r' hk hk' hne hlast => ?_, fun hstand => ?_⟩
  · rw [hrecords] at hk'
    have hchanged : lastChanged u.batch.records (u.judgedRecords which) = some k := by
      refine lastChanged_eq_some ((hdiffers k).2 ⟨r, r', hk, hk', hne⟩) fun j hj => Bool.eq_false_iff.2 fun hd => ?_
      obtain ⟨x, x', hx, hx', hxne⟩ := (hdiffers j).1 hd
      exact hxne (hlast j x x' hj hx (hrecords ▸ hx'))
    rw [State.evaluate_touched, hchanged]
    simp only [State.touchBatch, State.setRecords, hk']
  · have hunchanged : lastChanged u.batch.records (u.judgedRecords which) = none := by
      refine lastChanged_eq_none fun k => Bool.eq_false_iff.2 fun hd => ?_
      obtain ⟨r, r', hk, hk', hne⟩ := (hdiffers k).1 hd
      exact hne (hstand k r r' hk (hrecords ▸ hk'))
    rw [State.evaluate_touched, hunchanged]
    exact hl

theorem State.RecordsTouched.judgeFinished {s t : State} (h : s.RecordsTouched t) : s.RecordsTouched t.judgeFinished :=
  h.after t.judgeFinished_claims (by rw [State.judgeFinished_batch]) (by rw [State.judgeFinished_link])

theorem State.judgeMix_records (s : State) : s.judgeMix.batch.records = s.batch.records := by
  unfold State.judgeMix
  split <;> rfl

theorem State.recordsTouched_takeSample (s : State) (humidity : HumidityReading) :
    s.RecordsTouched (s.takeSample humidity) := by
  have hcredited : s.RecordsTouched s.creditDose.evaluateAll :=
    State.recordsTouched_evaluate _ rfl (getElem?_state_map (f := (·.addDose s.doseGain)) (fun _ => rfl) _) rfl
  have hdry : s.RecordsTouched (s.creditDose.evaluateAll.judgeDryRun humidity) := hcredited.after rfl rfl rfl
  exact (hdry.after (State.judgeMix_claims _) (State.judgeMix_records _) (by rw [State.judgeMix_link])).judgeFinished

theorem State.recordsTouched_takeRevolution (s : State) : s.RecordsTouched s.takeRevolution :=
  State.RecordsTouched.judgeFinished
    (State.recordsTouched_evaluate _ rfl (getElem?_state_map (f := BatchRecord.addGrind) (fun _ => rfl) _) rfl)

theorem State.recordsTouched_writeTuning (s : State) (k : Fin 13) (v : Nat) : s.RecordsTouched (s.writeTuning k v) := by
  unfold State.writeTuning
  simp only
  split
  · exact .of_eq (by simp) (by simp) (by simp)
  · split
    · exact (State.recordsTouched_evaluate (s := s) (u := s.setTuning k v) _ rfl (fun _ => rfl) rfl).judgeFinished
    · split <;> exact .of_eq rfl rfl rfl

theorem State.recordsTouched_takeTuningWrite (s : State) (p : Port) (req : List Byte) :
    s.RecordsTouched (s.takeTuningWrite p req) := by
  unfold State.takeTuningWrite
  refine State.recordsTouched_ite (.refl s) (State.recordsTouched_ite (.of_eq rfl rfl rfl) ?_)
  split
  · exact .of_eq rfl rfl rfl
  · exact State.recordsTouched_ite (.of_eq rfl rfl rfl)
      (State.recordsTouched_ite (.of_eq rfl rfl rfl) ((s.recordsTouched_writeTuning _ _).after rfl rfl rfl))

/-! ## A write of an annotation (R131, R135) -/

theorem BatchUnit.getElem?_of_find {u : BatchUnit} {seq : Word} {k : Nat} (h : u.find seq = some k) :
    ∃ r, u.records[k]? = some r := by
  unfold BatchUnit.find at h
  obtain ⟨hk, -⟩ := List.findIdx?_eq_some_iff_getElem.1 h
  exact ⟨_, List.getElem?_eq_getElem hk⟩

theorem State.touchesYoungest_annotate {s : State} {k : Nat} {r : BatchRecord} (hr : s.batch.records[k]? = some r)
    (w : AnnotationWrite) (hit : Port → Word → Bool) : s.TouchesYoungest (s.annotate k w hit) := by
  obtain ⟨-, ⟨hrecord, hothers, -, -, htouched⟩, -⟩ := State.annotate_annotates hr w hit
  refine State.touchesYoungest_of_one hothers fun x x' _ hx' _ => htouched.trans ?_
  rw [hrecord, Option.some.injEq] at hx'
  rw [← hx']
  rfl

theorem State.takeBatchCommit_touches (s : State) (p : Port) (req : List Byte) :
    (s.takeBatchCommit p req).claims = s.claims ∧ s.TouchesYoungest (s.takeBatchCommit p req) := by
  have hrefused : ∀ st, (s.refuse p st).claims = s.claims ∧ s.TouchesYoungest (s.refuse p st) := fun st =>
    ⟨rfl, (State.recordStatesStand_of_eq rfl).touchesYoungest⟩
  unfold State.takeBatchCommit
  split
  · exact hrefused _
  · split
    · exact hrefused _
    next w _ =>
      split
      · exact hrefused _
      · split
        · exact hrefused _
        next k hfind =>
          obtain ⟨r, hr⟩ := BatchUnit.getElem?_of_find hfind
          have hyoungest : s.TouchesYoungest (s.commit p k (wordAt req 2) w) :=
            State.touchesYoungest_annotate (s := s.setReservation p .none) hr _ _
          exact ⟨(State.answer_claims _ _ _ _).trans (s.commit_claims p k _ _), hyoungest.answer p _ _⟩

/-! ## A closure judged (R109 to R112) -/

theorem State.touchesYoungest_openRecord (s : State) (mass : Option Nat) : s.TouchesYoungest (s.openRecord mass) := by
  obtain ⟨-, hbatch, -⟩ := s.openRecord_opens mass
  refine State.RecordStatesStand.touchesYoungest fun k r r' hr hr' => ?_
  rw [hbatch] at hr'
  rw [List.getElem?_append_left (List.getElem?_eq_some_iff.1 hr).1, hr, Option.some.injEq] at hr'
  rw [hr']

theorem State.touchesYoungest_resetYoungest (s : State) (f : Option Nat → Option Nat) :
    s.TouchesYoungest (s.resetYoungest f) := by
  obtain hempty | ⟨older, y, hy⟩ := List.eq_nil_or_concat' s.batch.records
  · exact fun k r _ hr => by simp [hempty] at hr
  · obtain ⟨-, hbatch, -, htouched, -⟩ := State.resetYoungest_sets hy f
    have hcases := getElem?_append_singleton_cases older y (s.credited (y.setBack (f y.mass)) 0 0)
    have hrecords : (s.resetYoungest f).batch.records = older ++ [s.credited (y.setBack (f y.mass)) 0 0] := by rw [hbatch]
    refine State.touchesYoungest_of_one (k := older.length) (fun j hj => ?_) fun r r' hr hr' hne => ?_
    · rw [hrecords, hy]
      exact ((hcases j).resolve_right fun h => hj h.1).2.symm
    · rw [hy, List.getElem?_concat_length, Option.some.injEq] at hr
      rw [hrecords, List.getElem?_concat_length, Option.some.injEq] at hr'
      subst hr hr'
      rw [htouched, if_neg]
      · rfl
      · rintro ⟨hfresh, hcure⟩
        exact hne (Eq.trans hcure hfresh.symm)

theorem State.touchesYoungest_judgeClosure (s : State) (after : MassSample) :
    s.TouchesYoungest (s.judgeClosure after) := by
  unfold State.judgeClosure
  split
  · unfold State.unmeasuredClosure
    split
    · exact s.touchesYoungest_openRecord none
    · exact s.touchesYoungest_resetYoungest id
  · split
    · exact (State.recordStatesStand_of_eq rfl).touchesYoungest
    · split
      · exact s.touchesYoungest_openRecord _
      · exact s.touchesYoungest_resetYoungest _

/-! ## Retirement (R138 to R140) -/

theorem State.retire_records (s : State) : s.retire.batch.records = [] := by
  unfold State.retire
  split
  next h => exact List.isEmpty_iff.1 h
  next =>
    obtain ⟨-, hbatch, -⟩ := s.retireRecords.breakReservations_breaks fun _ _ => true
    rw [State.postAll_batch, hbatch]
    rfl

/-- A record that is retired has no place any more. -/
theorem State.recordsTouched_retire (s : State) : s.RecordsTouched s.retire :=
  .of_stand s.retire_claims (fun k r r' _ hr' => by simp [State.retire_records] at hr') (by rw [State.retire_link])

end Sys2Proof.Machine
end

section
/-! The last-touched latch after every command (R166): those that write batch records or judge them, and all others. -/

namespace Sys2Proof.Machine

/-! ## The claim table and the chamber -/

theorem State.deriveSecured_records (s : State) : s.deriveSecured.batch.records = s.batch.records :=
  (congrArg BatchUnit.records (State.batchStands_deriveSecured s).table :)

theorem State.claimsTouched_takeAlter (s : State) (p : Port) (req : List Byte) :
    s.ClaimsTouched (s.takeAlter p req) := by
  unfold State.takeAlter
  split
  · exact .of_eq rfl rfl rfl
  next i _ =>
    split
    · exact .of_eq rfl rfl rfl
    next x _ =>
      have hset : s.ClaimsTouched (s.setClaim i ((s.claim i).alter x)) := by
        refine .of_states (fun j => ?_) rfl rfl
        rw [State.claim_setClaim]
        split
        next hij => rw [← hij]; rfl
        next => rfl
      unfold State.alterEntry
      exact (State.claimsTouched_ite (hset.after (by simp) (by simp) (by simp)) hset).answer _ _ _

theorem State.claimsTouched_chamberClock (s : State) :
    s.ClaimsTouched { s with claims := s.claims.map Claim.second, sensors := s.sensors.second } := by
  refine .of_states (fun i => ?_) rfl rfl
  have hmap : ({ s with claims := s.claims.map Claim.second, sensors := s.sensors.second } : State).claim i =
      (s.claim i).second := Vector.getElem_map ..
  rw [hmap]
  unfold Claim.second
  cases hstate : (s.claim i).state <;> simp only [hstate]
  split <;> simp [hstate]

theorem State.claimsTouched_takeDraft (s : State) (p : Port) (req : List Byte) : s.ClaimsTouched (s.takeDraft p req) := by
  unfold State.takeDraft
  (repeat' split)
  · exact .of_eq rfl rfl rfl
  · exact .of_eq rfl rfl rfl
  · exact ⟨rfl, rfl⟩

theorem State.claimsTouched_takeArm (s : State) (p : Port) (req : List Byte) : s.ClaimsTouched (s.takeArm p req) := by
  unfold State.takeArm
  (repeat' split)
  · exact .of_eq rfl rfl rfl
  · exact .of_eq rfl rfl rfl
  · exact (State.claimsTouched_conclude rfl (by simp) (by simp)).answer _ _ _

theorem State.claimsTouched_takeDisarm (s : State) (p : Port) (req : List Byte) :
    s.ClaimsTouched (s.takeDisarm p req) := by
  unfold State.takeDisarm
  split
  · exact .of_eq rfl rfl rfl
  next i _ =>
    have hdisarmed : s.ClaimsTouched (s.disarm i) := by
      unfold State.disarm
      split
      · exact State.claimsTouched_conclude rfl (by simp) (by simp)
      · exact ⟨rfl, rfl⟩
    exact hdisarmed.answer _ _ _

theorem State.claimsTouched_takeHaltClear (s : State) (p : Port) : s.ClaimsTouched (s.takeHaltClear p) :=
  State.claimsTouched_ite (.of_eq rfl rfl rfl) (State.claimsTouched_ite (.of_eq rfl rfl rfl)
    (State.claimsTouched_ite (.of_eq rfl rfl rfl)
      ((State.claimsTouched_conclude rfl (by simp) (by simp)).answer _ _ _)))

theorem State.claimsTouched_takeGrant (s : State) (i : ClaimIdx) (arming : Word) :
    s.ClaimsTouched (s.takeGrant i arming) := by
  unfold State.takeGrant
  exact State.claimsTouched_conclude rfl (by split <;> simp) (by split <;> simp)

theorem State.claimsTouched_takeYield (s : State) (i : ClaimIdx) (displaced : Bool) :
    s.ClaimsTouched (s.takeYield i displaced) := by
  unfold State.takeYield
  exact State.claimsTouched_conclude rfl (by (repeat' split) <;> simp) (by (repeat' split) <;> simp)

/-! ## The rotor monitor -/

theorem State.claimsTouched_probeFails (s : State) : s.ClaimsTouched s.probeFails :=
  State.claimsTouched_ite (.of_eq (by simp) (by simp) (by simp))
    (State.claimsTouched_conclude rfl (by simp) (by simp))

theorem State.claimsTouched_stall (s : State) : s.ClaimsTouched s.stall :=
  State.claimsTouched_ite (.of_eq (by simp) (by simp) (by simp)) s.claimsTouched_probeFails

theorem State.claimsTouched_takeEarly (s : State) : s.ClaimsTouched s.takeEarly :=
  State.claimsTouched_ite (State.claimsTouched_conclude rfl (by simp) (by simp)) (.of_eq rfl rfl rfl)

/-! ## The service link -/

theorem State.claimsTouched_reply (s : State) (answer : Word) (sack : Nat) : s.ClaimsTouched (s.reply answer sack) :=
  .of_eq rfl rfl rfl

theorem State.claimsTouched_takePeek (s : State) (table entry w : Nat) : s.ClaimsTouched (s.takePeek table entry w) :=
  State.claimsTouched_ite (.of_eq rfl rfl rfl) (State.claimsTouched_ite (.of_eq rfl rfl rfl) (.of_eq rfl rfl rfl))

theorem State.claimsTouched_takePoke (s : State) (table entry w : Nat) : s.ClaimsTouched (s.takePoke table entry w) :=
  .of_eq rfl rfl rfl

theorem State.claimsTouched_takeVerify (s : State) : s.ClaimsTouched s.takeVerify := by
  unfold State.takeVerify
  split <;> exact .of_eq rfl rfl rfl

/-! ## Every command -/

theorem onRequest_claimsTouched {s : State} {p : Port} {code : Byte} {f : List Byte → State}
    (hf : ∀ req, s.ClaimsTouched (f req)) : ∃ t, onRequest s p code f = .next t ∧ s.ClaimsTouched t :=
  onRequest_next (.refl s) hf

theorem takeFrame_claimsTouched {s : State} {bits : List Bool} {kind : FrameKind} {f : Word → State}
    (hf : ∀ frame, s.ClaimsTouched (f frame)) : ∃ t, takeFrame s bits kind f = .next t ∧ s.ClaimsTouched t :=
  takeFrame_next (.refl s) (fun _ _ => .of_eq rfl rfl rfl) fun frame _ => (hf frame).after rfl rfl rfl

theorem ite_claimsTouched {c : Prop} [Decidable c] {s t : State} (h : s.ClaimsTouched t) :
    ∃ u, (if c then Host.Outcome.next t else Host.Outcome.next s : Answer) = .next u ∧ s.ClaimsTouched u :=
  ite_next h (.refl s)

/-- A change of an input, of which only a real change is an event (R48). -/
theorem ite_claimsTouched_change {c : Prop} [Decidable c] {s t : State} (h : s.ClaimsTouched t) :
    ∃ u, (if c then Host.Outcome.next s else Host.Outcome.next t : Answer) = .next u ∧ s.ClaimsTouched u :=
  ite_next (.refl s) h

/-- The commands that write or judge batch records, and RESET_RELEASE. -/
def writesRecords : Instr → Bool
  | .resetRelease _ | .batchCommit _ | .tuningWrite _ | .doseSample _ | .grindCredit | .massAfterSettleEnd | .retirement
  | .pokeDataFrame _ => true
  | _ => false

/-- After every other command the latch follows the claim table. -/
theorem exec_claimsTouched (s : State) (c : Instr) (hc : writesRecords c = false) :
    ∃ t, exec c s = .next t ∧ s.ClaimsTouched t := by
  cases c with
  | resetRelease | batchCommit | tuningWrite | doseSample | grindCredit | massAfterSettleEnd | retirement
  | pokeDataFrame => cases hc
  | transactionStart p =>
    show ∃ t, execTransactionStart p s = .next t ∧ s.ClaimsTouched t
    unfold execTransactionStart
    split <;> exact ⟨_, rfl, .of_eq rfl rfl rfl⟩
  | transactionTaken p x => exact ite_next (.of_eq rfl rfl rfl) (.of_eq rfl rfl rfl)
  | busyTransaction x => exact ite_claimsTouched_change (.of_eq rfl rfl rfl)
  | shortTransaction x => exact ite_claimsTouched (.of_eq rfl rfl rfl)
  | nop p => exact onRequest_claimsTouched fun _ => .of_eq rfl rfl rfl
  | status p =>
    refine onRequest_claimsTouched fun req => ?_
    unfold State.takeStatus
    (repeat' split) <;> exact .of_eq rfl rfl rfl
  | noticeRead p => exact onRequest_claimsTouched fun _ => .of_eq rfl rfl rfl
  | noticeClear p => exact onRequest_claimsTouched fun _ => .of_eq rfl rfl rfl
  | noticeLevel p =>
    refine onRequest_claimsTouched fun req => ?_
    unfold State.takeNoticeLevel
    split <;> exact .of_eq rfl rfl rfl
  | accessRead p =>
    refine onRequest_claimsTouched fun req => ?_
    unfold State.takeAccessRead
    split <;> exact .of_eq rfl rfl rfl
  | accessWrite p =>
    refine onRequest_claimsTouched fun req => ?_
    unfold State.takeAccessWrite
    (repeat' split) <;> exact .of_eq rfl rfl rfl
  | portReset p =>
    exact onRequest_claimsTouched fun _ =>
      State.claimsTouched_conclude rfl (by simp [State.setReservation]) (by simp)
  | rotorRead p =>
    refine onRequest_claimsTouched fun req => ?_
    unfold State.takeRotorRead
    split <;> exact .of_eq rfl rfl rfl
  | draft p => exact onRequest_claimsTouched fun req => s.claimsTouched_takeDraft p req
  | arm p => exact onRequest_claimsTouched fun req => s.claimsTouched_takeArm p req
  | disarm p => exact onRequest_claimsTouched fun req => s.claimsTouched_takeDisarm p req
  | alter p => exact onRequest_claimsTouched fun req => s.claimsTouched_takeAlter p req
  | claimRead p =>
    refine onRequest_claimsTouched fun req => ?_
    unfold State.takeClaimRead
    (repeat' split) <;> exact .of_eq rfl rfl rfl
  | batchRead p =>
    refine onRequest_claimsTouched fun req => ?_
    unfold State.takeBatchRead
    (repeat' split) <;> exact .of_eq rfl rfl rfl
  | batchReserve p =>
    refine onRequest_claimsTouched fun req => ?_
    unfold State.takeBatchReserve
    (repeat' split) <;> exact .of_eq rfl rfl rfl
  | retiredPeek p =>
    refine onRequest_claimsTouched fun req => ?_
    unfold State.takeRetiredPeek
    (repeat' split) <;> exact .of_eq rfl rfl rfl
  | retiredTake p =>
    refine onRequest_claimsTouched fun req => ?_
    unfold State.takeRetiredTake
    (repeat' split) <;> exact .of_eq rfl rfl rfl
  | haltClear p => exact onRequest_claimsTouched fun _ => s.claimsTouched_takeHaltClear p
  | tuningRead p =>
    refine onRequest_claimsTouched fun req => ?_
    unfold State.takeTuningRead
    split <;> exact .of_eq rfl rfl rfl
  | budgetWrite => exact ite_claimsTouched_change (.of_eq (by simp) (by simp) (by simp))
  | arbitrationPass together => exact ite_claimsTouched (.of_eq rfl rfl rfl)
  | grant =>
    show ∃ t, execGrant s = .next t ∧ s.ClaimsTouched t
    unfold execGrant
    split
    · exact ⟨_, rfl, s.claimsTouched_takeGrant _ _⟩
    all_goals exact ⟨_, rfl, .refl s⟩
  | yield =>
    show ∃ t, execYield s = .next t ∧ s.ClaimsTouched t
    unfold execYield
    split
    · exact ⟨_, rfl, s.claimsTouched_takeYield _ _⟩
    all_goals exact ⟨_, rfl, .refl s⟩
  | chamberClockIncrement => exact ⟨_, rfl, s.claimsTouched_chamberClock⟩
  | runTimeExpiry i => exact ite_claimsTouched (State.claimsTouched_conclude rfl (by simp) (by simp))
  | deadlineExpiry i => exact ite_claimsTouched (State.claimsTouched_conclude rfl (by simp) (by simp))
  | lidSwitchChange closed =>
    exact ite_claimsTouched_change
      (State.claimsTouched_conclude rfl (by simp [State.deriveSecured_records]) (by simp))
  | binSwitchChange closed =>
    refine ite_claimsTouched_change (State.claimsTouched_conclude rfl ?_ (by simp))
    exact (congrArg BatchUnit.records (State.judgeForced_batch _ _)).trans (State.deriveSecured_records _)
  | latchFeedbackChange engaged =>
    exact ite_claimsTouched_change
      (State.claimsTouched_conclude rfl (by simp [State.deriveSecured_records]) (by simp))
  | cutoutChange closed =>
    exact ite_claimsTouched_change
      (State.claimsTouched_conclude rfl (by split <;> simp) (by split <;> simp))
  | disagreementTimerExpiry => exact ite_claimsTouched (State.claimsTouched_conclude rfl (by simp) (by simp))
  | thermistorReport plate air => exact ⟨_, rfl, State.claimsTouched_conclude rfl (by simp) (by simp)⟩
  | loadCellConversion reading => exact ⟨_, rfl, .of_eq rfl rfl rfl⟩
  | rotorPulse => exact ite_next s.claimsTouched_takeEarly (.of_eq (by simp) (by simp) (by simp))
  | rotorAtRest => exact ite_claimsTouched (.of_eq (by simp) (by simp) (by simp))
  | startGraceRunsOut => exact ite_claimsTouched s.claimsTouched_stall
  | stallDeadlinePassed => exact ite_claimsTouched s.claimsTouched_stall
  | jogPhaseEnd => exact ite_claimsTouched (.of_eq rfl rfl rfl)
  | probeWindowEnd => exact ite_claimsTouched s.claimsTouched_probeFails
  | onTimeEnd => exact ite_claimsTouched (.of_eq rfl rfl rfl)
  | offTimeEnd => exact ite_claimsTouched (.of_eq rfl rfl rfl)
  | cleanRunTimerExpiry => exact ite_claimsTouched (.of_eq rfl rfl rfl)
  | massBeforeSample =>
    show ∃ t, execMassBeforeSample s = .next t ∧ s.ClaimsTouched t
    unfold execMassBeforeSample
    split
    · refine ⟨_, rfl, .of_eq rfl ?_ rfl⟩
      unfold BatchUnit.takeLost
      split <;> rfl
    all_goals exact ⟨_, rfl, .refl s⟩
  | massAfterSettleStart =>
    show ∃ t, execMassAfterSettleStart s = .next t ∧ s.ClaimsTouched t
    unfold execMassAfterSettleStart
    split <;> exact ⟨_, rfl, .of_eq rfl rfl rfl⟩
  | binInsertion =>
    show ∃ t, execBinInsertion s = .next t ∧ s.ClaimsTouched t
    unfold execBinInsertion
    split <;> exact ⟨_, rfl, .of_eq rfl rfl rfl⟩
  | tareSettleEnd => exact ite_claimsTouched (.of_eq rfl rfl rfl)
  | idleFrame bits => exact takeFrame_claimsTouched fun _ => s.claimsTouched_reply _ _
  | unknownCommandFrame bits => exact takeFrame_claimsTouched fun _ => s.claimsTouched_reply _ _
  | peek table entry w low => exact takeFrame_claimsTouched fun _ => s.claimsTouched_takePeek _ _ _
  | poke table entry w low => exact takeFrame_claimsTouched fun _ => s.claimsTouched_takePoke _ _ _
  | verifyFrame bits => exact takeFrame_claimsTouched fun _ => s.claimsTouched_takeVerify
  | watch bits => exact takeFrame_claimsTouched fun _ => s.claimsTouched_reply _ _
  | touched bits => exact takeFrame_claimsTouched fun _ => s.claimsTouched_reply _ _
  | call bits =>
    have hposted : s.ClaimsTouched ((s.postAll .serviceCall).reply 0 1) := .of_eq rfl rfl rfl
    exact takeFrame_claimsTouched fun _ => hposted
  | resync => exact ite_claimsTouched (.of_eq rfl rfl rfl)

/-- After a command that writes or judges records the latch follows them, but that a write of an annotation and the
judging of a closure may move it with no state changed. -/
theorem exec_recordsTouched (s : State) (c : Instr) (hc : writesRecords c = true)
    (hreset : ∀ first, c ≠ .resetRelease first) (hpoke : ∀ bits, c ≠ .pokeDataFrame bits) :
    ∃ t, exec c s = .next t ∧ t.claims = s.claims ∧ s.TouchesYoungest t ∧
      ((∀ p, c ≠ .batchCommit p) → c ≠ .massAfterSettleEnd → s.RecordStatesStand t →
        t.link.touched = s.link.touched) := by
  have hall : ∀ {x : Answer}, (∃ t, x = .next t ∧ s.RecordsTouched t) → ∃ t, x = .next t ∧ t.claims = s.claims ∧
      s.TouchesYoungest t ∧ ((∀ p, c ≠ .batchCommit p) → c ≠ .massAfterSettleEnd → s.RecordStatesStand t →
        t.link.touched = s.link.touched) := by
    rintro _ ⟨t, ht, hclaims, hyoungest, hstands⟩
    exact ⟨t, ht, hclaims, hyoungest, fun _ _ => hstands⟩
  cases c with
  | resetRelease first => exact absurd rfl (hreset first)
  | pokeDataFrame bits => exact absurd rfl (hpoke bits)
  | batchCommit p =>
    obtain ⟨t, ht, hclaims, hyoungest⟩ := onRequest_next (P := fun t => t.claims = s.claims ∧ s.TouchesYoungest t)
      (p := p) (code := 0x12) ⟨rfl, (State.recordStatesStand_of_eq rfl).touchesYoungest⟩ fun req =>
        s.takeBatchCommit_touches p req
    exact ⟨t, ht, hclaims, hyoungest, fun hne => absurd rfl (hne p)⟩
  | massAfterSettleEnd =>
    have hset : ∀ v, s.TouchesYoungest (s.setSettle v) := fun _ => (State.recordStatesStand_of_eq rfl).touchesYoungest
    have hother : ∀ {P : Prop}, (∀ p : Port, Instr.massAfterSettleEnd ≠ .batchCommit p) →
        Instr.massAfterSettleEnd ≠ .massAfterSettleEnd → P := fun _ hne => absurd rfl hne
    show ∃ t, execMassAfterSettleEnd s = .next t ∧ _
    unfold execMassAfterSettleEnd
    (repeat' split)
    · exact ⟨_, rfl, State.judgeClosure_claims _ _, (s.setSettle .idle).touchesYoungest_judgeClosure _, hother⟩
    · exact ⟨_, rfl, rfl, hset .cut, hother⟩
    · exact ⟨_, rfl, rfl, (State.recordStatesStand_of_eq rfl).touchesYoungest, hother⟩
  | tuningWrite p => exact hall (onRequest_next (.refl s) fun req => s.recordsTouched_takeTuningWrite p req)
  | doseSample humidity =>
    have hsample := State.RecordsTouched.since (s := s) (State.recordsTouched_takeSample { s with
      sensors := { s.sensors.storeHumidity humidity with
        samplesDue := (s.sensors.storeHumidity humidity).samplesDue - 1 } } humidity) rfl rfl rfl
    exact hall (ite_next hsample (.refl s))
  | grindCredit =>
    have hcredit := State.RecordsTouched.since (s := s) (State.recordsTouched_takeRevolution { s with
      rotor := { s.rotor with handed := s.rotor.handed - 1 } }) rfl rfl rfl
    exact hall (ite_next hcredit (.refl s))
  | retirement =>
    refine hall ?_
    show ∃ t, execRetirement s = .next t ∧ s.RecordsTouched t
    unfold execRetirement
    split
    next rest _ => exact ⟨_, rfl, (s.binTaken rest).recordsTouched_retire.since rfl rfl rfl⟩
    all_goals exact ⟨_, rfl, .refl s⟩
  | _ => cases hc

/-! ## The statement -/

/-- Settles O39: an event moves the claim table or the batch records, and the latch follows the one that it moves. -/
theorem lastTouchedFollowsTheChanges : Obligations.LastTouchedFollowsTheChanges := by
  intro c s t hreset hpoke hexec
  cases hc : writesRecords c with
  | false =>
    obtain ⟨u, hu, hrecords, htouched⟩ := exec_claimsTouched s c hc
    obtain rfl : t = u := Host.Outcome.next.inj (hexec.symm.trans hu)
    refine ⟨fun i hi hlast => ?_, (State.recordStatesStand_of_eq hrecords).touchesYoungest, fun _ _ hclaims _ => ?_⟩
    · exact htouched.trans (touchedAfter_highest (Ne.symm hi) fun j hj => (hlast j hj).symm)
    · exact htouched.trans (touchedAfter_of_none fun i => (hclaims i).symm)
  | true =>
    obtain ⟨u, hu, hclaims, hyoungest, hstands⟩ := exec_recordsTouched s c hc hreset hpoke
    obtain rfl : t = u := Host.Outcome.next.inj (hexec.symm.trans hu)
    refine ⟨fun i hi _ => ?_, hyoungest, fun hcommit hclosure _ => hstands hcommit hclosure⟩
    exact absurd (congrArg Claim.state (State.claim_congr hclaims i)) hi

end Sys2Proof.Machine
end
